-- ==== Sys2Proof/Word.lean ====
section
/-! DEFINITION. Word.lean: the numbers the part counts with and the raw frame of the coach line. -/

namespace Sys2Proof

/-- One byte of a frame or of the configuration image; also a request level, duty or signal value, 0 to 255. -/
abbrev Byte := BitVec 8

/-- CH0 to CH19 (section 1.1). -/
abbrev Channel := Fin 20

/-- Banks A to D, in that order (section 1.1). -/
abbrev Bank := Fin 4

/-- A station number on the coach line, 0 to 15. -/
abbrev Station := Fin 16

/-- W0 to W7 (section 2.5). -/
abbrev WiredInput := Fin 8

/-- 0 SAFETY, 1 OPERATIONAL, 2 COMFORT, 3 AMENITY; a lower number ranks higher (R2, R3). -/
abbrev Tier := Fin 4

/-- A classical CAN frame: the 11-bit identifier and the data field (section 12.1). -/
structure Frame where
  ident : BitVec 11
  data : List Byte
  deriving DecidableEq, Repr

end Sys2Proof
end

