-- ==== Sys2Proof/Syntax.lean ====
section
/-! DEFINITION. Syntax.lean: the commands of the block, one constructor per row of spec/opcode_table.json,
in the table's order. -/

namespace Sys2Proof

/-- A command: one whole, indivisible step of the part (95_what_each_step_holds). -/
inductive Instr where
  /-- RESET_RELEASE (R172): a power-on or external reset is released; the levels of STN3 to STN0. -/
  | resetRelease (straps : BitVec 4)
  /-- CONFIGURATION_READ_END (R174): the bytes that the SPI read brought. -/
  | configurationReadEnd (image : List Byte)
  /-- SERVICE_RESTART (R179): the restart is carried out; the levels of STN3 to STN0. -/
  | serviceRestart (straps : BitVec 4)
  /-- FEED_MEASUREMENT (R134): a bank's feed, in 0.1 V. -/
  | feedMeasurement (bank : Bank) (volts : Nat)
  /-- KSUP_MEASUREMENT (R138): the supply sense, in 0.1 V. -/
  | ksupMeasurement (volts : Nat)
  /-- BAND_FALL (R138). -/
  | bandFall
  /-- BAND_RISE (R139). -/
  | bandRise
  /-- DIE_TEMPERATURE_MEASUREMENT (R141): whole degrees Celsius. -/
  | dieTemperatureMeasurement (degrees : Int)
  /-- CURRENT_SAMPLE (R101, R114): the mean current in dA and the switch temperature of a channel. -/
  | currentSample (ch : Channel) (current : Nat) (degrees : Int)
  /-- PWM_PERIOD_START (R87, R145). -/
  | pwmPeriodStart (ch : Channel)
  /-- UPDATE (R102). -/
  | update (ch : Channel)
  /-- STALL (R110). -/
  | stall (ch : Channel)
  /-- OPEN (R112). -/
  | openLoad (ch : Channel)
  /-- RETRY_TIMER_EXPIRY (R126). -/
  | retryTimerExpiry (ch : Channel)
  /-- CLEAN_RUN_TIMER_EXPIRY (R17). -/
  | cleanRunTimerExpiry (ch : Channel)
  /-- WIRED_INPUT_PIN_CHANGE (R37): the level the pin has now; grounded is active. -/
  | wiredInputPinChange (input : WiredInput) (grounded : Bool)
  /-- DEBOUNCE_EXPIRY (R37). -/
  | debounceExpiry (input : WiredInput)
  /-- AGEING_STEP (R29). -/
  | ageingStep
  /-- SIGNAL (R27): the frame's pairs of signal number and value, in order. -/
  | signal (sender : Station) (entries : List (Byte × Byte))
  /-- DRAW (R43): the frame's four words, for tiers 0 to 3. -/
  | draw (sender : Station) (word0 word1 word2 word3 : BitVec 16)
  /-- PEER_ENTRY_STALE (R45). -/
  | peerEntryStale (station : Station)
  /-- PEER_ENTRY_REMOVAL (R45). -/
  | peerEntryRemoval (station : Station)
  /-- INTENT (R50): the fields of a received INTENT. -/
  | intent (sender : Station) (channel : BitVec 5) (tier : Byte) (booking : BitVec 16) (window : Byte)
  /-- WITHDRAW (R53): the channel of a received WITHDRAW. -/
  | withdraw (sender : Station) (channel : BitVec 5)
  /-- OVERFLOW_TIMER_EXPIRY (R55). -/
  | overflowTimerExpiry
  /-- PEER_INTENT_AGE_EXPIRY (R54). -/
  | peerIntentAgeExpiry (station : Station) (channel : BitVec 5)
  /-- OTHER_FRAME_RECEIVED (R156): a received frame that no block takes. -/
  | otherFrameReceived (sender : Station)
  /-- SILENCE_TIMEOUT (R158). -/
  | silenceTimeout
  /-- BUS_OFF (R158). -/
  | busOff
  /-- BUS_OFF_RECOVERY (R158). -/
  | busOffRecovery
  /-- LISTEN_EXPIRY (R177, R159). -/
  | listenExpiry
  /-- HOLD_EXPIRY (R52): of the own entry for a channel. -/
  | holdExpiry (ch : Channel)
  /-- BUDGET_ROUND (R57). -/
  | budgetRound
  /-- WINDOW_END (R90). -/
  | windowEnd (ch : Channel)
  /-- PHASE_TIMER_EXPIRY (R148). -/
  | phaseTimerExpiry (ch : Channel)
  /-- AUTO_OFF_EXPIRY (R152). -/
  | autoOffExpiry (ch : Channel)
  /-- OVERRIDE_EXPIRY (R170). -/
  | overrideExpiry (ch : Channel)
  /-- TRANSMISSION_START (R161). -/
  | transmissionStart
  /-- TRANSMISSION_COMPLETION (R161). -/
  | transmissionCompletion
  /-- TRANSMISSION_FAILURE (R161). -/
  | transmissionFailure
  /-- QUEUE_EXPIRY (R162): the place in the transmit queue, oldest first, of the entry that expires. -/
  | queueExpiry (place : Fin 6)
  /-- STATUS_ROLL (R166). -/
  | statusRoll
  /-- SERVICE_REPLY_QUEUED (R167). -/
  | serviceReplyQueued
  /-- REPLY_LIST_DISCARD (R167). -/
  | replyListDiscard
  /-- CLEAR_FAULT (R129): byte 1 of the request. -/
  | clearFault (sender : Station) (channel : Byte)
  /-- CLEAR_EVENTS (R168): bytes 1 and 2, and bytes 3 to 5, of the request. -/
  | clearEvents (sender : Station) (partMask : BitVec 16) (channelMask : BitVec 24)
  /-- READ_CHANNEL (R169): byte 1 of the request. -/
  | readChannel (sender : Station) (channel : Byte)
  /-- READ_PEERS (R169). -/
  | readPeers (sender : Station)
  /-- READ_EVENTS (R169). -/
  | readEvents (sender : Station)
  /-- OVERRIDE (R170): bytes 1 to 3 of the request. -/
  | override (sender : Station) (channel level duration : Byte)
  /-- RESTART (R171). -/
  | restart (sender : Station)
  /-- UNKNOWN_COMMAND (R182): byte 0 of a request with an unknown code or with missing arguments. -/
  | unknownCommand (sender : Station) (byte0 : Byte)
  deriving DecidableEq, Repr

end Sys2Proof
end

