-- ==== Sys2Proof/Decode.lean ====
section
/-! DEFINITION. Decode.lean: the command that a table word spells, and the command that a frame of the coach line is
(R156, R181, R182). -/

namespace Sys2Proof

/-- The command spelled by the bits of an opcode-table row. No row of spec/opcode_table.json gives bits: every "fields"
list is empty, so no word spells a command. -/
def decodeTableWord (_nbits _w : Nat) : Option Instr := none

/-- The sender field of an identifier (section 12.1). -/
def frameSender (f : Frame) : Station := Fin.ofNat 16 (f.ident.toNat / 16 % 16)

/-- The target field of an identifier (section 12.1). -/
def frameTarget (f : Frame) : Station := Fin.ofNat 16 (f.ident.toNat % 16)

/-- The kind field of an identifier (section 12.1). -/
def frameKind (f : Frame) : Nat := f.ident.toNat / 256

/-- Two bytes, big-endian. -/
def wordOf (a b : Byte) : BitVec 16 := a ++ b

/-- A SIGNAL's pairs, none for an odd length (R181). -/
def pairsOf : List Byte → Option (List (Byte × Byte))
  | [] => some []
  | [_] => none
  | a :: b :: rest => (pairsOf rest).map fun l => (a, b) :: l

/-- A kind-0 frame (R181, section 12.2); none where its length drops it. -/
def intentKind (sender : Station) : List Byte → Option Instr
  | [b0] => if b0.msb then some (.withdraw sender (b0.setWidth 5)) else none
  | [b0, tier, b2, b3, window] =>
    if b0.msb then none else some (.intent sender (b0.setWidth 5) tier (wordOf b2 b3) window)
  | _ => none

/-- A SERVICE_REQUEST addressed to the part (R182, section 12.3); none for a length of 0. A request of an unknown code or
shorter than its least length is UNKNOWN_COMMAND's. -/
def serviceKind (sender : Station) : List Byte → Option Instr
  | [] => none
  | b0 :: args =>
    match b0.toNat, args with
    | 1, c :: _ => some (.clearFault sender c)
    | 2, p1 :: p0 :: c2 :: c1 :: c0 :: _ => some (.clearEvents sender (wordOf p1 p0) (c2 ++ c1 ++ c0))
    | 3, c :: _ => some (.readChannel sender c)
    | 4, _ => some (.readPeers sender)
    | 5, _ => some (.readEvents sender)
    | 6, c :: level :: duration :: _ => some (.override sender c level duration)
    | 7, _ => some (.restart sender)
    | _, _ => some (.unknownCommand sender b0)

/-- R156, R181: the command that a received frame is at a part of station number `own`. A clash frame, a frame of another
target, of another kind or of a wrong length is OTHER_FRAME_RECEIVED. -/
def commandOfFrame (own : Station) (f : Frame) : Instr :=
  let sender := frameSender f
  let taken : Option Instr :=
    if sender = own then none
    else
      match frameKind f, f.data with
      | 0, d => intentKind sender d
      | 1, [a, b, c, d, e, g, h, i] => some (.draw sender (wordOf a b) (wordOf c d) (wordOf e g) (wordOf h i))
      | 2, d => if d.isEmpty || 8 < d.length then none else (pairsOf d).map (.signal sender)
      | 3, d => if frameTarget f = own then serviceKind sender d else none
      | _, _ => none
  taken.getD (.otherFrameReceived sender)

end Sys2Proof
end

