-- ==== Sys2Proof/Config.lean ====
section
/-! DEFINITION. Config.lean: the times and limits the rules fix (in ms unless said), and the free values. -/

namespace Sys2Proof.Config

/-- R29: one ageing step. -/
def ageingStepMs : Nat := 10
/-- R29: the age of a Signal Table entry stops here. -/
def signalAgeMax : Nat := 256
/-- R37: a wired input's debounce. -/
def debounceMs : Nat := 20
/-- R45: a LIVE peer entry turns STALE. -/
def peerStaleMs : Nat := 350
/-- R45, R46: a STALE peer entry is removed, or its age held. -/
def peerRemovalMs : Nat := 1000
/-- R43, R77, R181: bookings on the line are at most this, in dA. -/
def lineBookingMax : Nat := 4095
/-- R49: the Intent List's places. -/
def intentListMax : Nat := 24
/-- R51: the hold window of an own intent. -/
def holdMs : Nat := 40
/-- R54: a peer intent's age limit. -/
def intentAgeMs : Nat := 500
/-- R55: the overflow timer. -/
def overflowMs : Nat := 500
/-- R57: the cadence of budget rounds. -/
def roundMs : Nat := 100
/-- R17: a clean run. -/
def cleanRunMs : Nat := 10000
/-- R102: the update timer. -/
def updateMs : Nat := 10
/-- R112: updates below the open threshold before OPEN. -/
def openUpdates : Nat := 50
/-- R114: a reading at which the switch turns HOT, and the reading below which it turns NORMAL, in °C. -/
def switchHot : Int := 170
def switchCool : Int := 150
/-- R101: the sense saturates here, in dA. -/
def senseMax : Nat := 1023
/-- R138, R139: measurements that confirm a fall and a rise of the own band. -/
def fallCount : Nat := 20
def riseCount : Nat := 500
/-- R139: the margin of a rise, in 0.1 V. -/
def riseMargin : Nat := 4
/-- R158: silence that starts a line loss. -/
def silenceMs : Nat := 500
/-- R159, R176: the listen. -/
def listenMs : Nat := 300
/-- R160: entries of the transmit queue other than DRAW, and STATUS and SERVICE_REPLY together. -/
def otherEntries : Nat := 5
def statusReplyEntries : Nat := 4
/-- R162: expiries of queued frames. -/
def intentExpiryMs : Nat := 200
def replyExpiryMs : Nat := 500
def statusExpiryMs : Nat := 1000
/-- R166: the status roll. -/
def rollMs : Nat := 50
/-- R167: replies still in the reply list are discarded. -/
def replyListMs : Nat := 500
/-- R84: a PWM period. -/
def periodMs : Nat := 5
/-- R86: 2 ms of a 5 ms period, in 255ths of the period. -/
def firstSpan : Nat := 102
/-- R174: the image's length in bytes. -/
def imageBytes : Nat := 848
/-- How many echo changes one step follows up (log 13). -/
def echoFuel : Nat := 4096

/-- FREE VALUE (log 22): what READ_EVENTS carries in the signal number (upper 8 bits) and sender (lower 4 bits)
of a foreign-publisher record that is absent. Section 12.3 states no value. -/
opaque absentForeign : Nat → BitVec 12

/-- FREE VALUE (log 22): what READ_EVENTS carries as the feed state of a bank that no measurement has judged yet. -/
opaque unjudgedFeed : Nat → BitVec 2

end Sys2Proof.Config
end

