-- ==== Sys2Proof/Machine/State.lean ====
section
/-! DEFINITION. State.lean: every piece of state the spec gives the part, block by block (00_scope, Block Overview),
the queue of commands, and the state at reset release. Times are in ms. A timer that can be stopped is an Option. -/

namespace Sys2Proof.Machine

/-- The eleven channel states (R9). -/
inductive ChannelState where
  | off | pending | deferred | slotwait | starting | on | cycling | shed | cooldown | latched | inhibited
  deriving DecidableEq, Repr

/-- The part modes (R23, section 12.3). -/
inductive PartMode where
  | configuring | listening | running | isolated | clashed | limp
  deriving DecidableEq, Repr

/-- The supply bands, lowest first (R60). -/
inductive Band where
  | crank | low | battery | charging
  deriving DecidableEq, Repr

/-- The seven fault kinds, in fault-record order (R118, section 12.2). -/
inductive FaultKind where
  | short | overload | startfail | stall | openLoad | thermal | mismatch
  deriving DecidableEq, Repr

/-- The fault action modes (R120 to R122). -/
inductive ActionMode where
  | latch | retry | report | ignore
  deriving DecidableEq, Repr

/-- The identified class (R96). -/
inductive LoadClass where
  | unknown | filament | motor | resistive | openLoad
  deriving DecidableEq, Repr

/-- The duty modes (R2). -/
inductive DutyMode where
  | pwm | slowCycle
  deriving DecidableEq, Repr

/-- The binding modes (R32). -/
inductive BindingMode where
  | switch | inverse | level
  deriving DecidableEq, Repr

/-- The fallbacks (R33). -/
inductive Fallback where
  | hold | off | full
  deriving DecidableEq, Repr

/-- A bank's feed state (R134). -/
inductive FeedState where
  | inRange | under | over
  deriving DecidableEq, Repr

/-- The part temperature state (R141). -/
inductive PartTemp where
  | normal | warning | shutdown
  deriving DecidableEq, Repr

/-- The reset kinds (R172). -/
inductive ResetKind where
  | cold | warm | serviceRestart
  deriving DecidableEq, Repr

/-- The configuration source record (R174): MEMORY, or BUILT_IN with its cause. -/
inductive ConfigSource where
  | memory | missing | crc | version
  deriving DecidableEq, Repr

/-- The eleven part events, in the order of the event table of R163. -/
inductive PartEvent where
  | configError | limp | clash | isolated | foreignPublisher | intentOverflow | safetyOverbooked | bandDrop | feed
  | dieHot | shutdown
  deriving DecidableEq, Repr

/-- The kinds of load a channel accepts (R2). -/
structure LoadSet where
  filament : Bool
  motor : Bool
  resistive : Bool
  deriving DecidableEq, Repr

/-- The fault record, a set of kinds (R123). -/
structure FaultRecord where
  short : Bool
  overload : Bool
  startfail : Bool
  stall : Bool
  openLoad : Bool
  thermal : Bool
  mismatch : Bool
  deriving DecidableEq, Repr

/-- The causes that inhibit a channel (R21). -/
structure Causes where
  feed : Bool
  shutdown : Bool
  config : Bool
  deriving DecidableEq, Repr

/-- A channel's event flags (R163). -/
structure ChannelEvents where
  fault : Bool
  shed : Bool
  autoOff : Bool
  deriving DecidableEq, Repr

/-- The static fields of a channel (R2). Currents in dA; stall and retry time in 100 ms, window in 10 ms, auto-off
time in 10 s. -/
structure ChannelConfig where
  tier : Tier
  accepted : LoadSet
  dutyMode : DutyMode
  nominal : Nat
  iTrip : Nat
  heatExp : Nat
  shortThreshold : Nat
  openThreshold : Nat
  stallThreshold : Nat
  stallTime : Nat
  inrushWindow : Nat
  shortMode : ActionMode
  overloadMode : ActionMode
  startfailMode : ActionMode
  stallMode : ActionMode
  openMode : ActionMode
  retryTime : Nat
  retryLimit : Nat
  onCount : Nat
  offCount : Nat
  autoOffTime : Nat
  activityInput : Option WiredInput
  minDuty : Byte
  throttleable : Bool
  deriving DecidableEq, Repr

/-- A service override in force (R170): its level and the time left. -/
structure Override where
  level : Byte
  left : Nat
  deriving DecidableEq, Repr

/-- The slow-cycle phase and its timer (R147). -/
structure Phase where
  onPhase : Bool
  left : Nat
  deriving DecidableEq, Repr

/-- A start record (R85). The slot it holds is read from the Start Sequencer. `limited` lists the periods marked
limited; `samples` counts the start's samples (R84); `ending` says that the window end has come before the window's last
sample and waits for it (R98, log 41); `entered` says that the present millisecond's sample had been taken at the entry, so
that the start's first millisecond is the next one (R84, R101). -/
structure StartRecord where
  window : Nat
  left : Nat
  period : Nat
  profile : Byte
  limited : List Nat
  samples : Nat
  early : List Nat
  late : List Nat
  ending : Bool
  entered : Bool
  deriving DecidableEq, Repr

/-- What the Protection Unit keeps for a channel (chapter 6, R117). `sinceOn` counts, up to ten, the samples taken since
the channel entered ON or the present on-phase began (R110). `sampled` says that the present millisecond's sample has been
taken (R101, log 37). -/
structure Protection where
  theta : Nat
  cool : Bool
  lastTen : List Nat
  sinceOn : Nat
  sampled : Bool
  update : Option Nat
  shortMark : Bool
  stallTimer : Nat
  stallMark : Bool
  openTimer : Nat
  openMark : Bool
  hot : Bool
  deriving DecidableEq, Repr

/-- One channel record (R2, R4) with what the Duty Unit, the Start Sequencer, the Protection Unit and the Event Unit
keep for the channel. -/
structure ChannelRecord where
  cfg : ChannelConfig
  state : ChannelState
  raw : Byte
  eff : Byte
  duty : Byte
  booking : Nat
  idClass : LoadClass
  idDue : Bool
  faults : FaultRecord
  active : Option FaultKind
  retryCount : Nat
  /-- none: stopped; some 0: expired (R126). -/
  retry : Option Nat
  throttled : Bool
  hold : Bool
  /-- time run so far; none: stopped (R17). -/
  cleanRun : Option Nat
  override : Option Override
  causes : Causes
  events : ChannelEvents
  prot : Protection
  start : Option StartRecord
  /-- conducting span of the present PWM period in 255ths of 5 ms, from its start; 0: the switch is open (R86, R145). -/
  span : Nat
  /-- ms run of the present PWM period. -/
  pwmPos : Nat
  phase : Option Phase
  autoOff : Option Nat
  /-- the echo as last taken by the Binding Map (R38). -/
  echoTaken : Byte
  deriving DecidableEq, Repr

/-- A valid binding record (R30) and its running fields. Staleness time in 10 ms. -/
structure Binding where
  index : Nat
  source : Byte
  target : Channel
  mode : BindingMode
  threshold : Byte
  mask : BitVec 16
  staleness : Nat
  fallback : Fallback
  fresh : Bool
  held : Byte
  present : Byte
  deriving DecidableEq, Repr

/-- A Signal Table entry (section 2.2). `taken` false is NEVER. -/
structure SignalEntry where
  signal : Byte
  value : Byte
  publisher : Option Station
  age : Nat
  taken : Bool
  deriving DecidableEq, Repr

/-- The Binding Map (valid records in index order) and the Signal Table. -/
structure BindingMap where
  bindings : List Binding
  table : List SignalEntry
  ageing : Option Nat
  foreign : Option (Byte × Station)
  deriving DecidableEq, Repr

/-- A wired input and its debouncer (R37). -/
structure WiredInputState where
  pin : Bool
  debounced : Bool
  timer : Option Nat
  deriving DecidableEq, Repr

/-- One value for each of tiers 0 to 3, in dA. -/
structure TierValues where
  t0 : Nat
  t1 : Nat
  t2 : Nat
  t3 : Nat
  deriving DecidableEq, Repr

/-- A Peer Table entry (section 3.2). -/
structure PeerEntry where
  station : Station
  bookings : TierValues
  band : Band
  age : Nat
  stale : Bool
  deriving DecidableEq, Repr

/-- An Intent List entry (section 3.3); `hold` is the hold timer of an own entry. -/
structure IntentEntry where
  station : Station
  channel : Fin 32
  tier : Tier
  booking : Nat
  window : Nat
  age : Nat
  reports : Nat
  hold : Option Nat
  deriving DecidableEq, Repr

/-- The Intent List, in line order (R49), and its overflow timer (R55). -/
structure IntentList where
  entries : List IntentEntry
  overflow : Option Nat
  deriving DecidableEq, Repr

/-- The Budget Unit's configuration values (section 4.1). -/
structure BudgetConfig where
  aCfg : Nat
  pB : Nat
  pL : Nat
  margin : Nat
  inrushLimit : Nat
  feedRating : Vector Nat 4
  deriving DecidableEq, Repr

/-- The Budget Unit (section 4.1, R78). -/
structure BudgetUnit where
  config : Option BudgetConfig
  round : Option Nat
  ownBand : Option Band
  worst : Option Band
  allowance : Option Nat
  overbooked : Bool
  deriving DecidableEq, Repr

/-- The Start Sequencer's slots and slot queue (section 5.1). -/
structure StartSequencer where
  slot0 : Option Channel
  slot1 : Option Channel
  queue : List Channel
  deriving DecidableEq, Repr

/-- The band thresholds in force, in 0.1 V (R137). -/
structure Thresholds where
  charging : Nat
  battery : Nat
  low : Nat
  deriving DecidableEq, Repr

/-- The Feed Monitor (chapter 8, R144). A feed state of none is not yet judged. -/
structure FeedMonitor where
  feeds : Vector (Option FeedState) 4
  ksup : Nat
  thresholds : Option Thresholds
  ownBand : Option Band
  fall : Nat
  rise : Nat
  temp : PartTemp
  deriving DecidableEq, Repr

/-- A frame of the part's own. A STATUS holds only its channel until it is offered (R165). `ofRequest` marks a reply
of the request in progress (R167). -/
inductive TxFrame where
  | intent (ch : Channel) (tier : Tier) (booking window : Nat)
  | withdraw (ch : Channel)
  | draw (band : Band) (bookings : TierValues)
  | reply (target : Station) (data : List Byte) (ofRequest : Bool)
  | status (ch : Channel)
  deriving DecidableEq, Repr

/-- A transmit queue entry (R160): the frame, the time since it was queued, and the frame on the line while an attempt
runs (R161). -/
structure TxEntry where
  frame : TxFrame
  age : Nat
  attempt : Option Frame
  deriving DecidableEq, Repr

/-- The Line Interface (chapter 10). -/
structure LineInterface where
  silence : Option Nat
  lineLoss : Bool
  clashMark : Bool
  listen : Option Nat
  busOff : Bool
  queue : List TxEntry
  deriving DecidableEq, Repr

/-- The Event Unit (R163, R164, R166). Part events stand in the masks' order: CONFIG_ERROR is bit 10, SHUTDOWN bit 0. -/
structure EventUnit where
  flags : BitVec 11
  partMask : BitVec 11
  channelMask : BitVec 20
  rollPointer : Channel
  roll : Option Nat
  deriving DecidableEq, Repr

/-- The request in progress (R167). -/
structure ServiceRequest where
  requester : Station
  replies : List (List Byte)
  age : Nat
  isRestart : Bool
  deriving DecidableEq, Repr

/-- The Service Unit (R167, R171). -/
structure ServiceUnit where
  mask : BitVec 16
  request : Option ServiceRequest
  restartDue : Bool
  deriving DecidableEq, Repr

/-- The Configuration Loader (R180). -/
structure Loader where
  mode : PartMode
  station : Station
  resetKind : Option ResetKind
  source : Option ConfigSource
  deriving DecidableEq, Repr

/-- The whole part, the model's counter of free values (log 22), and the queue of waiting commands. `echoes` holds the echo
changes that the Channel Controllers have handed to the Binding Map and that it has not taken yet, oldest first (R38); none
is left when a command ends (log 13). -/
structure State where
  loader : Loader
  channels : Vector ChannelRecord 20
  echoes : List (Channel × Byte)
  bind : BindingMap
  wired : Vector WiredInputState 8
  peers : List PeerEntry
  intents : IntentList
  budget : BudgetUnit
  sequencer : StartSequencer
  feed : FeedMonitor
  line : LineInterface
  events : EventUnit
  service : ServiceUnit
  freeCount : Nat
  pending : List Instr
  deriving DecidableEq, Repr

/-- Why the block stops. -/
inductive Fault where
  /-- Raised by CONFIGURATION_READ_END alone, for a byte list that is not 848 bytes long: R174's read brings 848 bytes,
  so no such read exists. Safe: the model stops where the hardware has nothing to do. -/
  | imageLength
  deriving DecidableEq, Repr

/-- Why a command is refused. -/
inductive Refusal where
  /-- Raised by exec's arm of a command that has no meaning yet. Safe. No arm raises it. -/
  | notModelled (mnemonic : String)
  deriving DecidableEq, Repr

/-- The static fields before any image is installed. DESIGN CHOICE (log 10): R2 gives none. -/
def ChannelConfig.blank : ChannelConfig where
  tier := 3
  accepted := ⟨false, false, false⟩
  dutyMode := .pwm
  nominal := 0
  iTrip := 0
  heatExp := 0
  shortThreshold := 0
  openThreshold := 0
  stallThreshold := 0
  stallTime := 0
  inrushWindow := 0
  shortMode := .latch
  overloadMode := .latch
  startfailMode := .latch
  stallMode := .latch
  openMode := .latch
  retryTime := 0
  retryLimit := 0
  onCount := 0
  offCount := 0
  autoOffTime := 0
  activityInput := none
  minDuty := 0
  throttleable := false

/-- The empty fault record. -/
def FaultRecord.empty : FaultRecord := ⟨false, false, false, false, false, false, false⟩

/-- The Protection Unit's values at reset release (R117), with the θ that R24 gives. DESIGN CHOICE (log 11): the cool
indication reads false until the first update judges it. -/
def Protection.reset (theta : Nat) : Protection :=
  ⟨theta, false, List.replicate 10 0, 0, false, none, false, 0, false, 0, false, false⟩

/-- A channel record at reset release (R24, R117, R132, R155). -/
def ChannelRecord.reset (theta : Nat) (faults : FaultRecord) : ChannelRecord where
  cfg := .blank
  state := .off
  raw := 0
  eff := 0
  duty := 0
  booking := 0
  idClass := .unknown
  idDue := true
  faults := faults
  active := none
  retryCount := 0
  retry := none
  throttled := false
  hold := false
  cleanRun := none
  override := none
  causes := ⟨false, false, false⟩
  events := ⟨false, false, false⟩
  prot := .reset theta
  start := none
  span := 0
  pwmPos := 0
  phase := none
  autoOff := none
  echoTaken := 0

/-- The state right after a power-on reset release (R172, R173), with no command waiting. DESIGN CHOICE: the straps read
0 (log 7), no wired input is grounded (log 8), the KSUP measurement before the first is 0 (log 9). -/
def State.reset : State where
  loader := ⟨.configuring, 0, none, none⟩
  channels := Vector.replicate 20 (.reset 0 .empty)
  echoes := []
  bind := ⟨[], [], none, none⟩
  wired := Vector.replicate 8 ⟨false, false, none⟩
  peers := []
  intents := ⟨[], none⟩
  budget := ⟨none, none, none, none, none, false⟩
  sequencer := ⟨none, none, []⟩
  feed := ⟨Vector.replicate 4 none, 0, none, none, 0, 0, .normal⟩
  line := ⟨none, false, false, none, false, []⟩
  events := ⟨0, 0, 0, 0, none⟩
  service := ⟨0, none, false⟩
  freeCount := 0
  pending := []

end Sys2Proof.Machine
end

