-- ==== Sys2Proof/Machine/Operands.lean ====
section
/-! DEFINITION. Operands.lean: number helpers, codes, and the layouts of chapter 12: packed fields, the frames the part
sends, and the fields of the configuration image. -/

namespace Sys2Proof.Machine

/-- CH0 to CH19, lowest first. -/
def allChannels : List Channel := List.finRange 20

/-- Rounded up division (00, Arithmetic). -/
def ceilDiv (a b : Nat) : Nat := (a + b - 1) / b

/-- The larger of two levels. -/
def maxByte (a b : Byte) : Byte := if a < b then b else a

/-- A value clamped into a range (00, Arithmetic). -/
def clamp (lo hi v : Nat) : Nat := if v < lo then lo else if hi < v then hi else v

/-- The bank of a channel (R1). -/
def bankOf (c : Channel) : Bank :=
  if c.val < 6 then 0 else if c.val < 12 then 1 else if c.val < 16 then 2 else 3

/-- The switch rating of a channel, in dA (R1). -/
def switchRating (c : Channel) : Nat := if c.val < 12 then 150 else 300

/-- Band codes (section 12.2). -/
def Band.code : Band → Nat
  | .crank => 0
  | .low => 1
  | .battery => 2
  | .charging => 3

/-- The lower of two bands. -/
def Band.lower (a b : Band) : Band := if b.code < a.code then b else a

/-- The band of a code up to 3; a code above 3 has none (R43). -/
def Band.ofCode : Nat → Option Band
  | 0 => some .crank
  | 1 => some .low
  | 2 => some .battery
  | 3 => some .charging
  | _ => none

/-- State codes (section 12.2). -/
def ChannelState.code : ChannelState → Nat
  | .off => 0
  | .pending => 1
  | .deferred => 2
  | .slotwait => 3
  | .starting => 4
  | .on => 5
  | .cycling => 6
  | .shed => 7
  | .cooldown => 8
  | .latched => 9
  | .inhibited => 10

/-- Identified class codes (section 12.2). -/
def LoadClass.code : LoadClass → Nat
  | .unknown => 0
  | .filament => 1
  | .motor => 2
  | .resistive => 3
  | .openLoad => 4

/-- Active fault codes 1 to 7 (section 12.2). -/
def FaultKind.code : FaultKind → Nat
  | .short => 1
  | .overload => 2
  | .startfail => 3
  | .stall => 4
  | .openLoad => 5
  | .thermal => 6
  | .mismatch => 7

/-- Part mode codes (section 12.3). -/
def PartMode.code : PartMode → Nat
  | .configuring => 0
  | .listening => 1
  | .running => 2
  | .isolated => 3
  | .clashed => 4
  | .limp => 5

/-- Configuration source codes (section 12.3). -/
def ConfigSource.code : ConfigSource → Nat
  | .memory => 0
  | .missing => 1
  | .crc => 2
  | .version => 3

/-- Feed state codes (section 12.3). -/
def FeedState.code : FeedState → Nat
  | .inRange => 0
  | .under => 1
  | .over => 2

/-- Part temperature codes (section 12.3). -/
def PartTemp.code : PartTemp → Nat
  | .normal => 0
  | .warning => 1
  | .shutdown => 2

/-- A timer that counts down stands at its end (log 2). -/
def ended (t : Option Nat) : Bool := t == some 0

/-- A flag as a field of one bit. -/
def bit (b : Bool) : Nat := if b then 1 else 0

/-- The value of a tier. -/
def TierValues.get (v : TierValues) (t : Tier) : Nat :=
  match t with
  | 0 => v.t0
  | 1 => v.t1
  | 2 => v.t2
  | 3 => v.t3

/-- The seven flags of the fault record, first listed first (section 12.2). -/
def FaultRecord.bits (r : FaultRecord) : Nat :=
  bit r.short * 64 + bit r.overload * 32 + bit r.startfail * 16 + bit r.stall * 8 + bit r.openLoad * 4
    + bit r.thermal * 2 + bit r.mismatch

/-- Fields (width in bits, value) packed one after another, the first at the most significant end (chapter 12). -/
def packValue : List (Nat × Nat) → Nat
  | [] => 0
  | (w, v) :: rest => v % 2 ^ w * 2 ^ (rest.map Prod.fst).sum + packValue rest

/-- The total width of packed fields. -/
def packWidth (fields : List (Nat × Nat)) : Nat := (fields.map Prod.fst).sum

/-- The byte at place `i` of an `n`-byte big-endian number. -/
def byteAt (n v i : Nat) : Byte := BitVec.ofNat 8 (v / 256 ^ (n - 1 - i))

/-- An `n`-byte big-endian number (00, Names). -/
def bigEndian (n v : Nat) : List Byte := (List.range n).map (byteAt n v)

/-- Packed fields as 8 bytes; the bits left over after the last field are 0 (section 12.2, R181). -/
def packEight (fields : List (Nat × Nat)) : List Byte :=
  bigEndian 8 (packValue fields * 2 ^ (64 - packWidth fields))

/-- The identifier (section 12.1). -/
def identifier (kind : Nat) (sender target : Station) : BitVec 11 :=
  BitVec.ofNat 11 (kind * 256 + sender.val * 16 + target.val)

/-- An INTENT frame (section 12.2): marker 0 and the channel; tier; booking; window. -/
def intentFrame (own : Station) (ch : Channel) (tier : Tier) (booking window : Nat) : Frame :=
  ⟨identifier 0 own 0,
    BitVec.ofNat 8 ch.val :: BitVec.ofNat 8 tier.val :: (bigEndian 2 booking ++ [BitVec.ofNat 8 window])⟩

/-- A WITHDRAW frame (section 12.2): marker 1 and the channel. -/
def withdrawFrame (own : Station) (ch : Channel) : Frame :=
  ⟨identifier 0 own 0, [BitVec.ofNat 8 (128 + ch.val)]⟩

/-- A DRAW frame (section 12.2): the band above the tier-0 booking in word 0, then tiers 1 to 3. -/
def drawFrame (own : Station) (band : Band) (v : TierValues) : Frame :=
  ⟨identifier 1 own 0,
    bigEndian 2 (band.code * 8192 + v.t0 % 8192) ++ bigEndian 2 (v.t1 % 8192) ++ bigEndian 2 (v.t2 % 8192)
      ++ bigEndian 2 (v.t3 % 8192)⟩

/-- A SERVICE_REPLY frame to the requesting station (R181). -/
def replyFrame (own target : Station) (data : List Byte) : Frame := ⟨identifier 4 own target, data⟩

/-- The time left on the retry timer in 100 ms units, rounded up; 0 when stopped (section 12.2). -/
def ChannelRecord.retryUnits (r : ChannelRecord) : Nat :=
  match r.retry with
  | some ms => ceilDiv ms 100
  | none => 0

/-- The phase bit: 1 for the off-phase of CYCLING (section 12.2). -/
def ChannelRecord.phaseBit (r : ChannelRecord) : Nat :=
  match r.phase with
  | some p => bit (r.state == .cycling && !p.onPhase)
  | none => 0

/-- The active fault's code, 0 for none (section 12.2). -/
def ChannelRecord.activeCode (r : ChannelRecord) : Nat :=
  match r.active with
  | some k => k.code
  | none => 0

/-- A STATUS frame's content, read from the channel (R165, section 12.2). -/
def statusFrame (own : Station) (ch : Channel) (r : ChannelRecord) : Frame :=
  ⟨identifier 5 own 0, packEight [
    (5, ch.val), (4, r.state.code), (1, r.phaseBit), (8, r.eff.toNat), (8, r.duty.toNat), (9, r.booking),
    (3, r.idClass.code), (1, bit r.idDue), (7, r.faults.bits), (3, r.activeCode), (4, r.retryCount),
    (8, r.retryUnits), (3, bit r.events.fault * 4 + bit r.events.shed * 2 + bit r.events.autoOff)]⟩

/-! ### The configuration image (section 12.4) -/

/-- A byte of the image, as a number. -/
def imageByte (image : List Byte) (i : Nat) : Nat := (image.getD i 0).toNat

/-- A two-byte field of the image. -/
def imageWord (image : List Byte) (i : Nat) : Nat := imageByte image i * 256 + imageByte image (i + 1)

/-- One bit of the CRC-16 of R174: polynomial x^16 + x^12 + x^5 + 1, most significant bit first. -/
def crcBit (crc : BitVec 16) : BitVec 16 :=
  if crc.msb then (crc <<< 1) ^^^ 0x1021#16 else crc <<< 1

/-- One byte of the CRC-16. -/
def crcByte (crc : BitVec 16) (b : Byte) : BitVec 16 :=
  let x := crc ^^^ (b.zeroExtend 16 <<< 8)
  crcBit (crcBit (crcBit (crcBit (crcBit (crcBit (crcBit (crcBit x)))))))

/-- The CRC-16 of R174: initial value FFFF hex, nothing reflected, no final inversion. -/
def crc16 (bytes : List Byte) : BitVec 16 := bytes.foldl crcByte 0xFFFF#16

/-- The activity input's code: 1 to 8 for W0 to W7, anything else none (R175, R183). -/
def activityOfCode (v : Nat) : Option WiredInput :=
  if h : 1 ≤ v ∧ v ≤ 8 then some ⟨v - 1, by omega⟩ else none

/-- Fault action mode codes (section 12.4). -/
def actionOfCode : Nat → Option ActionMode
  | 0 => some .latch
  | 1 => some .retry
  | 2 => some .report
  | 3 => some .ignore
  | _ => none

/-- The mode installed for a code: the code's mode where the kind allows it, otherwise LATCH, which every one of the
five kinds lists first (R118). -/
def installedAction (allowed : List ActionMode) (code : Nat) : ActionMode :=
  match actionOfCode code with
  | some m => if allowed.contains m then m else .latch
  | none => .latch

/-- The code is one the kind allows, so no clamp happens (R118). -/
def actionAllowed (allowed : List ActionMode) (code : Nat) : Bool :=
  match actionOfCode code with
  | some m => allowed.contains m
  | none => false

/-- Binding mode codes; 3 is undefined (R183). -/
def bindingModeOfCode : Nat → Option BindingMode
  | 0 => some .switch
  | 1 => some .inverse
  | 2 => some .level
  | _ => none

/-- Fallback codes; 3 is undefined (R183). -/
def fallbackOfCode : Nat → Option Fallback
  | 0 => some .hold
  | 1 => some .off
  | 2 => some .full
  | _ => none

end Sys2Proof.Machine
end

