-- ==== Sys2Proof/Machine/Flags.lean ====
section
/-! DEFINITION. Flags.lean: the part and channel event flags, the alert masks and the ALERT output (R163, R164). -/

namespace Sys2Proof.Machine

/-- The place of a part event in the masks: CONFIG_ERROR highest, SHUTDOWN bit 0 (section 12.3). -/
def PartEvent.place : PartEvent → Nat
  | .configError => 10
  | .limp => 9
  | .clash => 8
  | .isolated => 7
  | .foreignPublisher => 6
  | .intentOverflow => 5
  | .safetyOverbooked => 4
  | .bandDrop => 3
  | .feed => 2
  | .dieHot => 1
  | .shutdown => 0

/-- The event's flag alone. -/
def PartEvent.mask (e : PartEvent) : BitVec 11 := BitVec.ofNat 11 (2 ^ e.place)

/-- The event's flag is set. -/
def State.eventSet (s : State) (e : PartEvent) : Bool := s.events.flags.getLsbD e.place

/-- An onset sets the flag; a flag already set stays set (R163). -/
def State.raise (e : PartEvent) (s : State) : State :=
  { s with events := { s.events with flags := s.events.flags ||| e.mask } }

/-- Any of the channel's three event flags is set (R164, R169). -/
def ChannelEvents.any (e : ChannelEvents) : Bool := e.fault || e.shed || e.autoOff

/-- The channel event flags as a mask with CHn at bit n (section 12.3). -/
def State.channelSummary (s : State) : Nat :=
  (allChannels.map fun c => bit (s.channels[c]).events.any * 2 ^ c.val).sum

/-- ALERT is asserted exactly when an event flag that the masks select is set (R164). -/
def State.alert (s : State) : Bool :=
  (s.events.flags &&& s.events.partMask) != 0
    || allChannels.any fun c => (s.channels[c]).events.any && s.events.channelMask.getLsbD c.val

end Sys2Proof.Machine
end

