-- ==== Sys2Proof/Machine/Ops.lean ====
section
/-! DEFINITION. Ops.lean: the operations that the families share: reading and writing a channel record, the transmit
queue, status requests, entries to the channel states, slots, faults, request changes. -/

namespace Sys2Proof.Machine

/-! ### Channel records -/

/-- The record of a channel. -/
def State.chan (s : State) (c : Channel) : ChannelRecord := s.channels[c]

/-- The channel is in the on-phase of CYCLING (R147). -/
def ChannelRecord.inOnPhase (r : ChannelRecord) : Bool :=
  match r.phase with
  | some p => r.state == .cycling && p.onPhase
  | none => false

/-- ON, or the on-phase of CYCLING: where OVERLOAD, STALL and OPEN are judged (R105, R110, R112). -/
def ChannelRecord.running (r : ChannelRecord) : Bool := r.state == .on || r.inOnPhase

/-- STARTING, ON or the on-phase of CYCLING: where SHORT is judged and the echo is the duty (R6, R108). -/
def ChannelRecord.conducting (r : ChannelRecord) : Bool := r.state == .starting || r.running

/-- R6: the channel's echo. -/
def ChannelRecord.echo (r : ChannelRecord) : Byte := if r.conducting then r.duty else 0

/-- R38: the echo change that a channel's new record hands to the Binding Map, none where the echo stays. -/
def echoChange (c : Channel) (old new : ChannelRecord) : List (Channel × Byte) :=
  if new.echo = old.echo then [] else [(c, new.echo)]

/-- The state with a channel's record replaced; a change of its echo is handed to the Binding Map (R38). -/
def State.setChan (s : State) (c : Channel) (r : ChannelRecord) : State :=
  { s with channels := s.channels.set c r, echoes := s.echoes ++ echoChange c (s.chan c) r }

/-- The state with a channel's record changed. -/
def State.modChan (s : State) (c : Channel) (f : ChannelRecord → ChannelRecord) : State :=
  s.setChan c (f (s.chan c))

/-- Channels in order of tier number and then of channel number (R3, R76, R79). -/
def State.byTier (s : State) : List Channel :=
  (List.finRange 4).flatMap fun t => allChannels.filter fun c => (s.chan c).cfg.tier == t

/-- The part mode. -/
def State.mode (s : State) : PartMode := s.loader.mode

/-- The station number. -/
def State.own (s : State) : Station := s.loader.station

/-- The state with another part mode. -/
def State.setMode (s : State) (m : PartMode) : State := { s with loader := { s.loader with mode := m } }

/-- R5: override level, or 0 under the auto-off hold, or the raw request. -/
def ChannelRecord.effectiveRequest (r : ChannelRecord) : Byte :=
  match r.override with
  | some o => o.level
  | none => if r.hold then 0 else r.raw

/-- R6: the duty for an effective request. -/
def ChannelConfig.dutyFor (k : ChannelConfig) (v : Byte) : Byte :=
  if v = 0 then 0
  else
    match k.dutyMode with
    | .pwm => maxByte v k.minDuty
    | .slowCycle => 255

/-- R7: the booking for a duty and a throttled flag. -/
def ChannelConfig.bookingFor (k : ChannelConfig) (duty : Byte) (throttled : Bool) : Nat :=
  match k.dutyMode with
  | .pwm => ceilDiv (k.nominal * duty.toNat) 255
  | .slowCycle =>
    if throttled then ceilDiv (k.nominal * (k.onCount + 1)) (k.onCount + k.offCount + 2) else k.nominal

/-- R7: the booking table's value for the present duty and throttled flag. -/
def ChannelRecord.presentBooking (r : ChannelRecord) : Nat := r.cfg.bookingFor r.duty r.throttled

/-- R7: the states that book. -/
def ChannelState.books : ChannelState → Bool
  | .slotwait | .starting | .on | .cycling => true
  | .off | .pending | .deferred | .shed | .cooldown | .latched | .inhibited => false

/-- R5, R6, R8: the record with a new effective request: duty and, in a booked state, booking follow at once. -/
def ChannelRecord.withRequest (r : ChannelRecord) (v : Byte) : ChannelRecord :=
  let d := r.cfg.dutyFor v
  { r with
    eff := v
    duty := d
    booking := if r.state.books then r.cfg.bookingFor d r.throttled else r.booking }

/-- R8: the record with the throttled flag set or cleared: a booked channel's booking follows at once. -/
def ChannelRecord.withThrottle (r : ChannelRecord) (t : Bool) : ChannelRecord :=
  { r with
    throttled := t
    booking := if r.state.books then r.cfg.bookingFor r.duty t else r.booking }

/-- R108, R111: what entry to a state or phase with the output open does to the detectors. -/
def Protection.opened (p : Protection) : Protection :=
  { p with shortMark := false, stallTimer := 0, stallMark := false, openTimer := 0, openMark := false, sinceOn := 0 }

/-- R111: what entry to ON from STARTING, and the start of each on-phase, do to the stall and open detectors. -/
def Protection.fresh (p : Protection) : Protection :=
  { p with stallTimer := 0, stallMark := false, openTimer := 0, openMark := false, sinceOn := 0 }

/-- Entry to a state that books nothing (R8, R17, R97, R108, R111, R123, R149, R150): the output opens, the booking is
released, the throttled flag clears, and the timers of running stop. -/
def ChannelRecord.idle (st : ChannelState) (r : ChannelRecord) : ChannelRecord :=
  { r with
    state := st
    booking := 0
    active := none
    retry := none
    throttled := false
    cleanRun := none
    prot := r.prot.opened
    start := none
    span := 0
    pwmPos := 0
    phase := none
    autoOff := none }

/-- R9, R163: entry to SHED also sets the channel's SHED event. -/
def ChannelRecord.toShed (r : ChannelRecord) : ChannelRecord :=
  { r.idle .shed with events := { r.events with shed := true } }

/-- R8, R15: entry to SLOTWAIT at admission takes the booking. -/
def ChannelRecord.toSlotwait (r : ChannelRecord) : ChannelRecord :=
  { r.idle .slotwait with booking := r.cfg.bookingFor r.duty false }

/-- R87: the profile duty of period `k` of a start of window `w`. -/
def ChannelConfig.profileDuty (cfg : ChannelConfig) (w : Nat) (duty : Byte) (k : Nat) : Byte :=
  if cfg.accepted.filament && 64 < duty.toNat then
    BitVec.ofNat 8 (64 + (duty.toNat - 64) * k / (2 * w - 1))
  else duty

/-- R150: the full auto-off time in ms, none where the field is 0. -/
def ChannelConfig.autoOffFull (k : ChannelConfig) : Option Nat :=
  if k.autoOffTime = 0 then none else some (k.autoOffTime * 10000)

/-- Entry to STARTING (R8, R84 to R87, R89, R150): the booking stands or is taken, a new start record is made, which begins
with the channel's next sample, the output closes for the longer of 2 ms and the profile share, and the auto-off timer
starts. -/
def ChannelRecord.toStarting (r : ChannelRecord) : ChannelRecord :=
  let w := r.cfg.inrushWindow
  let profile := r.cfg.profileDuty w r.duty 0
  { r with
    state := .starting
    booking := r.cfg.bookingFor r.duty r.throttled
    active := none
    retry := none
    cleanRun := none
    prot := r.prot.opened
    start := some ⟨w, w * 10, 0, profile, [], 0, [], [], false, r.prot.sampled⟩
    span := max Config.firstSpan profile.toNat
    pwmPos := 0
    phase := none
    autoOff := r.cfg.autoOffFull }

/-- R145: the span of a period that begins in ON. -/
def ChannelRecord.onSpan (r : ChannelRecord) : Nat :=
  match r.cfg.dutyMode with
  | .pwm => r.duty.toNat
  | .slowCycle => 255

/-- R90, R17, R111, R145: entry to ON from STARTING at the window end. -/
def ChannelRecord.toOnFromStart (r : ChannelRecord) : ChannelRecord :=
  { r with state := .on, cleanRun := some 0, prot := r.prot.fresh, start := none, span := r.onSpan, pwmPos := 0 }

/-- R74, R18, R149, R111: return to ON from CYCLING by an un-throttle; the detectors' timers go on, and judge again
once ten samples follow the entry to ON (R110, log 18). -/
def ChannelRecord.toOnFromCycling (r : ChannelRecord) : ChannelRecord :=
  { r with
    state := .on
    booking := r.cfg.bookingFor r.duty false
    throttled := false
    prot := { r.prot with sinceOn := 0 }
    span := r.onSpan
    pwmPos := 0
    phase := none }

/-- R147, R148, R111: the start of an on-phase. -/
def ChannelRecord.startOnPhase (r : ChannelRecord) : ChannelRecord :=
  { r with
    prot := r.prot.fresh
    span := 255
    phase := some ⟨true, (r.cfg.onCount + 1) * 1000⟩ }

/-- R148, R108: the start of an off-phase. -/
def ChannelRecord.startOffPhase (r : ChannelRecord) : ChannelRecord :=
  { r with
    prot := r.prot.opened
    span := 0
    phase := some ⟨false, (r.cfg.offCount + 1) * 1000⟩ }

/-- R90, R147: entry to CYCLING at the window end, the clean-run timer starting (R17). -/
def ChannelRecord.toCyclingFromStart (r : ChannelRecord) : ChannelRecord :=
  { r.startOnPhase with state := .cycling, cleanRun := some 0, start := none, pwmPos := 0 }

/-- R17, R147: entry to CYCLING from ON by a throttle, the clean-run timer running on. -/
def ChannelRecord.toCyclingFromOn (r : ChannelRecord) : ChannelRecord :=
  { (r.withThrottle true).startOnPhase with state := .cycling, pwmPos := 0 }

/-! ### The transmit queue (section 10.4) -/

/-- The frame's kind number (section 10.1). -/
def TxFrame.kind : TxFrame → Nat
  | .intent _ _ _ _ => 0
  | .withdraw _ => 0
  | .draw _ _ => 1
  | .reply _ _ _ => 4
  | .status _ => 5

/-- A STATUS. -/
def TxFrame.isStatus (f : TxFrame) : Bool := f.kind == 5

/-- An INTENT; a WITHDRAW is none. -/
def TxFrame.isIntent : TxFrame → Bool
  | .intent _ _ _ _ => true
  | .withdraw _ | .draw _ _ | .reply _ _ _ | .status _ => false

/-- A DRAW. -/
def TxFrame.isDraw (f : TxFrame) : Bool := f.kind == 1

/-- R160: entries of every kind but DRAW. -/
def otherCount (q : List TxEntry) : Nat := (q.filter fun e => !e.frame.isDraw).length

/-- R160: entries of STATUS and SERVICE_REPLY. -/
def statusReplyCount (q : List TxEntry) : Nat := (q.filter fun e => 4 ≤ e.frame.kind).length

/-- R160: the limits allow one more frame of this kind (a DRAW always has its entry). -/
def hasRoom (f : TxFrame) (q : List TxEntry) : Bool :=
  f.isDraw || (otherCount q < Config.otherEntries
    && (f.kind < 4 || statusReplyCount q < Config.statusReplyEntries))

/-- R160: the queue without its most recently queued STATUS; none where no STATUS is queued. -/
def displaceStatus (q : List TxEntry) : Option (List TxEntry) :=
  if q.any fun e => e.frame.isStatus then some (q.reverse.eraseP fun e => e.frame.isStatus).reverse else none

/-- R160: a frame handed to the queue. A DRAW replaces the queued one; a STATUS without room is dropped; any other frame
without room displaces the newest STATUS, or is refused. None where the frame is dropped or refused. -/
def offerTo (f : TxFrame) (q : List TxEntry) : Option (List TxEntry) :=
  if f.isDraw then some ((q.filter fun e => !e.frame.isDraw) ++ [⟨f, 0, none⟩])
  else if hasRoom f q then some (q ++ [⟨f, 0, none⟩])
  else if f.isStatus then none
  else (displaceStatus q).map fun q' => q' ++ [⟨f, 0, none⟩]

/-- The transmit queue. -/
def State.txQueue (s : State) : List TxEntry := s.line.queue

/-- The state with another transmit queue. -/
def State.setQueue (s : State) (q : List TxEntry) : State := { s with line := { s.line with queue := q } }

/-- R157: in CLASHED every INTENT-kind frame, and in LIMP after a clash every DRAW, is discarded at once. -/
def State.discards (s : State) (f : TxFrame) : Bool :=
  (s.mode == .clashed && f.kind == 0) || (s.mode == .limp && s.line.clashMark && f.isDraw)

/-- A frame handed to the transmit queue (R157, R160): none where it is discarded, dropped or refused. -/
def State.offer (f : TxFrame) (s : State) : Option State :=
  if s.discards f then none else (offerTo f s.txQueue).map s.setQueue

/-- A frame handed to the transmit queue whose loss nobody acts on. -/
def State.send (f : TxFrame) (s : State) : State := (s.offer f).getD s

/-- R165: a status request; a STATUS already queued for the channel keeps its place and age. -/
def State.requestStatus (c : Channel) (s : State) : State :=
  if s.txQueue.any fun e => e.frame == .status c then s else s.send (.status c)

/-! ### Slots and entries to states -/

/-- R79, R82: a channel that is no longer in STARTING holds no slot; one no longer in SLOTWAIT is not in the queue. -/
def State.dropClaims (c : Channel) (s : State) : State :=
  let st := (s.chan c).state
  let q := s.sequencer
  { s with
    sequencer := {
      slot0 := if st != .starting && q.slot0 == some c then none else q.slot0
      slot1 := if st != .starting && q.slot1 == some c then none else q.slot1
      queue := if st != .slotwait then q.queue.filter (· != c) else q.queue } }

/-- A change of a channel's record that may change its state: slots and queue places it no longer has are given up
(freed slots are handed on by `handSlots`), and a change of the state field requests a STATUS (R9, R165). -/
def State.enter (c : Channel) (f : ChannelRecord → ChannelRecord) (s : State) : State :=
  let s' := (s.modChan c f).dropClaims c
  if (s'.chan c).state == (s.chan c).state then s' else s'.requestStatus c

/-- Places a channel in the slot queue by tier and channel number (R79). -/
def insertByTier (s : State) (c : Channel) : List Channel → List Channel
  | [] => [c]
  | d :: rest =>
    let tc := (s.chan c).cfg.tier
    let td := (s.chan d).cfg.tier
    if tc < td || (tc == td && c < d) then c :: d :: rest else d :: insertByTier s c rest

/-! ### Faults (chapter 7) -/

/-- R123: a kind added to the fault record. -/
def FaultRecord.add (k : FaultKind) (r : FaultRecord) : FaultRecord :=
  match k with
  | .short => { r with short := true }
  | .overload => { r with overload := true }
  | .startfail => { r with startfail := true }
  | .stall => { r with stall := true }
  | .openLoad => { r with openLoad := true }
  | .thermal => { r with thermal := true }
  | .mismatch => { r with mismatch := true }

/-- R118: the fault action mode of a kind. -/
def ChannelConfig.actionFor (k : ChannelConfig) : FaultKind → ActionMode
  | .short => k.shortMode
  | .overload => k.overloadMode
  | .startfail => k.startfailMode
  | .stall => k.stallMode
  | .openLoad => k.openMode
  | .thermal => .retry
  | .mismatch => .latch

/-- R118, R119: the channel stands where this kind is acted on. -/
def ChannelRecord.takesFault (r : ChannelRecord) (k : FaultKind) : Bool :=
  match k with
  | .short => r.conducting
  | .overload | .stall => r.running
  | .openLoad => r.running || r.state == .starting
  | .startfail | .mismatch => r.state == .starting
  | .thermal => r.state == .slotwait || r.state == .starting || r.state == .on || r.state == .cycling

/-- R120 to R123: the kind is added to the fault record and the FAULT event is set; a recorded OPEN also sets the
identification due flag (R95). -/
def ChannelRecord.recordFault (k : FaultKind) (r : ChannelRecord) : ChannelRecord :=
  { r with
    faults := r.faults.add k
    events := { r.events with fault := true }
    idDue := r.idDue || k == .openLoad }

/-- R120: the LATCH action's effect on the record. -/
def ChannelRecord.latch (k : FaultKind) (r : ChannelRecord) : ChannelRecord :=
  { (r.recordFault k).idle .latched with active := some k }

/-- R121, R125: the RETRY action's effect on the record: LATCHED past the retry limit, otherwise COOLDOWN with the retry
timer started. -/
def ChannelRecord.retryStop (k : FaultKind) (r : ChannelRecord) : ChannelRecord :=
  let n := r.retryCount + 1
  if r.cfg.retryLimit < n then { r.latch k with retryCount := n }
  else
    { (r.recordFault k).idle .cooldown with
      active := some k
      retryCount := n
      retry := some (r.cfg.retryTime * 100) }

/-- A fault kind taken by the Channel Controller of a channel whose slot, if it held one, has been handed on (R119 to R122,
R127). -/
def State.takeFault (c : Channel) (k : FaultKind) (s : State) : State :=
  let r := s.chan c
  if r.state == .cooldown && k == .thermal then (s.modChan c (·.recordFault k)).requestStatus c
  else if r.takesFault k then
    match r.cfg.actionFor k with
    | .latch => (s.enter c (·.latch k)).requestStatus c
    | .retry => (s.enter c (·.retryStop k)).requestStatus c
    | .report => (s.modChan c (·.recordFault k)).requestStatus c
    | .ignore => s
  else s

/-! ### Starting -/

/-- R85, R115: entry to STARTING; a hot switch takes THERMAL at once. Only a channel that starts with no slot can be over one:
a channel that waits for a slot has left SLOTWAIT by the reading that made its switch hot (R114). -/
def State.startChannel (c : Channel) (s : State) : State :=
  let s' := s.enter c (·.toStarting)
  if (s'.chan c).prot.hot then s'.takeFault c .thermal else s'

/-- R80: slot 0 where it is free, otherwise slot 1, otherwise none. DESIGN CHOICE (log 43): where one event frees both
slots, R81 gives the queue order and no slot numbers, and the head of the queue takes slot 0. -/
def StartSequencer.take (c : Channel) (q : StartSequencer) : Option StartSequencer :=
  if q.slot0.isNone then some { q with slot0 := some c }
  else if q.slot1.isNone then some { q with slot1 := some c }
  else none

/-- R81: while a slot is free and a channel waits, the first channel takes the slot and enters STARTING. -/
def handSlotsFor : Nat → State → State
  | 0, s => s
  | n + 1, s =>
    match s.sequencer.queue with
    | [] => s
    | c :: rest =>
      match { s.sequencer with queue := rest }.take c with
      | none => s
      | some q => handSlotsFor n ({ s with sequencer := q }.startChannel c)

/-- R81: freed slots are handed to the queue as it stands; the queue holds at most 20 channels. -/
def State.handSlots (s : State) : State := handSlotsFor 20 s

/-- R90 step 1, R97, R81: the channel's slot is freed and handed on. -/
def State.freeSlot (c : Channel) (s : State) : State :=
  { s with
    sequencer := { s.sequencer with
      slot0 := if s.sequencer.slot0 = some c then none else s.sequencer.slot0
      slot1 := if s.sequencer.slot1 = some c then none else s.sequencer.slot1 } }.handSlots

/-- A fault kind handed to the Channel Controller (R119 to R122, R127). A fault of a start frees its slot and hands it on
before the channel leaves STARTING (R120 step 2, R121); at a window end that has been done already (R90 step 1). -/
def State.handFault (c : Channel) (k : FaultKind) (s : State) : State :=
  if (s.chan c).state == .starting && (s.chan c).takesFault k then (s.freeSlot c).takeFault c k else s.takeFault c k

/-- R66, R80, R115: admission: SLOTWAIT with the booking taken; a hot switch leaves by THERMAL, otherwise the channel
joins the queue, from which `handSlots` gives it a free slot at once. In SLOTWAIT it holds no slot to hand on. -/
def State.grantAdmission (c : Channel) (s : State) : State :=
  let s1 := s.enter c (·.toSlotwait)
  if (s1.chan c).prot.hot then s1.takeFault c .thermal
  else
    { s1 with sequencer := { s1.sequencer with queue := insertByTier s1 c s1.sequencer.queue } }.handSlots

/-- R12: entry to PENDING announces an intent; a refused INTENT sends the channel to DEFERRED. -/
def State.announce (c : Channel) (s : State) : State :=
  let s1 := s.enter c (·.idle .pending)
  let r := s1.chan c
  match s1.offer (.intent c r.cfg.tier (r.cfg.bookingFor r.duty false) r.cfg.inrushWindow) with
  | some s2 => s2
  | none => s1.enter c (·.idle .deferred)

/-- The INTENT of a channel waits in the queue. -/
def TxFrame.isIntentOf (c : Channel) : TxFrame → Bool
  | .intent d _ _ _ => d == c
  | _ => false

/-- The number of an own channel in the Intent List. -/
def intentChannel (c : Channel) : Fin 32 := ⟨c.val, by omega⟩

/-- The own entry of a channel (R49). -/
def State.isOwnEntry (s : State) (c : Channel) (e : IntentEntry) : Bool :=
  e.station == s.own && e.channel == intentChannel c

/-- The state with other Intent List entries. -/
def State.setEntries (s : State) (es : List IntentEntry) : State :=
  { s with intents := { s.intents with entries := es } }

/-- R13, R52: undoes the announcement of a channel that leaves PENDING: the INTENT is removed from the queue, or, once
sent, the own entry is removed and a WITHDRAW queued. -/
def State.undoAnnouncement (c : Channel) (s : State) : State :=
  if s.txQueue.any fun e => e.frame.isIntentOf c then
    s.setQueue (s.txQueue.filter fun e => !e.frame.isIntentOf c)
  else if s.intents.entries.any (s.isOwnEntry c) then
    (s.setEntries (s.intents.entries.filter fun e => !s.isOwnEntry c e)).send (.withdraw c)
  else s

/-- A channel with a request above 0 begins (R11, R22, R126, R136): tier 0 to STARTING; tiers 1 to 3 to PENDING in
RUNNING and to DEFERRED in the other modes. In CONFIGURING the rise is stored; in LIMP only tier 0 starts. -/
def State.beginRequest (c : Channel) (s : State) : State :=
  match s.mode with
  | .configuring => s
  | .limp => if (s.chan c).cfg.tier = 0 then s.startChannel c else s
  | .running => if (s.chan c).cfg.tier = 0 then s.startChannel c else s.announce c
  | .listening | .isolated | .clashed =>
    if (s.chan c).cfg.tier = 0 then s.startChannel c else s.enter c (·.idle .deferred)

/-- R10, R11, R20, R21: a request rise acts in OFF alone; every other state stores it. -/
def State.requestRise (c : Channel) (s : State) : State :=
  if (s.chan c).state == .off then s.beginRequest c else s

/-- R13 to R21: a request fall, in the rule of the channel's state. A start is aborted as R97 lists it, its slot freed and
handed on before the entry to OFF (log 47). -/
def State.requestFall (c : Channel) (s : State) : State :=
  match (s.chan c).state with
  | .pending => (s.undoAnnouncement c).enter c (·.idle .off)
  | .starting => (s.freeSlot c).enter c (·.idle .off)
  | .deferred | .slotwait | .on | .cycling | .shed => s.enter c (·.idle .off)
  | .off | .cooldown | .latched | .inhibited => s

/-- R5: the controller recomputes the effective request; a change is a rise, a fall or a level change (R10). -/
def State.applyRequest (c : Channel) (s : State) : State :=
  let r := s.chan c
  let v := r.effectiveRequest
  if v = r.eff then s
  else
    let s1 := s.modChan c (·.withRequest v)
    if r.eff = 0 then s1.requestRise c else if v = 0 then s1.requestFall c else s1

/-- R34, R153: a raw request handed to the controller; at 0 the auto-off hold clears. -/
def State.setRaw (c : Channel) (v : Byte) (s : State) : State :=
  if v = (s.chan c).raw then s
  else (s.modChan c fun r => { r with raw := v, hold := r.hold && v != 0 }).applyRequest c

/-- The channel's bank is out of range (R20, R134). -/
def State.bankOut (s : State) (b : Bank) : Bool :=
  match s.feed.feeds[b] with
  | some .under => true
  | some .over => true
  | some .inRange => false
  | none => false

/-- The part is shut down (R141). -/
def State.isShutdown (s : State) : Bool := s.feed.temp == .shutdown

/-- R126, R129, R136: a channel is free to run again: OFF with a request of 0, otherwise as a fresh request. -/
def State.freshStart (c : Channel) (s : State) : State :=
  let s1 := s.enter c (·.idle .off)
  if (s1.chan c).eff = 0 then s1 else s1.beginRequest c

/-- R126, R129: a channel leaves COOLDOWN or LATCHED: to INHIBITED with the causes that stand,
otherwise free to run again. -/
def State.release (c : Channel) (s : State) : State :=
  if s.bankOut (bankOf c) || s.isShutdown then
    s.enter c fun r =>
      { r.idle .inhibited with
        causes := { r.causes with feed := s.bankOut (bankOf c), shutdown := s.isShutdown } }
  else s.freshStart c

/-- R126: all three conditions of COOLDOWN exit hold. -/
def ChannelRecord.exitReady (r : ChannelRecord) : Bool :=
  r.state == .cooldown && r.retry == some 0 && (r.active != some .overload || r.prot.cool) && !r.prot.hot

/-- R126: the channel leaves COOLDOWN at the event that completes the exit conditions. -/
def State.tryCooldownExit (c : Channel) (s : State) : State :=
  if (s.chan c).exitReady then s.release c else s

/-- R151, R154: a sign of use reloads the auto-off timer of a channel that runs (log 17). -/
def ChannelRecord.reloadAutoOff (r : ChannelRecord) : ChannelRecord :=
  if r.state == .starting || r.state == .on || r.state == .cycling then { r with autoOff := r.cfg.autoOffFull } else r

end Sys2Proof.Machine
end

