-- ==== Sys2Proof/Machine/Bindings.lean ====
section
/-! DEFINITION. Bindings.lean: the Binding Map, the Signal Table, the wired inputs and the follow-up of echo changes
(chapter 2), with the meanings of WIRED_INPUT_PIN_CHANGE, DEBOUNCE_EXPIRY and AGEING_STEP. -/

namespace Sys2Proof.Machine

/-- Station n's flag in a publisher or service mask (section 12.3). -/
def inMask (mask : BitVec 16) (st : Station) : Bool := mask.getLsbD st.val

/-- R25: a link signal. -/
def isLink (source : Byte) : Bool := source.toNat < 224

/-- The Signal Table's entry of a number. -/
def BindingMap.entry (m : BindingMap) (n : Byte) : Option SignalEntry := m.table.find? fun e => e.signal == n

/-- A wired input's value as a source: 255 while active (section 2.1). -/
def State.wiredValue (s : State) (w : WiredInput) : Byte := if (s.wired[w]).debounced then 255 else 0

/-- R25: the value a source number has now. -/
def State.valueOf (s : State) (n : Nat) : Byte :=
  if n < 224 then
    match s.bind.entry (BitVec.ofNat 8 n) with
    | some e => e.value
    | none => 0
  else if n < 232 then s.wiredValue (Fin.ofNat 8 (n - 224))
  else if n < 252 then (s.chan (Fin.ofNat 20 (n - 232))).echoTaken
  else 0

/-- R25: the value a source has now. -/
def State.sourceValue (s : State) (source : Byte) : Byte := s.valueOf source.toNat

/-- R31: the freshness a binding's view has now. -/
def State.judgeFresh (s : State) (b : Binding) : Bool :=
  if isLink b.source then
    match s.bind.entry b.source with
    | none => false
    | some e =>
      e.taken
        && (match e.publisher with
            | some p => inMask b.mask p
            | none => false)
        && !(0 < b.staleness && b.staleness < e.age)
  else true

/-- R32: the output of a mode for a value and a threshold. -/
def BindingMode.output (m : BindingMode) (v h : Byte) : Byte :=
  match m with
  | .switch => if h ≤ v then 255 else 0
  | .inverse => if v < h then 255 else 0
  | .level => v

/-- R33: the output of a fallback. -/
def Fallback.output (f : Fallback) (held : Byte) : Byte :=
  match f with
  | .hold => held
  | .off => 0
  | .full => 255

/-- R31 to R33: a binding evaluated anew. -/
def State.evaluate (s : State) (b : Binding) : Binding :=
  if s.judgeFresh b then
    let out := b.mode.output (s.sourceValue b.source) b.threshold
    { b with fresh := true, held := out, present := out }
  else { b with fresh := false, present := b.fallback.output b.held }

/-- R34: the largest present output among the bindings of a channel. -/
def BindingMap.rawOf (m : BindingMap) (c : Channel) : Byte :=
  (m.bindings.filter fun b => b.target == c).foldl (fun acc b => maxByte acc b.present) 0

/-- The state with other binding records. -/
def State.setBindings (s : State) (bs : List Binding) : State := { s with bind := { s.bind with bindings := bs } }

/-- R34, R35: a channel re-evaluated: its bindings first, then its raw request. A slot freed by the change is handed on
in the same event (R81). -/
def State.reevaluate (c : Channel) (s : State) : State :=
  let s1 := s.setBindings (s.bind.bindings.map fun b => if b.target = c then s.evaluate b else b)
  (s1.setRaw c (s1.bind.rawOf c)).handSlots

/-- The channels that a valid binding on a source targets. -/
def State.targetsOf (s : State) (source : Byte) : List Channel :=
  allChannels.filter fun c => s.bind.bindings.any fun b => b.source == source && b.target == c

/-- R36, R151: a source change notice for a channel. -/
def State.notice (c : Channel) (s : State) : State := s.modChan c (·.reloadAutoOff)

/-- The signal number of a channel's echo (section 2.1). -/
def echoSource (c : Channel) : Byte := BitVec.ofNat 8 (232 + c.val)

/-- The signal number of a wired input (section 2.1). -/
def wiredSource (w : WiredInput) : Byte := BitVec.ofNat 8 (224 + w.val)

/-- R36, R35: a changed source value: the notices, then the re-evaluations, in channel order (log 14). -/
def State.sourceChanged (source : Byte) (s : State) : State :=
  let ts := s.targetsOf source
  ts.foldl (fun s c => s.reevaluate c) (ts.foldl (fun s c => s.notice c) s)

/-- R38: an echo change to `v` is taken by the Binding Map at each follower. -/
def State.takeEcho (c : Channel) (v : Byte) (s : State) : State :=
  (s.modChan c fun r => { r with echoTaken := v }).sourceChanged (echoSource c)

/-- A channel record whose echo the Binding Map has taken (R38). -/
def ChannelRecord.followed (r : ChannelRecord) : ChannelRecord := { r with echoTaken := r.echo }

/-- The state in which the Binding Map has taken every echo (R38). -/
def State.echoed (s : State) : State := { s with channels := s.channels.map (·.followed), echoes := [] }

/-- R38: the echo changes handed over are taken one after another, oldest first, until none is left (log 13). With none left
the echoes taken are the echoes, in every state that a run reaches. -/
def settleFor : Nat → State → State
  | 0, s => s.echoed
  | n + 1, s =>
    match s.echoes with
    | [] => s.echoed
    | (c, v) :: rest => settleFor n ({ s with echoes := rest }.takeEcho c v)

/-- R38, R81: what follows an event: freed slots are handed on and echo changes travel down the follow chains. -/
def State.settle (s : State) : State := settleFor Config.echoFuel s.handSlots

/-- R37: the debounce timer runs while the pin differs from the debounced level. -/
def WiredInputState.setPin (grounded : Bool) (w : WiredInputState) : WiredInputState :=
  if grounded = w.pin then w
  else { w with pin := grounded, timer := if grounded = w.debounced then none else some Config.debounceMs }

/-- The state with a wired input replaced. -/
def State.setWired (s : State) (i : WiredInput) (w : WiredInputState) : State := { s with wired := s.wired.set i w }

/-- WIRED_INPUT_PIN_CHANGE (R37). -/
def execWiredInputPinChange (i : WiredInput) (grounded : Bool) (s : State) :
    Host.Outcome State Fault Refusal :=
  .next (s.setWired i ((s.wired[i]).setPin grounded))

/-- R23: in LIMP, W0 to W3 set the raw requests of CH0 to CH3: 255 while active, 0 while not. -/
def State.limpFollow (i : WiredInput) (s : State) : State :=
  if i.val < 4 then s.setRaw (Fin.ofNat 20 i.val) (s.wiredValue i) else s

/-- R151: an edge of the debounced level reloads the channels whose activity input it is. -/
def State.activityEdge (i : WiredInput) (s : State) : State :=
  allChannels.foldl
    (fun s c => if (s.chan c).cfg.activityInput == some i then s.modChan c (·.reloadAutoOff) else s) s

/-- R37, R35, R36: the debounced level changes and every block that reads it takes the change. -/
def State.debouncedChange (i : WiredInput) (s : State) : State :=
  let w := s.wired[i]
  let s1 := (s.setWired i { w with debounced := w.pin, timer := none }).activityEdge i
  if s.mode = .limp then s1.limpFollow i else s1.sourceChanged (wiredSource i)

/-- DEBOUNCE_EXPIRY (R37): nothing to do where the timer is not at its end (log 2). -/
def execDebounceExpiry (i : WiredInput) (s : State) : Host.Outcome State Fault Refusal :=
  if ended (s.wired[i]).timer then .next (s.debouncedChange i).settle else .next s

/-- R29: one ageing step of an entry. -/
def SignalEntry.aged (e : SignalEntry) : SignalEntry :=
  if e.taken then { e with age := min (e.age + 1) Config.signalAgeMax } else e

/-- R31, R35: a channel one of whose bindings has changed its view. -/
def State.viewChanged (s : State) (c : Channel) : Bool :=
  s.bind.bindings.any fun b => b.target == c && s.judgeFresh b != b.fresh

/-- R29, R31: an ageing step of the table and the staleness expiries it brings. DESIGN CHOICE (log 48): the channels whose
views change are re-evaluated in channel order, which orders the INTENT and STATUS frames they queue; R35 gives none. -/
def State.ageTable (s : State) : State :=
  let s1 := { s with
    bind := { s.bind with table := s.bind.table.map (·.aged), ageing := some Config.ageingStepMs } }
  (allChannels.filter s1.viewChanged).foldl (fun s c => s.reevaluate c) s1

/-- AGEING_STEP (R29): nothing to do before the table is built. -/
def execAgeingStep (s : State) : Host.Outcome State Fault Refusal :=
  if s.bind.ageing.isNone then .next s else .next s.ageTable.settle

end Sys2Proof.Machine
end

