-- ==== Sys2Proof/Machine/Budget.lean ====
section
/-! DEFINITION. Budget.lean: the Budget Unit (chapter 4): worst band and allowance, tier sums, admission, and the
budget round with its four stages; the meanings of HOLD_EXPIRY and BUDGET_ROUND. -/

namespace Sys2Proof.Machine

/-! ### Sums (R61, R64) -/

/-- R61: own tier booking o_t. -/
def State.ownTier (s : State) (t : Tier) : Nat :=
  (allChannels.map fun c => if (s.chan c).cfg.tier = t then (s.chan c).booking else 0).sum

/-- R47, R61: peer tier booking P_t, over LIVE and STALE entries. -/
def State.peerTier (s : State) (t : Tier) : Nat := (s.peers.map fun e => e.bookings.get t).sum

/-- R61: the cumulative sum S_t. -/
def State.tierSum (s : State) (t : Tier) : Nat :=
  (((List.finRange 4).filter (· ≤ t)).map fun k => s.ownTier k + s.peerTier k).sum

/-- R1: own bank booked current. -/
def State.bankBooked (s : State) (b : Bank) : Nat :=
  (allChannels.map fun c => if bankOf c = b then (s.chan c).booking else 0).sum

/-! ### Worst band and allowance (R60) -/

/-- R47: the lowest band among the LIVE entries. -/
def State.lowestLiveBand (s : State) : Option Band :=
  (s.peers.filter fun e => !e.stale).foldl
    (fun acc e =>
      match acc with
      | none => some e.band
      | some b => some (b.lower e.band)) none

/-- R60: the percentage of a band. -/
def BudgetConfig.percent (k : BudgetConfig) : Band → Nat
  | .charging => 100
  | .battery => k.pB
  | .low => k.pL
  | .crank => 0

/-- R60: the allowance at a worst band. -/
def BudgetConfig.allowanceAt (k : BudgetConfig) (w : Band) : Nat := k.aCfg * k.percent w / 100

/-- R60: the worst band: the own band, or the lowest LIVE peer band where that is lower. -/
def State.worstBand (s : State) : Option Band :=
  match s.budget.ownBand, s.lowestLiveBand with
  | some o, some p => some (o.lower p)
  | some o, none => some o
  | none, _ => none

/-- R60: W and A as the present bands give them; the Budget Unit computes neither without its configuration values. -/
def State.setWorst (s : State) : State :=
  match s.budget.config, s.worstBand with
  | some k, some w => { s with budget := { s.budget with worst := some w, allowance := some (k.allowanceAt w) } }
  | _, _ => s

/-- R60: the new worst band is lower than the one held. -/
def bandDropped (old new : Option Band) : Bool :=
  match old, new with
  | some a, some b => b.code < a.code
  | _, _ => false

/-- The allowance in force; none is computed outside LISTENING, RUNNING, ISOLATED and CLASHED. -/
def State.allowanceNow (s : State) : Nat := s.budget.allowance.getD 0

/-- The configuration values in force. -/
def State.budgetConfig (s : State) : BudgetConfig :=
  s.budget.config.getD ⟨0, 0, 0, 0, 0, Vector.replicate 4 0⟩

/-! ### Admission (section 4.4) -/

/-- The place of the own entry of a channel in line order. -/
def State.ownPlace (s : State) (c : Channel) : Option Nat := s.intents.entries.findIdx? (s.isOwnEntry c)

/-- R49: the entry at place `i` precedes the entry `y` at place `j`. -/
def precedes (i : Nat) (x : IntentEntry) (j : Nat) (y : IntentEntry) : Bool :=
  x.tier < y.tier || (x.tier == y.tier && i < j)

/-- The entries that precede the entry `y` at place `j`, in line order. -/
def State.preceding (s : State) (j : Nat) (y : IntentEntry) : List IntentEntry :=
  (s.intents.entries.zipIdx.filter fun p => precedes p.2 p.1 j y).map (·.1)

/-- R55: overflow is in effect. -/
def State.overflowing (s : State) : Bool :=
  Config.intentListMax ≤ s.intents.entries.length || s.intents.overflow.isSome

/-- R63: the budget condition. -/
def State.budgetHolds (s : State) (j : Nat) (y : IntentEntry) : Bool :=
  s.tierSum y.tier + ((s.preceding j y).map (·.booking)).sum + y.booking ≤ s.allowanceNow

/-- R64: the bank condition. -/
def State.bankHolds (s : State) (c : Channel) (y : IntentEntry) : Bool :=
  s.bankBooked (bankOf c) + y.booking ≤ s.budgetConfig.feedRating[bankOf c]

/-- R65: an entry whose inrush still counts. -/
def IntentEntry.inrushing (e : IntentEntry) : Bool := 2 < e.window && e.age < e.window * 10

/-- R65: the inrush condition. -/
def State.inrushHolds (s : State) (j : Nat) (y : IntentEntry) : Bool :=
  y.window ≤ 2 || ((s.preceding j y).filter (·.inrushing)).length < s.budgetConfig.inrushLimit

/-- R62: the five conditions of admission. -/
def State.admits (s : State) (c : Channel) (j : Nat) (y : IntentEntry) : Bool :=
  s.mode == .running && !s.overflowing && s.budgetHolds j y && s.bankHolds c y && s.inrushHolds j y

/-- R66: a refusal: DEFERRED, and a WITHDRAW is queued. -/
def State.refuse (c : Channel) (s : State) : State := (s.enter c (·.idle .deferred)).send (.withdraw c)

/-- R52, R62, R66: the decision on the own entry `y` at place `j`; the entry is removed whatever the outcome. -/
def State.decide (c : Channel) (j : Nat) (y : IntentEntry) (s : State) : State :=
  let ok := s.admits c j y
  let s1 := s.setEntries (s.intents.entries.eraseIdx j)
  if (s.chan c).state != .pending then s1
  else if ok then s1.grantAdmission c else s1.refuse c

/-- HOLD_EXPIRY (R52, R62): nothing to do where no own entry of the channel is at the end of its hold. -/
def execHoldExpiry (c : Channel) (s : State) : Host.Outcome State Fault Refusal :=
  match s.ownPlace c with
  | none => .next s
  | some j =>
    match s.intents.entries[j]? with
    | none => .next s
    | some y => if ended y.hold then .next (s.decide c j y).settle else .next s

/-! ### The shed stage (section 4.5) -/

/-- R67: the shed tier. -/
def State.shedTier (s : State) : Option Tier :=
  if s.allowanceNow < s.tierSum 0 then some 1
  else ([1, 2, 3] : List Tier).find? fun t => s.allowanceNow < s.tierSum t

/-- R67: the overbooked indicator, and SAFETY_OVERBOOKED at its onset. -/
def State.judgeOverbooked (s : State) : State :=
  let exceeded : Bool := s.allowanceNow < s.tierSum 0
  let s1 := if exceeded && !s.budget.overbooked then s.raise .safetyOverbooked else s
  { s1 with budget := { s1.budget with overbooked := exceeded } }

/-- R72: a channel is shed. -/
def State.shed (c : Channel) (s : State) : State := s.enter c (·.toShed)

/-- Channels, highest number first (R3, R70, R71). -/
def channelsDown : List Channel := allChannels.reverse

/-- R68: every booked own channel of a tier above the shed tier is shed. -/
def State.shedAbove (t : Tier) (s : State) : State :=
  allChannels.foldl
    (fun s c => if t < (s.chan c).cfg.tier && (s.chan c).state.books then s.shed c else s) s

/-- R69: the own share of the excess in the shed tier. -/
def State.ownShare (s : State) (t : Tier) : Nat :=
  let excess := s.tierSum t - s.allowanceNow
  let above := ((s.peers.filter fun e => s.own < e.station).map fun e => e.bookings.get t).sum
  if above < excess then min (s.ownTier t) (excess - above) else 0

/-- R70: what a throttle saves. -/
def ChannelRecord.saving (r : ChannelRecord) : Nat := r.cfg.nominal - r.cfg.bookingFor r.duty true

/-- R70: a channel the round may throttle. -/
def ChannelRecord.throttles (r : ChannelRecord) (t : Tier) : Bool :=
  r.cfg.tier == t && r.cfg.dutyMode == .slowCycle && r.cfg.throttleable && !r.throttled
    && (r.state == .slotwait || r.state == .starting || r.state == .on) && 0 < r.saving

/-- R70: a channel in ON goes to CYCLING; in SLOTWAIT and STARTING only the booking falls. -/
def State.throttle (c : Channel) (s : State) : State :=
  if (s.chan c).state == .on then s.enter c (·.toCyclingFromOn) else s.modChan c (·.withThrottle true)

/-- R70: eligible channels of the shed tier are throttled, highest first, until the total reaches the share. -/
def State.throttleStep (t : Tier) (share : Nat) (s : State) : State × Nat :=
  channelsDown.foldl
    (fun (p : State × Nat) c =>
      let r := p.1.chan c
      if p.2 < share && r.throttles t then (p.1.throttle c, p.2 + r.saving) else p) (s, 0)

/-- R71: booked channels of the shed tier are shed, highest first, until the total reaches the share. -/
def State.offStep (t : Tier) (share : Nat) (p : State × Nat) : State × Nat :=
  channelsDown.foldl
    (fun (p : State × Nat) c =>
      let r := p.1.chan c
      if p.2 < share && r.cfg.tier == t && r.state.books then (p.1.shed c, p.2 + r.booking) else p) p

/-- R67 to R72, R81: the shed stage; freed slots are handed when it ends. -/
def State.shedStage (s : State) : State :=
  match s.shedTier with
  | none => s.judgeOverbooked
  | some t =>
    let share := s.ownShare t
    (State.offStep t share ((s.judgeOverbooked.shedAbove t).throttleStep t share)).1.handSlots

/-! ### Re-admission, deferred and report stages (sections 4.6, 4.7) -/

/-- R73: a re-admission candidate. -/
def ChannelRecord.candidate (r : ChannelRecord) : Bool :=
  (r.state == .shed && r.eff != 0)
    || (r.throttled && (r.state == .slotwait || r.state == .starting || r.state == .cycling))

/-- R73: the candidate of lowest tier number and then of lowest channel number. -/
def State.readmissionCandidate (s : State) : Option Channel := s.byTier.find? fun c => (s.chan c).candidate

/-- R74, R75: the current the candidate would add. -/
def ChannelRecord.readmissionCost (r : ChannelRecord) : Nat :=
  if r.throttled then r.saving else r.cfg.bookingFor r.duty false

/-- R74, R75: the test S_3 + added ≤ A − M, which fails where A − M is below 0. -/
def State.readmits (s : State) (c : Channel) : Bool :=
  s.tierSum 3 + (s.chan c).readmissionCost + s.budgetConfig.margin ≤ s.allowanceNow

/-- R74: an un-throttle: CYCLING returns to ON; SLOTWAIT and STARTING keep their state. -/
def State.unthrottle (c : Channel) (s : State) : State :=
  if (s.chan c).state == .cycling then s.enter c (·.toOnFromCycling) else s.modChan c (·.withThrottle false)

/-- R76: the channels the deferred stage re-announces. -/
def ChannelRecord.reannounces (r : ChannelRecord) : Bool := r.state == .deferred && r.eff != 0

/-- R73 to R76: the re-admission and deferred stages of a round in RUNNING. The round's intents, of both stages together,
are queued in order of tier and channel number. `shedding` says that the shed stage found a shed tier. DESIGN CHOICE (log
42): a SHED candidate that passes moves to PENDING at its place in that order, among the deferred channels, so that its
STATUS stands beside its INTENT; R58 has its stage first and R76 orders the INTENTs alone. -/
def State.restoreStages (shedding : Bool) (s : State) : State :=
  let chosen := if shedding then none else s.readmissionCandidate.filter s.readmits
  let s1 :=
    match chosen with
    | some c => if (s.chan c).throttled then s.unthrottle c else s
    | none => s
  let again := s1.byTier.filter fun c =>
    (s1.chan c).reannounces || (chosen == some c && (s1.chan c).state == .shed)
  again.foldl (fun s c => s.announce c) s1

/-- R77: the own tier bookings, each clamped for the line. -/
def State.reportValues (s : State) : TierValues :=
  ⟨min (s.ownTier 0) Config.lineBookingMax, min (s.ownTier 1) Config.lineBookingMax,
    min (s.ownTier 2) Config.lineBookingMax, min (s.ownTier 3) Config.lineBookingMax⟩

/-- R77: the own draw report is built and queued. -/
def State.reportStage (s : State) : State := s.send (.draw (s.budget.ownBand.getD .crank) s.reportValues)

/-- R58: a budget round: the stages that the part mode runs, in order. -/
def State.takeRound (s : State) : State :=
  match s.mode with
  | .configuring => s
  | .listening | .isolated => s.shedStage.reportStage
  | .running => (s.shedStage.restoreStages s.shedTier.isSome).reportStage
  | .clashed => s.shedStage
  | .limp => s.reportStage

/-- R60: a band notice: W and A anew; a drop raises BAND_DROP and takes an extra round at once. -/
def State.bandNotice (s : State) : State :=
  let s1 := s.setWorst
  if bandDropped s.budget.worst s1.budget.worst then (s1.raise .bandDrop).takeRound else s1

/-- R57: a periodic round; the timer starts its next 100 ms. -/
def State.periodicRound (s : State) : State :=
  { s with budget := { s.budget with round := some Config.roundMs } }.takeRound

/-- BUDGET_ROUND (R57): nothing to do while the round timer is stopped. -/
def execBudgetRound (s : State) : Host.Outcome State Fault Refusal :=
  if s.budget.round.isNone then .next s else .next s.periodicRound.settle

end Sys2Proof.Machine
end

