-- ==== Sys2Proof/Machine/Line.lean ====
section
/-! DEFINITION. Line.lean: the Line Interface (sections 10.1 to 10.4) and the tables that frames fill (chapter 3 and
R27, R28): received frames, clash, line loss, the transmit queue's attempts and expiries. -/

namespace Sys2Proof.Machine

/-! ### Frames received (R156, R157, R159) -/

/-- R46: what leaving ISOLATED removes from the Peer Table. -/
def State.dropHeldPeers (s : State) : State :=
  { s with peers := s.peers.filter fun e => !(e.stale && Config.peerRemovalMs ≤ e.age) }

/-- R12: a channel in PENDING whose announcement is lost goes to DEFERRED with no WITHDRAW. -/
def State.deferPending (c : Channel) (s : State) : State :=
  if (s.chan c).state == .pending then s.enter c (·.idle .deferred) else s

/-- R157: the INTENT-kind frames discarded at the clash; an INTENT's channel goes to DEFERRED with no WITHDRAW. DESIGN CHOICE
(log 45): the channels go in the order of the queue, oldest INTENT first, which decides whose STATUS has room. -/
def State.discardIntents (s : State) : State :=
  let s1 := s.setQueue (s.txQueue.filter fun e => e.frame.kind != 0)
  s.txQueue.foldl
    (fun s e =>
      match e.frame with
      | .intent c _ _ _ => s.deferPending c
      | .withdraw _ | .draw _ _ | .reply _ _ _ | .status _ => s) s1

/-- R23, R56: in LISTENING no INTENT is sent (log 39). R46, R157: in CLASHED no DRAW is offered (log 44). -/
def State.mayOffer (s : State) (f : TxFrame) : Bool :=
  !(s.mode == .listening && f.isIntent) && !(s.mode == .clashed && f.isDraw)

/-- R161: a failed attempt leaves the frame in its place. -/
def TxEntry.failed (e : TxEntry) : TxEntry := { e with attempt := none }

/-- The attempts of frames that the part mode no longer lets out end, and the frames keep their places (log 39, log 44). -/
def State.holdBack (s : State) : State :=
  s.setQueue (s.txQueue.map fun e => if s.mayOffer e.frame then e else e.failed)

/-- R157: entry to CLASHED. DESIGN CHOICE (log 44): a DRAW that waits keeps its entry and is offered no more. -/
def State.enterClashed (s : State) : State :=
  let s1 := if s.mode = .isolated then s.dropHeldPeers else s
  { s1.setMode .clashed with line := { s1.line with listen := none } }.holdBack.discardIntents

/-- R157: a clash frame; only the first since reset is an onset. -/
def State.clashFrame (s : State) : State :=
  if s.line.clashMark then s
  else
    let s1 := { s with line := { s.line with clashMark := true } }.raise .clash
    match s.mode with
    | .listening | .running | .isolated => s1.enterClashed
    | .configuring | .clashed | .limp => s1

/-- R156 step 1, R159: every frame restarts the silence timer and ends a line loss. -/
def State.heard (s : State) : State := { s with line := { s.line with silence := some 0, lineLoss := false } }

/-- R159: a frame that is no clash frame ends ISOLATED: LISTENING, with a fresh listen of 300 ms; a queued INTENT is held
back (log 39). DESIGN CHOICE (log 40): an own entry whose hold still runs stays in the Intent List through LISTENING, since
R52 runs the hold in every part mode, and is refused at its end; R56 speaks of no own entries there. -/
def State.endIsolation (s : State) : State :=
  if s.mode = .isolated then
    { s.dropHeldPeers.setMode .listening with line := { s.line with listen := some Config.listenMs } }.holdBack
  else s

/-- R156: a received frame: dropped in CONFIGURING, and not received by a controller in bus-off (R158); otherwise heard,
taken as a clash frame where it bears the own station number, and handed to the block that owns it where it does not. -/
def State.receive (sender : Station) (take : State → State) (s : State) : State :=
  if s.mode = .configuring ∨ s.line.busOff = true then s
  else if sender = s.own then s.heard.clashFrame
  else take s.heard.endIsolation

/-- OTHER_FRAME_RECEIVED (R156 steps 1 to 5): the frame is heard and dropped. -/
def execOtherFrameReceived (sender : Station) (s : State) : Host.Outcome State Fault Refusal :=
  .next (s.receive sender fun s => s).settle

/-! ### SIGNAL (R27, R28) -/

/-- R27: a taken frame entry. -/
def State.takeSignal (sender : Station) (n v : Byte) (s : State) : State :=
  let old := s.sourceValue n
  let table := s.bind.table.map fun (e : SignalEntry) =>
    if e.signal = n then { e with value := v, publisher := some sender, age := 0, taken := true } else e
  let s1 := { s with bind := { s.bind with table := table } }
  let ts := s1.targetsOf n
  let s2 := if v = old then s1 else ts.foldl (fun s c => s.notice c) s1
  ts.foldl (fun s c => s.reevaluate c) s2

/-- R28: a foreign-publisher onset; the record names the first since the flag was last clear. -/
def State.foreignOnset (sender : Station) (n : Byte) (s : State) : State :=
  let s1 := if s.eventSet .foreignPublisher then s else { s with bind := { s.bind with foreign := some (n, sender) } }
  s1.raise .foreignPublisher

/-- R27: one entry of a SIGNAL frame. -/
def State.signalEntry (sender : Station) (s : State) (p : Byte × Byte) : State :=
  match s.bind.entry p.1 with
  | none => s
  | some _ =>
    if s.bind.bindings.any fun b => b.source == p.1 && inMask b.mask sender then s.takeSignal sender p.1 p.2
    else s.foreignOnset sender p.1

/-- R41: SIGNAL frames are not handed on in LIMP. -/
def State.takeSignals (sender : Station) (entries : List (Byte × Byte)) (s : State) : State :=
  if s.mode = .limp then s else entries.foldl (fun s p => s.signalEntry sender p) s

/-- SIGNAL (R27). -/
def execSignal (sender : Station) (entries : List (Byte × Byte)) (s : State) : Host.Outcome State Fault Refusal :=
  .next (s.receive sender (·.takeSignals sender entries)).settle

/-! ### DRAW and the Peer Table (R43 to R47, R54) -/

/-- R43, R181: the booking field of a DRAW word, taken as at most 4095. -/
def drawBooking (w : BitVec 16) : Nat := min (w.toNat % 8192) Config.lineBookingMax

/-- R43, section 12.2: the band field of word 0, none for a code above 3. -/
def drawBand (w : BitVec 16) : Option Band := Band.ofCode (w.toNat / 8192)

/-- R44: an entry in its place in station-number order, replacing the station's earlier one. -/
def insertPeer (e : PeerEntry) : List PeerEntry → List PeerEntry
  | [] => [e]
  | x :: rest =>
    if e.station < x.station then e :: x :: rest
    else if e.station = x.station then e :: rest
    else x :: insertPeer e rest

/-- R54: a report counted against the sender's entries: the second removes them. -/
def countReport (own sender : Station) (es : List IntentEntry) : List IntentEntry :=
  (es.filter fun e => !(e.station == sender && e.station != own && 1 ≤ e.reports)).map fun e =>
    if e.station = sender ∧ e.station ≠ own then { e with reports := e.reports + 1 } else e

/-- R47: a change of the lowest LIVE band gives the Budget Unit a band notice; `before` is the band before the change.
In LIMP it computes nothing from it (R60). -/
def State.peerNotice (before : Option Band) (s : State) : State :=
  if s.lowestLiveBand = before then s else s.bandNotice

/-- R43, R44, R54: a report handed on. -/
def State.takeDraw (sender : Station) (band : Band) (v : TierValues) (s : State) : State :=
  let s1 := { s with peers := insertPeer ⟨sender, v, band, 0, false⟩ s.peers }
  (s1.setEntries (countReport s.own sender s1.intents.entries)).peerNotice s.lowestLiveBand

/-- DRAW (R43): a band code above 3 drops the frame whole. -/
def execDraw (sender : Station) (w0 w1 w2 w3 : BitVec 16) (s : State) : Host.Outcome State Fault Refusal :=
  .next (s.receive sender fun s =>
    match drawBand w0 with
    | none => s
    | some b => s.takeDraw sender b ⟨drawBooking w0, drawBooking w1, drawBooking w2, drawBooking w3⟩).settle

/-- R45: the station's LIVE entry is old enough to turn STALE. -/
def PeerEntry.turnsStale (st : Station) (e : PeerEntry) : Bool :=
  e.station == st && !e.stale && Config.peerStaleMs ≤ e.age

/-- PEER_ENTRY_STALE (R45): nothing to do without a LIVE entry of the station whose age has reached 350 ms (log 32). -/
def execPeerEntryStale (st : Station) (s : State) : Host.Outcome State Fault Refusal :=
  let peers := s.peers.map fun (e : PeerEntry) => if e.turnsStale st then { e with stale := true } else e
  .next ({ s with peers := peers }.peerNotice s.lowestLiveBand).settle

/-- PEER_ENTRY_REMOVAL (R45, R46): a STALE entry whose age has reached 1000 ms is removed (log 32), or, while the part is
ISOLATED, held at that age. -/
def execPeerEntryRemoval (st : Station) (s : State) : Host.Outcome State Fault Refusal :=
  if s.mode = .isolated then
    .next { s with
      peers := s.peers.map fun e =>
        if e.station = st ∧ e.stale = true ∧ Config.peerRemovalMs ≤ e.age then { e with age := Config.peerRemovalMs } else e }
  else .next { s with peers := s.peers.filter fun e => !(e.station == st && e.stale && Config.peerRemovalMs ≤ e.age) }

/-! ### INTENT, WITHDRAW and the Intent List (R49 to R55) -/

/-- R55: an overflow onset. -/
def State.overflowOnset (s : State) : State :=
  let s1 := s.raise .intentOverflow
  { s1 with intents := { s1.intents with overflow := some Config.overflowMs } }

/-- R181: an INTENT booking above 4095 is taken as 4095. -/
def intentBooking (w : BitVec 16) : Nat := min w.toNat Config.lineBookingMax

/-- R50, R56: INTENT and WITHDRAW frames are taken in every part mode but CONFIGURING and LIMP. -/
def State.takesIntents (s : State) : Bool := s.mode != .configuring && s.mode != .limp

/-- R50: an INTENT's entry: replaces the entry of the same station and channel, joins the end of line order, or finds
the list full. -/
def State.storeIntent (e : IntentEntry) (s : State) : State :=
  let others := s.intents.entries.filter fun x => !(x.station == e.station && x.channel == e.channel)
  if others.length < s.intents.entries.length then s.setEntries (others ++ [e])
  else if s.intents.entries.length < Config.intentListMax then s.setEntries (s.intents.entries ++ [e])
  else s.overflowOnset

/-- R50: the tier of an INTENT, none for 0 and for a code above 3. -/
def intentTier (t : Byte) : Option Tier :=
  if 1 ≤ t.toNat ∧ t.toNat ≤ 3 then some (Fin.ofNat 4 t.toNat) else none

/-- The channel number of a received INTENT or WITHDRAW. -/
def lineChannel (c : BitVec 5) : Fin 32 := Fin.ofNat 32 c.toNat

/-- INTENT (R50). -/
def execIntent (sender : Station) (c : BitVec 5) (tier : Byte) (booking : BitVec 16) (window : Byte) (s : State) :
    Host.Outcome State Fault Refusal :=
  .next (s.receive sender fun s =>
    match intentTier tier with
    | none => s
    | some t =>
      if s.takesIntents then
        s.storeIntent ⟨sender, lineChannel c, t, intentBooking booking, window.toNat, 0, 0, none⟩
      else s).settle

/-- WITHDRAW (R53). -/
def execWithdraw (sender : Station) (c : BitVec 5) (s : State) : Host.Outcome State Fault Refusal :=
  .next (s.receive sender fun s =>
    if s.takesIntents then
      s.setEntries (s.intents.entries.filter fun e => !(e.station == sender && e.channel == lineChannel c))
    else s).settle

/-- OVERFLOW_TIMER_EXPIRY (R55): the timer stops; entries stay. Nothing to do where the timer is not at its end (log 2). -/
def execOverflowTimerExpiry (s : State) : Host.Outcome State Fault Refusal :=
  if ended s.intents.overflow then .next { s with intents := { s.intents with overflow := none } } else .next s

/-- PEER_INTENT_AGE_EXPIRY (R54): a peer entry whose age has reached 500 ms is removed; own entries have no age limit. -/
def execPeerIntentAgeExpiry (st : Station) (c : BitVec 5) (s : State) : Host.Outcome State Fault Refusal :=
  .next (s.setEntries (s.intents.entries.filter fun e =>
    !(e.station == st && e.channel == lineChannel c && e.station != s.own && Config.intentAgeMs ≤ e.age)))

/-! ### Line loss and the listen (R158, R159, R177) -/

/-- R158: a line loss begins; one that stands already begins no second. -/
def State.beginLoss (s : State) : State :=
  if s.line.lineLoss then s
  else
    let s1 := { s with line := { s.line with lineLoss := true } }.raise .isolated
    match s.mode with
    | .listening | .running => { s1.setMode .isolated with line := { s1.line with listen := none } }
    | .configuring | .isolated | .clashed | .limp => s1

/-- SILENCE_TIMEOUT (R158): nothing to do where the silence timer has not reached 500 ms (log 2). -/
def execSilenceTimeout (s : State) : Host.Outcome State Fault Refusal :=
  match s.line.silence with
  | some t => if Config.silenceMs ≤ t then .next s.beginLoss else .next s
  | none => .next s

/-- BUS_OFF (R158): the controller restarts; the queue keeps its entries, and an attempt under way has failed (log 20). -/
def execBusOff (s : State) : Host.Outcome State Fault Refusal :=
  .next { s with line := { s.line with busOff := true, queue := s.line.queue.map TxEntry.failed } }.beginLoss

/-- BUS_OFF_RECOVERY (R158): the controller receives and transmits again. -/
def execBusOffRecovery (s : State) : Host.Outcome State Fault Refusal :=
  .next { s with line := { s.line with busOff := false } }

/-- LISTEN_EXPIRY (R159, R177): RUNNING; nothing to do outside LISTENING, or where the timer is not at its end (log 2). -/
def execListenExpiry (s : State) : Host.Outcome State Fault Refusal :=
  if s.mode = .listening ∧ ended s.line.listen then
    .next { s.setMode .running with line := { s.line with listen := none } }
  else .next s

/-! ### Transmission (R161, R162) -/

/-- The frame that goes out for a queued frame; a STATUS is read from its channel now (R165). -/
def State.compose (s : State) : TxFrame → Frame
  | .intent c t b w => intentFrame s.own c t b w
  | .withdraw c => withdrawFrame s.own c
  | .draw b v => drawFrame s.own b v
  | .reply target data _ => replyFrame s.own target data
  | .status c => statusFrame s.own c (s.chan c)

/-- R161: the place of the frame offered next: lowest kind number, oldest first, of those that may be offered. -/
def State.nextOffer (s : State) : Option Nat :=
  ([0, 1, 4, 5] : List Nat).findSome? fun k => s.txQueue.findIdx? fun e => e.frame.kind == k && s.mayOffer e.frame

/-- R158, R161: the controller is free to transmit. -/
def State.controllerFree (s : State) : Bool := !s.line.busOff && s.txQueue.all fun e => e.attempt.isNone

/-- TRANSMISSION_START (R161): nothing to do while the controller is not free or no frame waits that may be offered. -/
def execTransmissionStart (s : State) : Host.Outcome State Fault Refusal :=
  if s.controllerFree then
    match s.nextOffer with
    | none => .next s
    | some i => .next (s.setQueue (s.txQueue.modify i fun e => { e with attempt := some (s.compose e.frame) }))
  else .next s

/-- R51: an own INTENT has completed: the own entry is made, or the completion finds the list full. -/
def State.ownCompleted (c : Channel) (tier : Tier) (booking window : Nat) (s : State) : State :=
  if s.intents.entries.length < Config.intentListMax then
    s.setEntries (s.intents.entries ++ [⟨s.own, intentChannel c, tier, booking, window, 0, 0, some Config.holdMs⟩])
  else (s.overflowOnset.deferPending c).send (.withdraw c)

/-- A queued frame is a reply of the request in progress. -/
def TxFrame.ofRequest : TxFrame → Bool
  | .reply _ _ b => b
  | .intent _ _ _ _ | .withdraw _ | .draw _ _ | .status _ => false

/-- R167, R171: a request ends when its last reply has left; RESTART's then owes the restart. -/
def State.endRequest (s : State) : State :=
  match s.service.request with
  | none => s
  | some q =>
    if q.replies.isEmpty && !(s.txQueue.any fun e => e.frame.ofRequest) then
      if q.isRestart then { s with service := { s.service with restartDue := true } }
      else { s with service := { s.service with request := none } }
    else s

/-- R161: the completion handed to the frame's owner. -/
def State.completed (f : TxFrame) (s : State) : State :=
  match f with
  | .intent c t b w => s.ownCompleted c t b w
  | .reply _ _ _ => s.endRequest
  | .withdraw _ | .draw _ _ | .status _ => s

/-- TRANSMISSION_COMPLETION (R161): nothing to do while no attempt runs. -/
def execTransmissionCompletion (s : State) : Host.Outcome State Fault Refusal :=
  match s.txQueue.find? fun e => e.attempt.isSome with
  | none => .next s
  | some e => .next ((s.setQueue (s.txQueue.eraseP fun e => e.attempt.isSome)).completed e.frame).settle

/-- TRANSMISSION_FAILURE (R161): the frame returns to the queue in its place. -/
def execTransmissionFailure (s : State) : Host.Outcome State Fault Refusal :=
  .next (s.setQueue (s.txQueue.map TxEntry.failed))

/-- R162: the expiry of a queued frame; a DRAW has none. -/
def TxFrame.expiryMs : TxFrame → Option Nat
  | .intent _ _ _ _ => some Config.intentExpiryMs
  | .withdraw _ => some Config.intentExpiryMs
  | .draw _ _ => none
  | .reply _ _ _ => some Config.replyExpiryMs
  | .status _ => some Config.statusExpiryMs

/-- R162: the entry has waited until its expiry. -/
def TxEntry.due (e : TxEntry) : Bool :=
  match e.frame.expiryMs with
  | none => false
  | some t => t ≤ e.age

/-- R162: what the expiry of a frame of the entry's kind does once it has left the queue. -/
def State.expired (f : TxFrame) (s : State) : State :=
  match f with
  | .intent c _ _ _ => s.deferPending c
  | .reply _ _ _ => s.endRequest
  | .withdraw _ | .draw _ _ | .status _ => s

/-- QUEUE_EXPIRY (R162): nothing to do at an empty place, at a DRAW, or at a frame that has not waited so long. -/
def execQueueExpiry (place : Fin 6) (s : State) : Host.Outcome State Fault Refusal :=
  match s.txQueue[place.val]? with
  | none => .next s
  | some e =>
    if e.due then .next ((s.setQueue (s.txQueue.eraseIdx place.val)).expired e.frame).settle else .next s

/-- STATUS_ROLL (R166): the pointed channel is offered and the pointer moves on; nothing to do while the timer is
stopped. -/
def execStatusRoll (s : State) : Host.Outcome State Fault Refusal :=
  if s.events.roll.isNone then .next s
  else
    let s1 := s.requestStatus s.events.rollPointer
    .next { s1 with events := { s1.events with rollPointer := s1.events.rollPointer + 1, roll := some Config.rollMs } }

end Sys2Proof.Machine
end

