-- ==== Sys2Proof/Machine/Feed.lean ====
section
/-! DEFINITION. Feed.lean: the Feed Monitor (chapter 8): FEED_MEASUREMENT, KSUP_MEASUREMENT, BAND_FALL, BAND_RISE and
DIE_TEMPERATURE_MEASUREMENT. -/

namespace Sys2Proof.Machine

/-- R135, R142: in LIMP losses and recoveries are handed to CH0 to CH3 alone. -/
def State.handedTo (s : State) (c : Channel) : Bool := s.mode != .limp || c.val < 4

/-- R135, R142: a loss or shutdown at one channel: COOLDOWN and LATCHED keep their state and take no cause; INHIBITED
takes the cause; PENDING undoes its announcement; every other state goes to INHIBITED. -/
def State.inhibit (c : Channel) (cause : Causes → Causes) (s : State) : State :=
  match (s.chan c).state with
  | .cooldown | .latched => s
  | .inhibited => s.modChan c fun r => { r with causes := cause r.causes }
  | .pending => (s.undoAnnouncement c).enter c fun r => { r.idle .inhibited with causes := cause r.causes }
  | .off | .deferred | .slotwait | .starting | .on | .cycling | .shed =>
    s.enter c fun r => { r.idle .inhibited with causes := cause r.causes }

/-- R135, R142: a loss or shutdown handed to channels in one event. -/
def State.inhibitAll (cs : List Channel) (cause : Causes → Causes) (s : State) : State :=
  cs.foldl (fun s c => if s.handedTo c then s.inhibit c cause else s) s

/-- R21: no cause is left. -/
def Causes.none (k : Causes) : Bool := !k.feed && !k.shutdown && !k.config

/-- R136, R143: a recovery at one channel: its cause goes, and an INHIBITED channel with no cause left runs again. -/
def State.recover (c : Channel) (cause : Causes → Causes) (s : State) : State :=
  let s1 := s.modChan c fun r => { r with causes := cause r.causes }
  if (s1.chan c).state == .inhibited && (s1.chan c).causes.none then s1.freshStart c else s1

/-- R136, R143: a recovery handed to channels, in order of tier and channel number. -/
def State.recoverAll (sel : Channel → Bool) (cause : Causes → Causes) (s : State) : State :=
  (s.byTier.filter sel).foldl (fun s c => if s.handedTo c then s.recover c cause else s) s

/-! ### Bank feeds (R134 to R136) -/

/-- R134: the first judgement of a bank. -/
def firstFeed (v : Nat) : FeedState := if v ≤ 180 then .under else if 300 ≤ v then .over else .inRange

/-- R134: the feed state after a measurement. -/
def nextFeed (f : FeedState) (v : Nat) : FeedState :=
  match f with
  | .inRange => if v < 160 then .under else if 320 < v then .over else .inRange
  | .under => if 320 < v then .over else if 180 < v then .inRange else .under
  | .over => if v < 160 then .under else if v < 300 then .inRange else .over

/-- R172: the reset kind from the first measurements of the banks; a service restart keeps its kind. -/
def decideKind (old : Option ResetKind) (v : Nat) : ResetKind :=
  match old with
  | some .serviceRestart => .serviceRestart
  | some .warm => .warm
  | some .cold => if 160 < v then .warm else .cold
  | none => if 160 < v then .warm else .cold

/-- The state with a bank's feed state set. -/
def State.setFeed (s : State) (b : Bank) (f : FeedState) : State :=
  { s with feed := { s.feed with feeds := s.feed.feeds.set b (some f) } }

/-- R135: a feed loss. -/
def State.feedLoss (b : Bank) (s : State) : State :=
  (s.inhibitAll (allChannels.filter fun c => bankOf c == b) fun k => { k with feed := true }).raise .feed

/-- R136: a feed recovery. -/
def State.feedRecovery (b : Bank) (s : State) : State :=
  s.recoverAll (fun c => bankOf c == b) fun k => { k with feed := false }

/-- R134, R172: a bank's measurement. -/
def State.measureFeed (b : Bank) (v : Nat) (s : State) : State :=
  match s.feed.feeds[b] with
  | none =>
    let s1 := { s with loader := { s.loader with resetKind := some (decideKind s.loader.resetKind v) } }
    let f := firstFeed v
    if f = .inRange then s1.setFeed b f else (s1.setFeed b f).feedLoss b
  | some old =>
    let f := nextFeed old v
    let s1 := s.setFeed b f
    if old = .inRange ∧ f ≠ .inRange then s1.feedLoss b
    else if old ≠ .inRange ∧ f = .inRange then s1.feedRecovery b
    else s1

/-- FEED_MEASUREMENT (R134). -/
def execFeedMeasurement (b : Bank) (v : Nat) (s : State) : Host.Outcome State Fault Refusal :=
  .next (s.measureFeed b v).settle

/-! ### The own supply band (R137 to R140) -/

/-- R137: the band a measurement lies in by plain thresholds. -/
def Thresholds.band (t : Thresholds) (v : Nat) : Band :=
  if t.charging ≤ v then .charging else if t.battery ≤ v then .battery else if t.low ≤ v then .low else .crank

/-- R137: the floor of a band; CRANK has none. -/
def Thresholds.floor (t : Thresholds) : Band → Option Nat
  | .charging => some t.charging
  | .battery => some t.battery
  | .low => some t.low
  | .crank => none

/-- R139: the floor of the next band up; CHARGING has none. -/
def Thresholds.nextFloor (t : Thresholds) : Band → Option Nat
  | .charging => none
  | .battery => some t.charging
  | .low => some t.battery
  | .crank => some t.low

/-- R138: the fall timer after a measurement. -/
def nextFall (floor : Option Nat) (v count : Nat) : Nat :=
  match floor with
  | some f => if v < f then min (count + 1) Config.fallCount else 0
  | none => 0

/-- R139: the rise timer after a measurement. -/
def nextRise (floor : Option Nat) (v count : Nat) : Nat :=
  match floor with
  | some f => if f + Config.riseMargin ≤ v then min (count + 1) Config.riseCount else 0
  | none => 0

/-- R138, R139: a KSUP measurement; it is judged once the thresholds and the own band are set. -/
def FeedMonitor.measureKsup (v : Nat) (f : FeedMonitor) : FeedMonitor :=
  match f.thresholds, f.ownBand with
  | some t, some b =>
    { f with ksup := v, fall := nextFall (t.floor b) v f.fall, rise := nextRise (t.nextFloor b) v f.rise }
  | _, _ => { f with ksup := v }

/-- KSUP_MEASUREMENT (R138). -/
def execKsupMeasurement (v : Nat) (s : State) : Host.Outcome State Fault Refusal :=
  .next { s with feed := s.feed.measureKsup v }

/-- R140: a change of the own band: both timers at 0, and the notice to the Budget Unit. -/
def State.changeBand (b : Band) (s : State) : State :=
  { s with
    feed := { s.feed with ownBand := some b, fall := 0, rise := 0 }
    budget := { s.budget with ownBand := some b } }.bandNotice

/-- BAND_FALL (R138): to the band of the present measurement, once the fall timer has reached its count. -/
def execBandFall (s : State) : Host.Outcome State Fault Refusal :=
  match s.feed.thresholds with
  | none => .next s
  | some t => if s.feed.fall < Config.fallCount then .next s else .next (s.changeBand (t.band s.feed.ksup)).settle

/-- R139: one step up. -/
def Band.up : Band → Band
  | .crank => .low
  | .low => .battery
  | .battery => .charging
  | .charging => .charging

/-- BAND_RISE (R139): one step up, once the rise timer has reached its count. -/
def execBandRise (s : State) : Host.Outcome State Fault Refusal :=
  match s.feed.ownBand with
  | none => .next s
  | some b => if s.feed.rise < Config.riseCount then .next s else .next (s.changeBand b.up).settle

/-! ### Die temperature (R141 to R143) -/

/-- R141: the part temperature state after a measurement. -/
def nextTemp (p : PartTemp) (t : Int) : PartTemp :=
  match p with
  | .normal => if 160 ≤ t then .shutdown else if 130 ≤ t then .warning else .normal
  | .warning => if 160 ≤ t then .shutdown else if t < 120 then .normal else .warning
  | .shutdown => if t < 120 then .normal else if t < 145 then .warning else .shutdown

/-- R141 to R143: a die temperature measurement and its onsets, entry to SHUTDOWN and passage out of it. -/
def State.measureDie (t : Int) (s : State) : State :=
  let old := s.feed.temp
  let new := nextTemp old t
  let s1 := { s with feed := { s.feed with temp := new } }
  let s2 := if old = .normal ∧ new ≠ .normal then s1.raise .dieHot else s1
  if old ≠ .shutdown ∧ new = .shutdown then
    (s2.raise .shutdown).inhibitAll allChannels fun k => { k with shutdown := true }
  else if old = .shutdown ∧ new ≠ .shutdown then
    s2.recoverAll (fun _ => true) fun k => { k with shutdown := false }
  else s2

/-- DIE_TEMPERATURE_MEASUREMENT (R141). -/
def execDieTemperatureMeasurement (t : Int) (s : State) : Host.Outcome State Fault Refusal :=
  .next (s.measureDie t).settle

end Sys2Proof.Machine
end

