-- ==== Sys2Proof/Machine/Start.lean ====
section
/-! DEFINITION. Start.lean: the Start Sequencer's periods and window end (chapter 5) and the Duty Unit (chapter 9):
PWM_PERIOD_START, WINDOW_END, PHASE_TIMER_EXPIRY, AUTO_OFF_EXPIRY and OVERRIDE_EXPIRY. -/

namespace Sys2Proof.Machine

/-! ### Periods (R86, R87, R145) -/

/-- R87: the next period of a start; the last one stands until the window end. -/
def ChannelRecord.nextStartPeriod (t : StartRecord) (r : ChannelRecord) : ChannelRecord :=
  let k := min (t.period + 1) (2 * t.window - 1)
  let d := r.cfg.profileDuty t.window r.duty k
  { r with start := some { t with period := k, profile := d }, span := d.toNat, pwmPos := 0 }

/-- R87, R145: a period begins: the profile duty in STARTING, the duty field in ON. -/
def ChannelRecord.periodStart (r : ChannelRecord) : ChannelRecord :=
  match r.state, r.start with
  | .starting, some t => r.nextStartPeriod t
  | .on, _ => { r with span := r.onSpan, pwmPos := 0 }
  | _, _ => r

/-- PWM_PERIOD_START (R87, R145): no period is under way outside STARTING and ON, and none begins before the present one has
run its 5 ms (log 2). -/
def execPwmPeriodStart (c : Channel) (s : State) : Host.Outcome State Fault Refusal :=
  if Config.periodMs ≤ (s.chan c).pwmPos then .next (s.modChan c (·.periodStart)) else .next s

/-! ### Window end (R90 to R95) -/

/-- R91: at least four of the last eight periods of the window, or of all where there are fewer, were limited. -/
def StartRecord.failed (t : StartRecord) : Bool :=
  4 ≤ (t.limited.filter fun p => 2 * t.window ≤ p + 8).length

/-- R92: the early current. -/
def StartRecord.earlyCurrent (t : StartRecord) : Nat := t.early.sum / 2

/-- R92: the late current, scaled to full conduction by the duty field at window end. -/
def StartRecord.lateCurrent (t : StartRecord) (duty : Byte) : Nat := t.late.sum / 10 * 255 / duty.toNat

/-- R93: the class of an early and a late current and an open threshold. -/
def classify (early late openThreshold : Nat) : LoadClass :=
  if 0 < openThreshold ∧ late < openThreshold then .openLoad
  else if late = 0 then .resistive
  else if 30 ≤ 10 * early / late then .filament
  else if 15 ≤ 10 * early / late then .motor
  else .resistive

/-- R94: a class among the accepted ones. -/
def LoadSet.accepts (a : LoadSet) : LoadClass → Bool
  | .filament => a.filament
  | .motor => a.motor
  | .resistive => a.resistive
  | .unknown | .openLoad => false

/-- R90 step 3: the class a start identifies. -/
def ChannelRecord.identified (r : ChannelRecord) (t : StartRecord) : LoadClass :=
  classify t.earlyCurrent (t.lateCurrent r.duty) r.cfg.openThreshold

/-- R94, R95: the stored class judged: OPEN, MISMATCH, or neither, which clears the identification due flag. -/
def State.judgeClass (c : Channel) (k : LoadClass) (s : State) : State :=
  let r := s.chan c
  if k = .openLoad then s.handFault c .openLoad
  else if r.idDue && !r.cfg.accepted.accepts k then s.handFault c .mismatch
  else s.modChan c fun r => { r with idDue := false }

/-- R90 step 4: CYCLING where the throttled flag is set, otherwise ON. -/
def State.endStart (c : Channel) (s : State) : State :=
  let r := s.chan c
  if r.state != .starting then s
  else if r.throttled then s.enter c (·.toCyclingFromStart)
  else s.enter c (·.toOnFromStart)

/-- R90: the window end, in its four steps. -/
def State.windowEnd (c : Channel) (t : StartRecord) (s : State) : State :=
  let s1 := s.freeSlot c
  if t.failed then s1.handFault c .startfail
  else
    let k := (s1.chan c).identified t
    ((s1.modChan c fun r => { r with idClass := k }).judgeClass c k).endStart c

/-- R98: the window's last sample alone is still to come. -/
def StartRecord.lacksLast (t : StartRecord) : Bool := t.samples + 1 == t.window * 10

/-- WINDOW_END (R90): nothing to do where no start is at its window end. Taken before the window's last sample it waits for
that sample, which belongs to the window (R98, log 41). -/
def execWindowEnd (c : Channel) (s : State) : Host.Outcome State Fault Refusal :=
  match (s.chan c).state, (s.chan c).start with
  | .starting, some t =>
    if t.left ≠ 0 then .next s
    else if t.lacksLast && !t.ending then .next (s.modChan c fun r => { r with start := some { t with ending := true } })
    else .next (s.windowEnd c t).settle
  | _, _ => .next s

/-! ### Slow cycling, auto-off and overrides -/

/-- R148: the phase changes. -/
def ChannelRecord.changePhase (p : Phase) (r : ChannelRecord) : ChannelRecord :=
  if p.onPhase then r.startOffPhase else r.startOnPhase

/-- PHASE_TIMER_EXPIRY (R148): nothing to do outside CYCLING, or where the timer is not at its end (log 2). -/
def execPhaseTimerExpiry (c : Channel) (s : State) : Host.Outcome State Fault Refusal :=
  match (s.chan c).state, (s.chan c).phase with
  | .cycling, some p => if p.left = 0 then .next (s.modChan c (·.changePhase p)).settle else .next s
  | _, _ => .next s

/-- R152 steps 1 to 3: the timer stops, AUTO_OFF is set, and the hold where the raw request is above 0. -/
def ChannelRecord.autoOffExpired (r : ChannelRecord) : ChannelRecord :=
  { r with autoOff := none, events := { r.events with autoOff := true }, hold := r.hold || r.raw != 0 }

/-- AUTO_OFF_EXPIRY (R152): nothing to do where the timer is not at its end, be it stopped or reloaded (log 2). -/
def execAutoOffExpiry (c : Channel) (s : State) : Host.Outcome State Fault Refusal :=
  if ended (s.chan c).autoOff then .next ((s.modChan c (·.autoOffExpired)).applyRequest c).settle else .next s

/-- R170, R154: the override ends and the effective request follows. -/
def State.endOverride (c : Channel) (s : State) : State :=
  (s.modChan c fun r => { r with override := none }).applyRequest c

/-- OVERRIDE_EXPIRY (R170): nothing to do where no override is at the end of its time (log 2). -/
def execOverrideExpiry (c : Channel) (s : State) : Host.Outcome State Fault Refusal :=
  match (s.chan c).override with
  | some o => if o.left = 0 then .next (s.endOverride c).settle else .next s
  | none => .next s

end Sys2Proof.Machine
end

