-- ==== Sys2Proof/Machine/Protection.lean ====
section
/-! DEFINITION. Protection.lean: the Protection Unit (chapter 6) and the timers of chapter 7: CURRENT_SAMPLE, UPDATE,
STALL, OPEN, RETRY_TIMER_EXPIRY and CLEAN_RUN_TIMER_EXPIRY. -/

namespace Sys2Proof.Machine

/-- The last ten of a list of samples, oldest first. -/
def keepTen (l : List Nat) : List Nat := l.drop (l.length - 10)

/-- The record with its protection part changed. -/
def ChannelRecord.modProt (r : ChannelRecord) (f : Protection → Protection) : ChannelRecord :=
  { r with prot := f r.prot }

/-! ### CURRENT_SAMPLE (R84, R85, R88, R101, R108, R114, R115) -/

/-- R98: the window end has come and waits for the window's last sample, which belongs to the millisecond before the present
one (log 41). -/
def ChannelRecord.awaits (r : ChannelRecord) : Bool :=
  match r.start with
  | some t => r.state == .starting && t.ending
  | none => false

/-- The place in the PWM period of the millisecond that a sample ends: a window that waits for its last sample has run that
millisecond already (log 41). -/
def ChannelRecord.samplePos (r : ChannelRecord) : Nat := if r.awaits then r.pwmPos - 1 else r.pwmPos

/-- R101: the switch is open for the whole millisecond that a sample ends: the channel does not conduct, or the conducting
span of its period, in 255ths of 5 ms, is over. -/
def ChannelRecord.isOpen (r : ChannelRecord) : Bool :=
  !r.conducting || r.span * Config.periodMs ≤ r.samplePos * 255

/-- R101: what a sample reads where a current `i` is offered: 0 while the switch is open, at most 1023. -/
def ChannelRecord.reading (i : Nat) (r : ChannelRecord) : Nat := if r.isOpen then 0 else min i Config.senseMax

/-- R101, R110: the sample joins the last ten and, where the channel runs, the count since it began to. It is the present
millisecond's, but for one that a window end waits for (log 41). -/
def ChannelRecord.takeSample (i : Nat) (r : ChannelRecord) : ChannelRecord :=
  r.modProt fun p =>
    { p with
      lastTen := keepTen (p.lastTen ++ [i])
      sinceOn := if r.running then min (p.sinceOn + 1) 10 else p.sinceOn
      sampled := !r.awaits }

/-- R88: the current limit of a start. -/
def ChannelConfig.currentLimit (k : ChannelConfig) : Nat := min (k.shortThreshold - 1) (3 * k.iTrip)

/-- R84, R85: a sample of a start: samples 1 and 2 are early, the last ten of the window late; a sample above the limit
marks the period it falls in. Samples beyond the window's are not the start's. -/
def StartRecord.takeSample (i limit : Nat) (t : StartRecord) : StartRecord :=
  if t.samples < t.window * 10 then
    let p := t.samples / 5
    { t with
      samples := t.samples + 1
      early := if t.samples < 2 then t.early ++ [i] else t.early
      late := keepTen (t.late ++ [i])
      limited := if limit < i && !t.limited.contains p then t.limited ++ [p] else t.limited }
  else t

/-- R88: a sample above the limit opens the switch for the rest of the period it falls in; the last of a period opens
nothing. -/
def StartRecord.opens (i limit : Nat) (t : StartRecord) : Bool :=
  limit < i && t.period ≤ t.samples / 5 && t.samples % 5 != 4

/-- R85, R88: a sample taken in STARTING joins the start. -/
def ChannelRecord.startSample (i : Nat) (r : ChannelRecord) : ChannelRecord :=
  match r.state, r.start with
  | .starting, some t =>
    { r with
      start := some (t.takeSample i r.cfg.currentLimit)
      span := if t.opens i r.cfg.currentLimit then 0 else r.span }
  | _, _ => r

/-- R108: the short detector after a sample, and whether it found a SHORT. -/
def ChannelRecord.shortFound (i : Nat) (r : ChannelRecord) : Bool :=
  r.conducting && r.cfg.shortThreshold ≤ i && r.prot.shortMark

/-- R108: the mark after a sample; at a SHORT it clears and the switch opens. -/
def ChannelRecord.shortSample (i : Nat) (r : ChannelRecord) : ChannelRecord :=
  if r.conducting then
    if r.shortFound i then { r.modProt (fun p => { p with shortMark := false }) with span := 0 }
    else r.modProt fun p => { p with shortMark := decide (r.cfg.shortThreshold ≤ i) }
  else r

/-- R114: the switch thermal state after a reading. -/
def nextHot (hot : Bool) (degrees : Int) : Bool :=
  if hot then !(decide (degrees < Config.switchCool)) else decide (Config.switchHot ≤ degrees)

/-- R114, R115, R126: the reading of a sample: an onset is handed, a recovery may complete a COOLDOWN exit. -/
def State.readSwitch (c : Channel) (degrees : Int) (s : State) : State :=
  let was := (s.chan c).prot.hot
  let now := nextHot was degrees
  let s1 := s.modChan c fun r => r.modProt fun p => { p with hot := now }
  if !was && now then s1.handFault c .thermal
  else if was && !now then s1.tryCooldownExit c
  else s1

/-- R98: a window end that waited for the window's last sample is taken with it. -/
def State.endWaiting (c : Channel) (s : State) : State :=
  match (s.chan c).start with
  | some t => if (s.chan c).awaits then s.windowEnd c t else s
  | none => s

/-- R108: the short detector takes a sample. -/
def State.detectShort (c : Channel) (v : Nat) (s : State) : State :=
  let s1 := s.modChan c (·.shortSample v)
  if (s.chan c).shortFound v then s1.handFault c .short else s1

/-- A sample of a channel: the record and the start, a window end that waited for it (R98), the short detector, and last the
switch reading (log 16). -/
def State.sample (c : Channel) (i : Nat) (degrees : Int) (s : State) : State :=
  let v := (s.chan c).reading i
  (((s.modChan c fun r => (r.takeSample v).startSample v).endWaiting c).detectShort c v).readSwitch c degrees

/-- CURRENT_SAMPLE (R101). -/
def execCurrentSample (c : Channel) (i : Nat) (degrees : Int) (s : State) : Host.Outcome State Fault Refusal :=
  .next (s.sample c i degrees).settle

/-! ### UPDATE (R102 to R112) -/

/-- R102: the ten-sample mean. -/
def Protection.mean (p : Protection) : Nat := p.lastTen.sum / 10

/-- R103: θ after an update with mean `i`. -/
def nextTheta (theta i s : Nat) : Nat := ((theta : Int) + ((i * i : Nat) - (theta : Int)).fdiv (2 ^ s : Nat)).toNat

/-- R106: the reset level. -/
def ChannelConfig.resetLevel (k : ChannelConfig) : Nat := k.iTrip * k.iTrip / 4

/-- R103, R106: the update of θ and the cool indication. -/
def ChannelRecord.updateHeat (r : ChannelRecord) : ChannelRecord :=
  let th := nextTheta r.prot.theta r.prot.mean r.cfg.heatExp
  r.modProt fun p => { p with theta := th, cool := decide (th ≤ r.cfg.resetLevel), update := some Config.updateMs }

/-- R105: the OVERLOAD judgement of the θ just updated. -/
def ChannelRecord.overloaded (r : ChannelRecord) : Bool := r.running && r.cfg.iTrip * r.cfg.iTrip ≤ r.prot.theta

/-- R110, R112: an update that the stall and open detectors judge. -/
def ChannelRecord.judged (r : ChannelRecord) : Bool := r.running && 10 ≤ r.prot.sinceOn

/-- R110: the stall detector at a judged update. -/
def ChannelRecord.judgeStall (i : Nat) (r : ChannelRecord) : ChannelRecord :=
  if r.cfg.stallThreshold = 0 then r.modProt fun p => { p with stallTimer := 0 }
  else if r.cfg.stallThreshold ≤ i then r.modProt fun p => { p with stallTimer := p.stallTimer + 1 }
  else r.modProt fun p => { p with stallTimer := 0, stallMark := false }

/-- R112: the open detector at a judged update. -/
def ChannelRecord.judgeOpen (i : Nat) (r : ChannelRecord) : ChannelRecord :=
  if i < r.cfg.openThreshold then r.modProt fun p => { p with openTimer := p.openTimer + 1 }
  else r.modProt fun p => { p with openTimer := 0, openMark := false }

/-- R110, R112: the detectors run on a judged update alone. -/
def ChannelRecord.judge (r : ChannelRecord) : ChannelRecord :=
  if r.judged then (r.judgeStall r.prot.mean).judgeOpen r.prot.mean else r

/-- R102: an update: θ, the OVERLOAD judgement, the detectors; then a COOLDOWN exit it may complete (R126). -/
def State.updateChannel (c : Channel) (s : State) : State :=
  let s1 := s.modChan c (·.updateHeat)
  let s2 := if (s1.chan c).overloaded then s1.handFault c .overload else s1
  (s2.modChan c (·.judge)).tryCooldownExit c

/-- UPDATE (R102): nothing to do before the channel's heat model runs. -/
def execUpdate (c : Channel) (s : State) : Host.Outcome State Fault Refusal :=
  if (s.chan c).prot.update.isNone then .next s else .next (s.updateChannel c).settle

/-! ### STALL and OPEN (R110, R112, R113) -/

/-- R110: the stall timer has reached the stall time with its mark clear. -/
def ChannelRecord.stallDue (r : ChannelRecord) : Bool :=
  r.running && r.cfg.stallThreshold != 0 && !r.prot.stallMark && r.cfg.stallTime * 10 ≤ r.prot.stallTimer

/-- STALL (R110): the mark is set and STALL handed. -/
def execStall (c : Channel) (s : State) : Host.Outcome State Fault Refusal :=
  if (s.chan c).stallDue then
    .next ((s.modChan c fun r => r.modProt fun p => { p with stallMark := true }).handFault c .stall).settle
  else .next s

/-- R112: the open timer has reached 50 updates with its mark clear. -/
def ChannelRecord.openDue (r : ChannelRecord) : Bool :=
  r.running && !r.prot.openMark && Config.openUpdates ≤ r.prot.openTimer

/-- OPEN (R112, R113): the mark is set and OPEN handed. -/
def execOpenLoad (c : Channel) (s : State) : Host.Outcome State Fault Refusal :=
  if (s.chan c).openDue then
    .next ((s.modChan c fun r => r.modProt fun p => { p with openMark := true }).handFault c .openLoad).settle
  else .next s

/-! ### Timers of chapters 1 and 7 -/

/-- RETRY_TIMER_EXPIRY (R126): the channel leaves COOLDOWN where the other conditions hold; nothing to do outside COOLDOWN,
or where the timer is not at its end (log 2). -/
def execRetryTimerExpiry (c : Channel) (s : State) : Host.Outcome State Fault Refusal :=
  if (s.chan c).state == .cooldown && ended (s.chan c).retry then .next (s.tryCooldownExit c).settle else .next s

/-- CLEAN_RUN_TIMER_EXPIRY (R17): the retry count returns to 0 and the timer stops. -/
def execCleanRunTimerExpiry (c : Channel) (s : State) : Host.Outcome State Fault Refusal :=
  if (s.chan c).cleanRun.isNone then .next s
  else .next (s.modChan c fun r => { r with retryCount := 0, cleanRun := none })

end Sys2Proof.Machine
end

