-- ==== Sys2Proof/Machine/Service.lean ====
section
/-! DEFINITION. Service.lean: the Service Unit (section 10.7, section 12.3): the service commands, the reply list, and
the replies' layouts. -/

namespace Sys2Proof.Machine

/-- Result codes (section 12.3). -/
def resultDone : Nat := 0
def resultBusy : Nat := 1
def resultRejected : Nat := 2
def resultNotCool : Nat := 3
def resultEmpty : Nat := 4

/-- A short reply: the request's byte 0 and the result code (section 12.2). -/
def shortReply (byte0 : Byte) (result : Nat) : List Byte := [byte0, BitVec.ofNat 8 result]

/-- Command codes (section 12.3). -/
def codeClearFault : Byte := 1
def codeClearEvents : Byte := 2
def codeReadChannel : Byte := 3
def codeReadPeers : Byte := 4
def codeReadEvents : Byte := 5
def codeOverride : Byte := 6
def codeRestart : Byte := 7

/-- R167: a BUSY or REJECTED reply goes to the queue directly; where the queue cannot take it, it is not sent. -/
def State.answer (sender : Station) (byte0 : Byte) (result : Nat) (s : State) : State :=
  s.send (.reply sender (shortReply byte0 result) false)

/-- R167: a request carried out: its replies go to the reply list and it is in progress. -/
def State.carried (sender : Station) (replies : List (List Byte)) (isRestart : Bool) (s : State) : State :=
  { s with service := { s.service with request := some ⟨sender, replies, 0, isRestart⟩ } }

/-- R167: an accepted request: ignored from a station outside the service mask, BUSY while one is in progress, REJECTED
where `rejected` says so or the part is in LIMP and the command is not one of those LIMP allows, otherwise carried out. -/
def State.serve (sender : Station) (byte0 : Byte) (inLimp rejected : Bool) (run : State → State) (s : State) : State :=
  if !inMask s.service.mask sender then s
  else if s.service.request.isSome then s.answer sender byte0 resultBusy
  else if rejected || (s.mode == .limp && !inLimp) then s.answer sender byte0 resultRejected
  else run s

/-- A channel named by a request byte. -/
def channelOfByte (b : Byte) : Option Channel := if h : b.toNat < 20 then some ⟨b.toNat, h⟩ else none

/-! ### CLEAR_FAULT (R129, R130, R168) -/

/-- R129: a clear empties the fault record and returns the retry count to 0. -/
def ChannelRecord.cleared (r : ChannelRecord) : ChannelRecord := { r with faults := .empty, retryCount := 0 }

/-- R129: the clear is refused with NOT_COOL. -/
def ChannelRecord.notCool (r : ChannelRecord) : Bool :=
  r.state == .latched && r.active == some .overload && !r.prot.cool

/-- R129, R165: the clear at one channel: leaving LATCHED queues a STATUS as every change of state does; a clear in another
state queues one where the record or the count changes (log 38). -/
def State.clearChannel (c : Channel) (s : State) : State :=
  let r := s.chan c
  if r.notCool then s
  else
    let s1 := s.modChan c (·.cleared)
    if r.state == .latched then s1.release c
    else if r.faults == .empty && r.retryCount == 0 then s1
    else s1.requestStatus c

/-- R130: the clear at several channels, in order of tier and channel number; NOT_COOL where one channel gave it. -/
def State.clearFaults (sender : Station) (cs : List Channel) (s : State) : State :=
  let result := if cs.any fun c => (s.chan c).notCool then resultNotCool else resultDone
  (cs.foldl (fun s c => s.clearChannel c) s).carried sender [shortReply codeClearFault result] false

/-- The channels a CLEAR_FAULT names: one, or all for FF hex, none for a channel out of range (section 12.3). -/
def State.clearTargets (s : State) (b : Byte) : List Channel :=
  if b = 255 then s.byTier
  else
    match channelOfByte b with
    | some c => [c]
    | none => []

/-- CLEAR_FAULT (R129, R168). -/
def execClearFault (sender : Station) (b : Byte) (s : State) : Host.Outcome State Fault Refusal :=
  .next (s.receive sender fun s =>
    s.serve sender codeClearFault false (s.clearTargets b).isEmpty
      fun s => s.clearFaults sender (s.clearTargets b)).settle

/-! ### CLEAR_EVENTS (R168) -/

/-- R168: the named part flags and the three flags of the named channels are cleared. -/
def State.clearFlags (part : BitVec 11) (chans : BitVec 20) (s : State) : State :=
  allChannels.foldl
    (fun s c => if chans.getLsbD c.val then s.modChan c fun r => { r with events := ⟨false, false, false⟩ } else s)
    { s with events := { s.events with flags := s.events.flags &&& ~~~part } }

/-- CLEAR_EVENTS (R168): bits 10 to 0 and 19 to 0 of the masks. -/
def execClearEvents (sender : Station) (part : BitVec 16) (chans : BitVec 24) (s : State) :
    Host.Outcome State Fault Refusal :=
  .next (s.receive sender fun s =>
    s.serve sender codeClearEvents true false fun s =>
      (s.clearFlags (part.setWidth 11) (chans.setWidth 20)).carried sender
        [shortReply codeClearEvents resultDone] false).settle

/-! ### Reading commands (R169, section 12.3) -/

/-- The slot a channel holds: 0 none, 1 slot 0, 2 slot 1. -/
def State.slotCode (s : State) (c : Channel) : Nat :=
  if s.sequencer.slot0 = some c then 1 else if s.sequencer.slot1 = some c then 2 else 0

/-- READ_CHANNEL's first reply. -/
def State.channelReply1 (s : State) (c : Channel) : List Byte :=
  let r := s.chan c
  packEight [
    (3, 3), (1, 0), (4, r.state.code), (1, r.phaseBit), (2, s.slotCode c), (1, bit r.throttled), (1, bit r.hold),
    (8, r.raw.toNat), (8, r.eff.toNat), (8, r.duty.toNat), (9, r.booking),
    (8, match r.autoOff with
        | some ms => ceilDiv ms 10000
        | none => 0),
    (8, match r.override with
        | some o => ceilDiv o.left 100
        | none => 0)]

/-- READ_CHANNEL's second reply. -/
def State.channelReply2 (s : State) (c : Channel) : List Byte :=
  let r := s.chan c
  packEight [
    (3, 3), (1, 1), (20, r.prot.theta), (10, r.cfg.iTrip), (1, bit r.prot.cool), (1, bit r.prot.hot),
    (3, r.idClass.code), (1, bit r.idDue), (7, r.faults.bits), (3, r.activeCode), (4, r.retryCount),
    (8, r.retryUnits)]

/-- READ_CHANNEL (R169): a channel above 19 is REJECTED. -/
def execReadChannel (sender : Station) (b : Byte) (s : State) : Host.Outcome State Fault Refusal :=
  .next (s.receive sender fun s =>
    match channelOfByte b with
    | none => s.serve sender codeReadChannel true true fun s => s
    | some c =>
      s.serve sender codeReadChannel true false fun s =>
        s.carried sender [s.channelReply1 c, s.channelReply2 c] false).settle

/-- READ_PEERS's reply for an entry. -/
def peerReply (e : PeerEntry) : List Byte :=
  packEight [
    (3, 4), (4, e.station.val), (12, e.bookings.t0), (12, e.bookings.t1), (12, e.bookings.t2), (12, e.bookings.t3),
    (2, e.band.code), (1, bit e.stale), (6, e.age / 20)]

/-- READ_PEERS (R169): one reply for each entry, or EMPTY. -/
def execReadPeers (sender : Station) (s : State) : Host.Outcome State Fault Refusal :=
  .next (s.receive sender fun s =>
    s.serve sender codeReadPeers true false fun s =>
      s.carried sender
        (if s.peers.isEmpty then [shortReply codeReadPeers resultEmpty] else s.peers.map peerReply) false).settle

/-- READ_EVENTS's first reply. -/
def State.eventsReply1 (s : State) : List Byte :=
  packEight [
    (3, 5), (1, 0), (11, s.events.flags.toNat), (3, s.mode.code), (4, s.own.val),
    (2, match s.loader.source with
        | some k => k.code
        | none => 0)]

/-- A bank's feed state code. For a bank not yet judged the value is free (log 22). -/
def State.feedCode (s : State) (b : Bank) : Nat :=
  match s.feed.feeds[b] with
  | some f => f.code
  | none => (Config.unjudgedFeed (4 * s.freeCount + b.val)).toNat

/-- The foreign-publisher record's fields. Where it is absent, the two values are free (log 22). -/
def State.foreignFields (s : State) : List (Nat × Nat) :=
  match s.bind.foreign with
  | some (n, st) => [(1, 1), (8, n.toNat), (4, st.val)]
  | none => [(1, 0), (12, (Config.absentForeign s.freeCount).toNat)]

/-- READ_EVENTS's second reply. -/
def State.eventsReply2 (s : State) : List Byte :=
  packEight ([
    (3, 5), (1, 1), (2, s.feedCode 0), (2, s.feedCode 1), (2, s.feedCode 2), (2, s.feedCode 3),
    (2, match s.feed.ownBand with
        | some b => b.code
        | none => 0),
    (2, s.feed.temp.code)] ++ s.foreignFields ++ [(20, s.channelSummary)])

/-- READ_EVENTS (R169); the model's counter moves on to the next free value. -/
def execReadEvents (sender : Station) (s : State) : Host.Outcome State Fault Refusal :=
  .next (s.receive sender fun s =>
    s.serve sender codeReadEvents true false fun s =>
      { s.carried sender [s.eventsReply1, s.eventsReply2] false with freeCount := s.freeCount + 1 }).settle

/-! ### OVERRIDE, RESTART and unknown commands (R170, R171, R182) -/

/-- R170: a level above 0 starts or replaces the override; a level of 0 ends it. -/
def State.setOverride (c : Channel) (level duration : Byte) (s : State) : State :=
  (s.modChan c fun r =>
    { r with override := if level = 0 then none else some ⟨level, duration.toNat * 100⟩ }).applyRequest c

/-- OVERRIDE (R170): a channel above 19, and a duration of 0 with a level above 0, are REJECTED. -/
def execOverride (sender : Station) (b level duration : Byte) (s : State) : Host.Outcome State Fault Refusal :=
  .next (s.receive sender fun s =>
    match channelOfByte b with
    | none => s.serve sender codeOverride false true fun s => s
    | some c =>
      s.serve sender codeOverride false (level != 0 && duration == 0) fun s =>
        (s.setOverride c level duration).carried sender [shortReply codeOverride resultDone] false).settle

/-- RESTART (R171): one DONE reply; the restart is owed once it has left. -/
def execRestart (sender : Station) (s : State) : Host.Outcome State Fault Refusal :=
  .next (s.receive sender fun s =>
    s.serve sender codeRestart true false fun s =>
      s.carried sender [shortReply codeRestart resultDone] true).settle

/-- UNKNOWN_COMMAND (R182): REJECTED, repeating the request's byte 0. -/
def execUnknownCommand (sender : Station) (byte0 : Byte) (s : State) : Host.Outcome State Fault Refusal :=
  .next (s.receive sender fun s => s.serve sender byte0 true true fun s => s).settle

/-! ### The reply list (R167) -/

/-- SERVICE_REPLY_QUEUED (R167): the first waiting reply is handed to the queue where R160 takes it. -/
def execServiceReplyQueued (s : State) : Host.Outcome State Fault Refusal :=
  match s.service.request with
  | none => .next s
  | some q =>
    match q.replies with
    | [] => .next s
    | d :: rest =>
      match s.offer (.reply q.requester d true) with
      | none => .next s
      | some s1 => .next { s1 with service := { s1.service with request := some { q with replies := rest } } }

/-- REPLY_LIST_DISCARD (R167): waiting replies are discarded; the request ends when those queued have left. Nothing to do
before 500 ms of the request have passed (log 2). -/
def execReplyListDiscard (s : State) : Host.Outcome State Fault Refusal :=
  match s.service.request with
  | none => .next s
  | some q =>
    if Config.replyListMs ≤ q.age then
      .next { s with service := { s.service with request := some { q with replies := [] } } }.endRequest
    else .next s

end Sys2Proof.Machine
end

