-- ==== Sys2Proof/Machine/Loader.lean ====
section
/-! DEFINITION. Loader.lean: the Configuration Loader (chapter 11, R39, R40, section 12.4): RESET_RELEASE,
SERVICE_RESTART and CONFIGURATION_READ_END, with validation, installation and LIMP entry. -/

namespace Sys2Proof.Machine

/-! ### Reset release (R172, R173, R179, R180) -/

/-- R37: a wired input after a reset: inactive, its timer running where the pin already differs. -/
def WiredInputState.atReset (w : WiredInputState) : WiredInputState :=
  ⟨w.pin, false, if w.pin then some Config.debounceMs else none⟩

/-- R172, R173: every block at its reset values; the straps are read. The pins, the waiting commands and the model's
counter are no state of the reset. -/
def State.released (straps : BitVec 4) (s : State) : State :=
  { State.reset with
    loader := { State.reset.loader with station := Fin.ofNat 16 straps.toNat }
    wired := s.wired.map (·.atReset)
    freeCount := s.freeCount
    pending := s.pending }

/-- RESET_RELEASE (R172). -/
def execResetRelease (straps : BitVec 4) (s : State) : Host.Outcome State Fault Refusal :=
  .next (s.released straps)

/-- R179: what a service restart keeps of a channel: θ and the fault record (R24, R117, R132). -/
def ChannelRecord.restarted (r : ChannelRecord) : ChannelRecord := .reset r.prot.theta r.faults

/-- R179: as at reset release, with the reset kind set and θ and the fault records kept. -/
def State.restarted (straps : BitVec 4) (s : State) : State :=
  let s1 := s.released straps
  { s1 with
    loader := { s1.loader with resetKind := some .serviceRestart }
    channels := s.channels.map (·.restarted) }

/-- SERVICE_RESTART (R179). -/
def execServiceRestart (straps : BitVec 4) (s : State) : Host.Outcome State Fault Refusal :=
  .next (s.restarted straps)

/-! ### The three tests (R174) -/

/-- R174: the presence test fails. -/
def imageMissing (image : List Byte) : Bool := image.all (· == 255) || image.all (· == 0)

/-- R174: the CRC test passes. -/
def imageCrcGood (image : List Byte) : Bool := (crc16 (image.drop 2)).toNat == imageWord image 0

/-- R174: the source record that the three tests give. -/
def imageVerdict (image : List Byte) : ConfigSource :=
  if imageMissing image then .missing
  else if !imageCrcGood image then .crc
  else if imageByte image 2 = 1 then .memory else .version

/-! ### The header (R175, R137) -/

/-- R175: the Budget Unit's values, clamped. -/
def headerBudget (image : List Byte) : BudgetConfig where
  aCfg := min (imageWord image 4) 6000
  pB := min (imageByte image 3) 100
  pL := min (imageByte image 12) 100
  margin := min (imageWord image 14) 1000
  inrushLimit := clamp 1 4 (imageByte image 13)
  feedRating := Vector.ofFn fun b : Bank => min (imageWord image (24 + 2 * b.val)) 2000

/-- R137: the thresholds, clamped into their ranges and then into order. -/
def clampThresholds (tc tb tl : Nat) : Thresholds :=
  let c := clamp 2 400 tc
  let b := min (clamp 1 399 tb) (c - 1)
  ⟨c, b, min (clamp 0 398 tl) (b - 1)⟩

/-- R137: the thresholds of the header. -/
def headerThresholds (image : List Byte) : Thresholds :=
  clampThresholds (imageWord image 6) (imageWord image 8) (imageWord image 10)

/-- R175: a field of the header was clamped. -/
def headerClamped (image : List Byte) : Bool :=
  let k := headerBudget image
  let t := headerThresholds image
  k.aCfg != imageWord image 4 || k.pB != imageByte image 3 || k.pL != imageByte image 12
    || k.margin != imageWord image 14 || k.inrushLimit != imageByte image 13
    || (List.finRange 4).any (fun b => k.feedRating[b] != imageWord image (24 + 2 * b.val))
    || t.charging != imageWord image 6 || t.battery != imageWord image 8 || t.low != imageWord image 10

/-! ### Channel records (R175, R118, R183) -/

/-- Where a channel's record begins in the image (section 12.4). -/
def channelBase (c : Channel) : Nat := 32 + 28 * c.val

/-- R118: the allowed fault action modes, LATCH first. -/
def stopModes : List ActionMode := [.latch, .retry]
def stallModes : List ActionMode := [.latch, .retry, .report]
def openModes : List ActionMode := [.latch, .report, .ignore]

/-- The upper and lower half of a byte. -/
def upperHalf (v : Nat) : Nat := v / 16
def lowerHalf (v : Nat) : Nat := v % 16

/-- R175: the static fields of a channel, clamped. -/
def channelConfig (image : List Byte) (c : Channel) : ChannelConfig :=
  let byte := fun i => imageByte image (channelBase c + i)
  let word := fun i => imageWord image (channelBase c + i)
  let nominal := clamp 1 (switchRating c) (word 4)
  { tier := Fin.ofNat 4 (min (byte 0) 3)
    accepted := ⟨(byte 1).testBit 2, (byte 1).testBit 1, (byte 1).testBit 0⟩
    dutyMode := if byte 2 = 1 then .slowCycle else .pwm
    nominal := nominal
    iTrip := clamp nominal 1023 (word 6)
    heatExp := clamp 4 12 (byte 8)
    shortThreshold := clamp 200 1023 (word 10)
    openThreshold := min (word 12) 255
    stallThreshold := min (word 14) 1023
    stallTime := max (byte 16) 1
    inrushWindow := clamp 2 50 (byte 17)
    shortMode := installedAction stopModes (upperHalf (byte 18))
    overloadMode := installedAction stopModes (lowerHalf (byte 18))
    startfailMode := installedAction stopModes (upperHalf (byte 19))
    stallMode := installedAction stallModes (lowerHalf (byte 19))
    openMode := installedAction openModes (upperHalf (byte 20))
    retryTime := max (byte 21) 1
    retryLimit := min (byte 22) 7
    onCount := min (byte 23) 63
    offCount := min (byte 24) 63
    autoOffTime := byte 25
    activityInput := activityOfCode (upperHalf (byte 3))
    minDuty := BitVec.ofNat 8 (max (byte 9) 1)
    throttleable := (byte 3).testBit 0 }

/-- R175: a field of the channel's record was clamped. -/
def channelClamped (image : List Byte) (c : Channel) : Bool :=
  let byte := fun i => imageByte image (channelBase c + i)
  let word := fun i => imageWord image (channelBase c + i)
  let k := channelConfig image c
  3 < byte 0 || 1 < byte 2 || 8 < upperHalf (byte 3) || k.nominal != word 4 || k.iTrip != word 6
    || k.heatExp != byte 8 || byte 9 == 0 || k.shortThreshold != word 10 || k.openThreshold != word 12
    || k.stallThreshold != word 14 || k.stallTime != byte 16 || k.inrushWindow != byte 17
    || !actionAllowed stopModes (upperHalf (byte 18)) || !actionAllowed stopModes (lowerHalf (byte 18))
    || !actionAllowed stopModes (upperHalf (byte 19)) || !actionAllowed stallModes (lowerHalf (byte 19))
    || !actionAllowed openModes (upperHalf (byte 20)) || k.retryTime != byte 21 || k.retryLimit != byte 22
    || k.onCount != byte 23 || k.offCount != byte 24

/-- R175: the accepted-class set is empty: the channel is marked for the CONFIG cause. -/
def LoadSet.isEmpty (a : LoadSet) : Bool := !a.filament && !a.motor && !a.resistive

/-! ### Binding records (R39, R40) -/

/-- Where a binding record begins in the image (section 12.4). -/
def bindingBase (i : Nat) : Nat := 592 + 8 * i

/-- R39: the record's valid flag is set. -/
def bindingFlagged (image : List Byte) (i : Nat) : Bool := (imageByte image (bindingBase i)).testBit 7

/-- R39: the record of a set valid flag, none where its source, target, mode or fallback rejects it. Its freshness view
is FRESH for wired and echo sources (R42). -/
def bindingRecord (image : List Byte) (i : Nat) : Option Binding :=
  let byte := fun j => imageByte image (bindingBase i + j)
  match channelOfByte (BitVec.ofNat 8 (byte 2)), bindingModeOfCode (byte 0 / 16 % 4), fallbackOfCode (byte 0 % 4) with
  | some target, some mode, some fallback =>
    if byte 1 < 252 then
      let source : Byte := BitVec.ofNat 8 (byte 1)
      some {
        index := i
        source := source
        target := target
        mode := mode
        threshold := BitVec.ofNat 8 (byte 3)
        mask := BitVec.ofNat 16 (imageWord image (bindingBase i + 6))
        staleness := byte 4
        fallback := fallback
        fresh := !isLink source
        held := 0
        present := 0 }
    else none
  | _, _, _ => none

/-- R39: the records of set valid flags, in index order. -/
def flaggedRecords (image : List Byte) : List (Option Binding) :=
  ((List.range 32).filter (bindingFlagged image)).map (bindingRecord image)

/-- R40: an echo edge, from its target to its leader. -/
structure EchoEdge where
  target : Nat
  leader : Nat
  deriving DecidableEq, Repr

/-- R40: the echo edge of a record whose source is an echo. -/
def Binding.edge (b : Binding) : Option EchoEdge :=
  if 232 ≤ b.source.toNat then some ⟨b.target.val, b.source.toNat - 232⟩ else none

/-- R40: `x` follows `y`, directly or through accepted edges; accepted chains have at most three edges. -/
def followsFor : Nat → List EchoEdge → Nat → Nat → Bool
  | 0, _, _, _ => false
  | n + 1, es, x, y => es.any fun e => e.target == x && (e.leader == y || followsFor n es e.leader y)

/-- The largest of some numbers, 0 of none. -/
def largest (l : List Nat) : Nat := l.foldl max 0

/-- R40: the longest accepted chain that starts at `x` as a follower. -/
def chainFrom : Nat → List EchoEdge → Nat → Nat
  | 0, _, _ => 0
  | n + 1, es, x => largest ((es.filter fun e => e.target == x).map fun e => 1 + chainFrom n es e.leader)

/-- R40: the longest accepted chain that ends at `x` as a leader. -/
def chainTo : Nat → List EchoEdge → Nat → Nat
  | 0, _, _ => 0
  | n + 1, es, x => largest ((es.filter fun e => e.leader == x).map fun e => 1 + chainTo n es e.target)

/-- R40: the edge passes the self, cycle and depth tests against the accepted edges. -/
def EchoEdge.passes (es : List EchoEdge) (e : EchoEdge) : Bool :=
  e.leader != e.target && !followsFor 4 es e.leader e.target && 1 + chainTo 4 es e.target + chainFrom 4 es e.leader ≤ 3

/-- R40: the records examined in index order: those accepted, and whether one was rejected. -/
def followCheck : List EchoEdge → List Binding → List Binding × Bool
  | _, [] => ([], false)
  | es, b :: rest =>
    match b.edge with
    | none =>
      let p := followCheck es rest
      (b :: p.1, p.2)
    | some e =>
      if e.passes es then
        let p := followCheck (es ++ [e]) rest
        (b :: p.1, p.2)
      else ((followCheck es rest).1, true)

/-- R39, R40: the valid records of an image, in index order. -/
def validBindings (image : List Byte) : List Binding := (followCheck [] ((flaggedRecords image).filterMap id)).1

/-- R39, R40: a record was rejected. -/
def bindingRejected (image : List Byte) : Bool :=
  (flaggedRecords image).any (·.isNone) || (followCheck [] ((flaggedRecords image).filterMap id)).2

/-- R175: an onset of CONFIG_ERROR: a clamp, an empty accepted-class set or a rejected record. -/
def imageFlawed (image : List Byte) : Bool :=
  headerClamped image
    || allChannels.any (fun c => channelClamped image c || (channelConfig image c).accepted.isEmpty)
    || bindingRejected image

/-! ### Installation (R176) -/

/-- R26: one NEVER entry for each distinct link signal that a valid binding names, in order of signal number. -/
def signalTable (bs : List Binding) : List SignalEntry :=
  ((List.range 224).filter fun n => bs.any fun b => b.source.toNat == n).map fun n =>
    ⟨BitVec.ofNat 8 n, 0, none, 0, false⟩

/-- The state with a channel's static fields filled by channel. -/
def State.installFields (f : Channel → ChannelConfig) (s : State) : State :=
  { s with channels := Vector.ofFn fun c : Channel => { s.chan c with cfg := f c } }

/-- R176 step 1, R39: the static fields, the header values and the valid records; CONFIG_ERROR where something was
clamped or rejected. -/
def State.installImage (image : List Byte) (s : State) : State :=
  let s1 := s.installFields (channelConfig image)
  let s2 := { s1 with
    budget := { s1.budget with config := some (headerBudget image) }
    service := { s1.service with mask := BitVec.ofNat 16 (imageWord image 16) }
    bind := ⟨validBindings image, [], none, none⟩ }
  if imageFlawed image then s2.raise .configError else s2

/-- R176 step 2: the Signal Table is built and every channel evaluated once (R26, R29, R35). -/
def State.buildTable (s : State) : State :=
  let s1 := { s with
    bind := { s.bind with table := signalTable s.bind.bindings, ageing := some Config.ageingStepMs } }
  allChannels.foldl (fun s c => s.reevaluate c) s1

/-- R138: the thresholds take effect, and the own band is the plain band of the present measurement. -/
def State.setThresholds (t : Thresholds) (s : State) : State :=
  { s with
    feed := { s.feed with thresholds := some t, ownBand := some (t.band s.feed.ksup), fall := 0, rise := 0 } }

/-- R107: the heat model of a channel begins; the model's start value depends on the reset kind. -/
def ChannelRecord.beginHeat (kind : Option ResetKind) (r : ChannelRecord) : ChannelRecord :=
  { r with
    prot := { r.prot with
      theta :=
        match kind with
        | some .cold => 0
        | some .warm => r.cfg.iTrip * r.cfg.iTrip / 2
        | some .serviceRestart => r.prot.theta
        | none => r.prot.theta
      update := some Config.updateMs } }

/-- R107: the heat model of every channel begins. -/
def State.beginHeat (s : State) : State :=
  { s with channels := s.channels.map fun (r : ChannelRecord) => r.beginHeat s.loader.resetKind }

/-- R164: the alert masks take effect. -/
def State.setMasks (part : BitVec 11) (chans : BitVec 20) (s : State) : State :=
  { s with events := { s.events with partMask := part, channelMask := chans } }

/-- R164: the alert masks of the header. -/
def headerPartMask (image : List Byte) : BitVec 11 := BitVec.ofNat 11 (imageWord image 18)
def headerChannelMask (image : List Byte) : BitVec 20 :=
  BitVec.ofNat 20 (imageWord image 20 * 65536 + imageWord image 22)

/-- R176 step 6, R21: the CONFIG cause at each marked channel. -/
def State.inhibitMarked (s : State) : State :=
  (allChannels.filter fun c => (s.chan c).cfg.accepted.isEmpty).foldl
    (fun s c => s.inhibit c fun k => { k with config := true }) s

/-- R176 step 7, R178: the part leaves CONFIGURING: the silence, roll and round timers start, and the Budget Unit takes
the own band. -/
def State.leaveConfiguring (m : PartMode) (s : State) : State :=
  { s.setMode m with
    line := { s.line with silence := some 0 }
    events := { s.events with roll := some Config.rollMs }
    budget := { s.budget with round := some Config.roundMs, ownBand := s.feed.ownBand } }

/-- R176 step 7: LISTENING with its listen timer, the first worst band and allowance, and the first round. -/
def State.enterListening (s : State) : State :=
  let s1 := s.leaveConfiguring .listening
  ({ s1 with line := { s1.line with listen := some Config.listenMs } }.setWorst).takeRound

/-- R176 step 8, R11: a rise stored in CONFIGURING is taken as it now finds the channel. -/
def State.takeStored (s : State) : State :=
  allChannels.foldl
    (fun s c => if (s.chan c).state == .off && (s.chan c).eff != 0 then s.beginRequest c else s) s

/-- R176: the installation, in its eight steps. -/
def State.install (image : List Byte) (s : State) : State :=
  let s2 := (s.installImage image).buildTable
  let s4 := (s2.setThresholds (headerThresholds image)).beginHeat
  let s6 := (s4.setMasks (headerPartMask image) (headerChannelMask image)).inhibitMarked
  s6.enterListening.takeStored

/-! ### LIMP entry (R178) -/

/-- R178: the built-in static fields: those of CH0 to CH3, and I_t and s alone for the others. -/
def limpConfig (c : Channel) : ChannelConfig :=
  if c.val < 4 then
    { ChannelConfig.blank with
      tier := 0
      accepted := ⟨true, true, true⟩
      dutyMode := .pwm
      nominal := 50
      iTrip := 100
      heatExp := 8
      shortThreshold := 600
      inrushWindow := 2
      shortMode := .retry
      overloadMode := .retry
      startfailMode := .retry
      stallMode := .latch
      openMode := .latch
      retryTime := 10
      retryLimit := 3
      minDuty := 1 }
  else { ChannelConfig.blank with iTrip := 100, heatExp := 8 }

/-- R178: CH4 to CH19 made INHIBITED during CONFIGURING return to OFF, without causes. DESIGN CHOICE (log 46): in channel
order, and before CH0 to CH3 take their requests, which decides whose STATUS has room. -/
def State.freeUnused (s : State) : State :=
  (allChannels.filter fun c => 4 ≤ c.val && (s.chan c).state == .inhibited).foldl
    (fun s c => s.enter c fun r => { r.idle .off with causes := ⟨false, false, false⟩ }) s

/-- R23: CH0 to CH3 take their raw requests from the debounced levels that stand at entry (log 28), in channel order
(log 46). -/
def State.limpRequests (s : State) : State := ([0, 1, 2, 3] : List WiredInput).foldl (fun s i => s.limpFollow i) s

/-- R178: entry to LIMP. -/
def State.enterLimp (s : State) : State :=
  let s1 := ((s.raise .limp).installFields limpConfig).freeUnused
  let s2 := { s1 with service := { s1.service with mask := BitVec.allOnes 16 } }
  let s3 := (s2.setThresholds ⟨270, 240, 200⟩).beginHeat.setMasks (BitVec.allOnes 11) (BitVec.allOnes 20)
  (s3.leaveConfiguring .limp).takeRound.limpRequests

/-! ### CONFIGURATION_READ_END (R174 to R176, R178) -/

/-- R174: the image is judged, and the part leaves CONFIGURING by installation or by LIMP entry. -/
def State.judgeImage (image : List Byte) (s : State) : State :=
  let v := imageVerdict image
  let s1 := { s with loader := { s.loader with source := some v } }
  if v = .memory then s1.install image else s1.enterLimp

/-- CONFIGURATION_READ_END (R174). A list that is not 848 bytes long is no read of R174 (log 27); outside CONFIGURING no
read is in progress. -/
def execConfigurationReadEnd (image : List Byte) (s : State) : Host.Outcome State Fault Refusal :=
  if image.length ≠ Config.imageBytes then .fault .imageLength
  else if s.mode = .configuring then .next (s.judgeImage image).settle
  else .next s

end Sys2Proof.Machine
end

