-- ==== Sys2Proof/Machine/Clock.lean ====
section
/-! DEFINITION. Clock.lean: what the part does with no command waiting (log 1): the commands that its own state makes due
at once are queued (log 5); where there is none, one millisecond passes, and the expiries it brings are queued. -/

namespace Sys2Proof.Machine

/-! ### Commands due at once (log 5) -/

/-- R110, R112: hand-overs due at a channel. -/
def State.detectorsDue (s : State) (c : Channel) : List Instr :=
  (if (s.chan c).stallDue then [.stall c] else []) ++ (if (s.chan c).openDue then [.openLoad c] else [])

/-- R138, R139: a band change due. -/
def State.bandDue (s : State) : List Instr :=
  (if s.feed.thresholds.isSome && Config.fallCount ≤ s.feed.fall then [.bandFall] else [])
    ++ (if s.feed.ownBand.isSome && Config.riseCount ≤ s.feed.rise then [.bandRise] else [])

/-- R167: a waiting reply that the queue would take. -/
def State.replyDue (s : State) : List Instr :=
  match s.service.request with
  | none => []
  | some q =>
    match q.replies with
    | [] => []
    | d :: _ => if (s.offer (.reply q.requester d true)).isSome then [.serviceReplyQueued] else []

/-- R161: a frame waits and the controller is free. -/
def State.startDue (s : State) : List Instr :=
  if s.controllerFree && s.nextOffer.isSome then [.transmissionStart] else []

/-- R171, R179: a restart owed, which reads the straps again; they are taken to stand as last read (log 24). -/
def State.restartDueNow (s : State) : List Instr :=
  if s.service.restartDue then [.serviceRestart (BitVec.ofNat 4 s.own.val)] else []

/-- The commands that the part's own state makes due at once, the restart first. -/
def State.dueNow (s : State) : List Instr :=
  s.restartDueNow ++ allChannels.flatMap s.detectorsDue ++ s.bandDue ++ s.replyDue ++ s.startDue

/-! ### One millisecond (log 1) -/

/-- A timer that counts down to 0. -/
def countDown (t : Option Nat) : Option Nat := t.map (· - 1)

/-- The timer reaches 0 in this millisecond. -/
def expiring (t : Option Nat) : Bool := t == some 1

/-- R84: a start entered after the present millisecond's sample begins with the next millisecond. -/
def ChannelRecord.justEntered (r : ChannelRecord) : Bool :=
  match r.start with
  | some t => t.entered
  | none => false

/-- The periods of STARTING and ON are under way (R84, R145). -/
def ChannelRecord.inPeriods (r : ChannelRecord) : Bool := (r.state == .starting || r.state == .on) && !r.justEntered

/-- R84: the time left of a start's window after a millisecond. -/
def StartRecord.countMs (t : StartRecord) : StartRecord :=
  { t with left := if t.entered then t.left else t.left - 1, entered := false }

/-- The time left of a start's window, none in the millisecond before the start begins. -/
def ChannelRecord.windowLeft (r : ChannelRecord) : Option Nat := if r.justEntered then none else r.start.map (·.left)

/-- R101: a millisecond in which no sample command came: with the switch open its sample is 0 and is taken; with the switch
closed the current is not the part's to know (log 37). The last sample of a window is waited for (R98, log 41). -/
def ChannelRecord.missedSample (r : ChannelRecord) : ChannelRecord :=
  if r.prot.sampled || !r.isOpen || r.windowLeft == some 1 then r else ((r.takeSample 0).startSample 0).shortSample 0

/-- One millisecond at a channel's timers. -/
def ChannelRecord.countMs (r : ChannelRecord) : ChannelRecord :=
  { r with
    retry := countDown r.retry
    cleanRun := r.cleanRun.map fun t => min (t + 1) Config.cleanRunMs
    override := r.override.map fun (o : Override) => { o with left := o.left - 1 }
    prot := { r.prot with sampled := false, update := countDown r.prot.update }
    start := r.start.map (·.countMs)
    pwmPos := if r.inPeriods then r.pwmPos + 1 else r.pwmPos
    phase := r.phase.map fun (p : Phase) => { p with left := p.left - 1 }
    autoOff := countDown r.autoOff }

/-- One millisecond at a channel. -/
def ChannelRecord.passMs (r : ChannelRecord) : ChannelRecord := r.missedSample.countMs

/-- The expiries that this millisecond brings at a channel. A window end that waits for a sample that did not come is queued
once more (log 41). At a window end the first period of ON begins with it, so no period start of its own falls there
(R145). -/
def ChannelRecord.expiries (c : Channel) (r : ChannelRecord) : List Instr :=
  (if expiring r.windowLeft || r.awaits then [.windowEnd c]
   else if r.inPeriods && Config.periodMs ≤ r.pwmPos + 1 then [.pwmPeriodStart c] else [])
    ++ (if expiring r.prot.update then [.update c] else [])
    ++ (if expiring r.retry then [.retryTimerExpiry c] else [])
    ++ (if r.cleanRun == some (Config.cleanRunMs - 1) then [.cleanRunTimerExpiry c] else [])
    ++ (if expiring (r.phase.map (·.left)) then [.phaseTimerExpiry c] else [])
    ++ (if expiring r.autoOff then [.autoOffExpiry c] else [])
    ++ (if expiring (r.override.map (·.left)) then [.overrideExpiry c] else [])

/-- One millisecond at a peer's entry: its age stops at 1000 ms. -/
def PeerEntry.passMs (e : PeerEntry) : PeerEntry := { e with age := min (e.age + 1) Config.peerRemovalMs }

/-- R45, R46: the thresholds that this millisecond brings at a peer's entry. -/
def PeerEntry.expiries (e : PeerEntry) : List Instr :=
  (if !e.stale && Config.peerStaleMs ≤ e.age + 1 then [.peerEntryStale e.station] else [])
    ++ (if e.stale && e.age + 1 == Config.peerRemovalMs then [.peerEntryRemoval e.station] else [])

/-- One millisecond at an intent: its age, and the hold of an own entry. -/
def IntentEntry.passMs (e : IntentEntry) : IntentEntry := { e with age := e.age + 1, hold := countDown e.hold }

/-- R52, R54: the expiry that this millisecond brings at an intent. -/
def IntentEntry.expiries (own : Station) (e : IntentEntry) : List Instr :=
  if e.station = own then
    if h : e.channel.val < 20 then (if expiring e.hold then [.holdExpiry ⟨e.channel.val, h⟩] else []) else []
  else if Config.intentAgeMs ≤ e.age + 1 then [.peerIntentAgeExpiry e.station (BitVec.ofNat 5 e.channel.val)] else []

/-- R162: the expiries that this millisecond brings in the queue, the last place first: each only takes its own frame out and
may add a STATUS behind the last, so the places before it still name their frames (log 31). -/
def State.queueExpiries (s : State) : List Instr :=
  ([5, 4, 3, 2, 1, 0] : List (Fin 6)).flatMap fun i =>
    match s.txQueue[i.val]? with
    | none => []
    | some e =>
      match e.frame.expiryMs with
      | none => []
      | some t => if t ≤ e.age + 1 then [.queueExpiry i] else []

/-- One millisecond at every timer of the part. -/
def State.passMs (s : State) : State :=
  { s with
    channels := s.channels.map (·.passMs)
    bind := { s.bind with ageing := countDown s.bind.ageing }
    wired := s.wired.map fun (w : WiredInputState) => { w with timer := countDown w.timer }
    peers := s.peers.map (·.passMs)
    intents := ⟨s.intents.entries.map (·.passMs), countDown s.intents.overflow⟩
    budget := { s.budget with round := countDown s.budget.round }
    line := { s.line with
      silence := s.line.silence.map fun t => min (t + 1) Config.silenceMs
      listen := countDown s.line.listen
      queue := s.line.queue.map fun (e : TxEntry) => { e with age := e.age + 1 } }
    events := { s.events with roll := countDown s.events.roll }
    service := { s.service with
      request := s.service.request.map fun (q : ServiceRequest) => { q with age := q.age + 1 } } }

/-- The expiries that this millisecond brings, in the order in which their commands are queued (log 5): those of the transmit
queue first, before any command that could move a frame to another place. -/
def State.expiries (s : State) : List Instr :=
  s.queueExpiries
    ++ (List.finRange 8).flatMap (fun i => if expiring (s.wired[i]).timer then [.debounceExpiry i] else [])
    ++ (if expiring s.bind.ageing then [.ageingStep] else [])
    ++ allChannels.flatMap (fun c => (s.chan c).expiries c)
    ++ s.peers.flatMap (·.expiries)
    ++ s.intents.entries.flatMap (·.expiries s.own)
    ++ (if expiring s.intents.overflow then [.overflowTimerExpiry] else [])
    ++ (match s.service.request with
        | some q => if q.age + 1 == Config.replyListMs then [.replyListDiscard] else []
        | none => [])
    ++ (if s.line.silence == some (Config.silenceMs - 1) then [.silenceTimeout] else [])
    ++ (if expiring s.line.listen then [.listenExpiry] else [])
    ++ (if expiring s.budget.round then [.budgetRound] else [])
    ++ (if expiring s.events.roll then [.statusRoll] else [])

/-- What the part does with no command waiting (log 1). -/
def State.idleStep (s : State) : State :=
  if s.dueNow.isEmpty then { s.passMs with pending := s.expiries } else { s with pending := s.dueNow }

end Sys2Proof.Machine
end

