-- ==== Sys2Proof/Machine/Dispatch.lean ====
section
/-! DEFINITION. Dispatch.lean: the meaning of each command. -/

namespace Sys2Proof.Machine

def exec (i : Instr) (s : State) : Host.Outcome State Fault Refusal :=
  match i with
  | .resetRelease straps => Sys2Proof.Machine.execResetRelease straps s
  | .configurationReadEnd image => Sys2Proof.Machine.execConfigurationReadEnd image s
  | .serviceRestart straps => Sys2Proof.Machine.execServiceRestart straps s
  | .feedMeasurement bank volts => Sys2Proof.Machine.execFeedMeasurement bank volts s
  | .ksupMeasurement volts => Sys2Proof.Machine.execKsupMeasurement volts s
  | .bandFall => Sys2Proof.Machine.execBandFall s
  | .bandRise => Sys2Proof.Machine.execBandRise s
  | .dieTemperatureMeasurement degrees => Sys2Proof.Machine.execDieTemperatureMeasurement degrees s
  | .currentSample ch current degrees => Sys2Proof.Machine.execCurrentSample ch current degrees s
  | .pwmPeriodStart ch => Sys2Proof.Machine.execPwmPeriodStart ch s
  | .update ch => Sys2Proof.Machine.execUpdate ch s
  | .stall ch => Sys2Proof.Machine.execStall ch s
  | .openLoad ch => Sys2Proof.Machine.execOpenLoad ch s
  | .retryTimerExpiry ch => Sys2Proof.Machine.execRetryTimerExpiry ch s
  | .cleanRunTimerExpiry ch => Sys2Proof.Machine.execCleanRunTimerExpiry ch s
  | .wiredInputPinChange input grounded => Sys2Proof.Machine.execWiredInputPinChange input grounded s
  | .debounceExpiry input => Sys2Proof.Machine.execDebounceExpiry input s
  | .ageingStep => Sys2Proof.Machine.execAgeingStep s
  | .signal sender entries => Sys2Proof.Machine.execSignal sender entries s
  | .draw sender word0 word1 word2 word3 => Sys2Proof.Machine.execDraw sender word0 word1 word2 word3 s
  | .peerEntryStale station => Sys2Proof.Machine.execPeerEntryStale station s
  | .peerEntryRemoval station => Sys2Proof.Machine.execPeerEntryRemoval station s
  | .intent sender channel tier booking window => Sys2Proof.Machine.execIntent sender channel tier booking window s
  | .withdraw sender channel => Sys2Proof.Machine.execWithdraw sender channel s
  | .overflowTimerExpiry => Sys2Proof.Machine.execOverflowTimerExpiry s
  | .peerIntentAgeExpiry station channel => Sys2Proof.Machine.execPeerIntentAgeExpiry station channel s
  | .otherFrameReceived sender => Sys2Proof.Machine.execOtherFrameReceived sender s
  | .silenceTimeout => Sys2Proof.Machine.execSilenceTimeout s
  | .busOff => Sys2Proof.Machine.execBusOff s
  | .busOffRecovery => Sys2Proof.Machine.execBusOffRecovery s
  | .listenExpiry => Sys2Proof.Machine.execListenExpiry s
  | .holdExpiry ch => Sys2Proof.Machine.execHoldExpiry ch s
  | .budgetRound => Sys2Proof.Machine.execBudgetRound s
  | .windowEnd ch => Sys2Proof.Machine.execWindowEnd ch s
  | .phaseTimerExpiry ch => Sys2Proof.Machine.execPhaseTimerExpiry ch s
  | .autoOffExpiry ch => Sys2Proof.Machine.execAutoOffExpiry ch s
  | .overrideExpiry ch => Sys2Proof.Machine.execOverrideExpiry ch s
  | .transmissionStart => Sys2Proof.Machine.execTransmissionStart s
  | .transmissionCompletion => Sys2Proof.Machine.execTransmissionCompletion s
  | .transmissionFailure => Sys2Proof.Machine.execTransmissionFailure s
  | .queueExpiry place => Sys2Proof.Machine.execQueueExpiry place s
  | .statusRoll => Sys2Proof.Machine.execStatusRoll s
  | .serviceReplyQueued => Sys2Proof.Machine.execServiceReplyQueued s
  | .replyListDiscard => Sys2Proof.Machine.execReplyListDiscard s
  | .clearFault sender channel => Sys2Proof.Machine.execClearFault sender channel s
  | .clearEvents sender partMask channelMask => Sys2Proof.Machine.execClearEvents sender partMask channelMask s
  | .readChannel sender channel => Sys2Proof.Machine.execReadChannel sender channel s
  | .readPeers sender => Sys2Proof.Machine.execReadPeers sender s
  | .readEvents sender => Sys2Proof.Machine.execReadEvents sender s
  | .override sender channel level duration => Sys2Proof.Machine.execOverride sender channel level duration s
  | .restart sender => Sys2Proof.Machine.execRestart sender s
  | .unknownCommand sender byte0 => Sys2Proof.Machine.execUnknownCommand sender byte0 s

end Sys2Proof.Machine
end

