-- ==== Sys2Proof/Safety.lean ====
section
/-! DEFINITION. Safety.lean: the terms in which the claims are stated: a command that completes, states in which nothing
follows an echo, and the properties that every step keeps. -/

namespace Sys2Proof.Machine

/-- The command completes: it answers a next state, of which `P` holds. -/
def Answers (o : Host.Outcome State Fault Refusal) (P : State → Prop) : Prop := ∃ t, o = .next t ∧ P t

/-! ### States in which an event has no further followers -/

/-- No valid binding follows an echo and no channel waits for a slot: what an event does then stays at the channels it
names (R38, R81). -/
structure State.Plain (s : State) : Prop where
  noFollower : ∀ b ∈ s.bind.bindings, b.source.toNat < 232
  noQueue : s.sequencer.queue = []

/-! ### What a command may write -/

/-- `s` with what channel activity writes taken from `t`: the channel records, the echo changes handed over, the bindings'
running fields, the entries of the Intent List, the slots with their queue, and the transmit queue (R11 to R21, R34, R38,
R52, R79, R160). -/
def State.active (s t : State) : State :=
  { s with
    channels := t.channels
    echoes := t.echoes
    bind := { s.bind with bindings := t.bind.bindings }
    intents := { s.intents with entries := t.intents.entries }
    sequencer := t.sequencer
    line := { s.line with queue := t.line.queue } }

/-- `s` with the part event flags of `t`. -/
def State.flagged (s t : State) : State := { s with events := { s.events with flags := t.events.flags } }

/-- `s` with what a change of a supply band writes taken from `t` (R60): the worst band, the allowance, and what the extra
round of a drop does. -/
def State.banded (s t : State) : State :=
  { (s.active t).flagged t with budget := { t.budget with config := s.budget.config, round := s.budget.round } }

/-- `s` with what hearing a frame writes taken from `t` (R156, R157, R159): silence, line loss, clash mark, listen, part mode,
the peers held in ISOLATED, and the channels and frames that a clash sends back. -/
def State.heardOf (s t : State) : State :=
  { (s.active t).flagged t with
    loader := { s.loader with mode := t.loader.mode }
    peers := s.peers.filter fun e => t.peers.contains e
    line := { t.line with busOff := s.line.busOff } }

/-- `s` with every field that the command may write taken from `t`. -/
def State.writtenBy (i : Instr) (s t : State) : State :=
  match i with
  | .resetRelease _ | .serviceRestart _ => { t with freeCount := s.freeCount, pending := s.pending }
  | .configurationReadEnd _ =>
    { t with
      loader := { s.loader with mode := t.loader.mode, source := t.loader.source }
      wired := s.wired
      peers := s.peers
      freeCount := s.freeCount
      pending := s.pending
      line := { t.line with lineLoss := s.line.lineLoss, clashMark := s.line.clashMark, busOff := s.line.busOff }
      service := { s.service with mask := t.service.mask } }
  | .feedMeasurement _ _ =>
    { (s.active t).flagged t with
      feed := { s.feed with feeds := t.feed.feeds }
      loader := { s.loader with resetKind := t.loader.resetKind } }
  | .ksupMeasurement _ => { s with feed := { s.feed with ksup := t.feed.ksup, fall := t.feed.fall, rise := t.feed.rise } }
  | .bandFall | .bandRise =>
    { s.banded t with feed := { s.feed with ownBand := t.feed.ownBand, fall := t.feed.fall, rise := t.feed.rise } }
  | .dieTemperatureMeasurement _ => { (s.active t).flagged t with feed := { s.feed with temp := t.feed.temp } }
  | .currentSample _ _ _ | .update _ | .stall _ | .openLoad _ | .retryTimerExpiry _ | .windowEnd _ | .phaseTimerExpiry _
  | .autoOffExpiry _ | .overrideExpiry _ | .holdExpiry _ => s.active t
  | .queueExpiry _ =>
    { s.active t with service := { s.service with request := t.service.request, restartDue := t.service.restartDue } }
  | .pwmPeriodStart _ | .cleanRunTimerExpiry _ => { s with channels := t.channels }
  | .wiredInputPinChange _ _ => { s with wired := t.wired }
  | .debounceExpiry _ => { s.active t with wired := t.wired }
  | .ageingStep =>
    { s.active t with bind := { s.bind with bindings := t.bind.bindings, table := t.bind.table, ageing := t.bind.ageing } }
  | .signal _ _ =>
    { s.heardOf t with bind := { s.bind with bindings := t.bind.bindings, table := t.bind.table, foreign := t.bind.foreign } }
  | .draw _ _ _ _ _ => { s.heardOf t with peers := t.peers, budget := (s.banded t).budget }
  | .peerEntryStale _ => { s.banded t with peers := t.peers }
  | .peerEntryRemoval _ => { s with peers := t.peers }
  | .intent _ _ _ _ _ | .withdraw _ _ => { s.heardOf t with intents := t.intents }
  | .overflowTimerExpiry | .peerIntentAgeExpiry _ _ => { s with intents := t.intents }
  | .otherFrameReceived _ => s.heardOf t
  | .silenceTimeout | .listenExpiry | .busOff | .busOffRecovery =>
    { s.flagged t with loader := { s.loader with mode := t.loader.mode }, line := t.line }
  | .budgetRound =>
    { (s.active t).flagged t with
      budget := { s.budget with round := t.budget.round, overbooked := t.budget.overbooked } }
  | .transmissionStart | .transmissionFailure => { s with line := { s.line with queue := t.line.queue } }
  | .transmissionCompletion =>
    { (s.active t).flagged t with
      intents := t.intents
      service := { s.service with request := t.service.request, restartDue := t.service.restartDue } }
  | .statusRoll =>
    { s with
      events := { s.events with roll := t.events.roll, rollPointer := t.events.rollPointer }
      line := { s.line with queue := t.line.queue } }
  | .serviceReplyQueued | .replyListDiscard =>
    { s with
      line := { s.line with queue := t.line.queue }
      service := { s.service with request := t.service.request, restartDue := t.service.restartDue } }
  | .clearFault _ _ | .clearEvents _ _ _ | .readChannel _ _ | .readPeers _ | .override _ _ _ _ | .restart _
  | .unknownCommand _ _ => { s.heardOf t with service := { s.service with request := t.service.request } }
  | .readEvents _ =>
    { s.heardOf t with service := { s.service with request := t.service.request }, freeCount := t.freeCount }

/-! ### One channel record -/

/-- What holds of a channel record in every state of the channel: outside the booked states the booking is 0 and the
throttled flag clear (R7, R8); an active fault stands exactly in COOLDOWN and LATCHED (R123); a start record exactly in
STARTING (R85); a phase exactly in CYCLING (R147); the clean-run timer runs in ON and CYCLING alone (R17); the retry timer
is stopped outside COOLDOWN (R125); the output is open outside STARTING, ON and the on-phase of CYCLING (R9). -/
structure ChannelRecord.Sound (r : ChannelRecord) : Prop where
  booking : r.state.books = false → r.booking = 0 ∧ r.throttled = false
  active : r.active.isSome = (r.state == .cooldown || r.state == .latched)
  start : r.start.isSome = (r.state == .starting)
  phase : r.phase.isSome = (r.state == .cycling)
  cleanRun : r.cleanRun.isSome → r.state = .on ∨ r.state = .cycling
  retry : r.retry.isSome → r.state = .cooldown
  span : r.conducting = false → r.span = 0

/-- R115, R121: the record `q` of a channel that THERMAL has stopped at its entry to SLOTWAIT or STARTING, where its record
was `r`: in COOLDOWN, or in LATCHED past the retry limit. -/
def ChannelRecord.StoppedHot (r q : ChannelRecord) : Prop :=
  q.state = (if r.cfg.retryLimit < r.retryCount + 1 then .latched else .cooldown) ∧ q.active = some .thermal
    ∧ q.faults = r.faults.add .thermal ∧ q.retryCount = r.retryCount + 1 ∧ q.booking = 0 ∧ q.span = 0
    ∧ q.events.fault = true

/-- Every channel record is sound. -/
def State.Sound (s : State) : Prop := ∀ c, (s.chan c).Sound

/-- R5 to R7, R124: the effective request, the duty and the booking follow from the fields below them, and the retry count
exceeds its limit by at most one, and only in LATCHED. -/
structure ChannelRecord.Ruled (r : ChannelRecord) : Prop where
  eff : r.eff = r.effectiveRequest
  duty : r.duty = r.cfg.dutyFor r.eff
  booked : r.state.books → r.booking = r.cfg.bookingFor r.duty r.throttled
  unbooked : r.state.books = false → r.booking = 0 ∧ r.throttled = false
  count : r.retryCount ≤ r.cfg.retryLimit + 1
  latched : r.cfg.retryLimit < r.retryCount → r.state = .latched

/-- R23, R24, R41: in CONFIGURING no record is valid, nothing asks for a channel and no channel has begun. -/
def ChannelRecord.Unbegun (r : ChannelRecord) : Prop :=
  (r.state = .off ∨ r.state = .inhibited) ∧ r.raw = 0 ∧ r.eff = 0 ∧ r.override = none ∧ r.hold = false ∧ r.retryCount = 0

/-- The part as CONFIGURING holds it. -/
structure State.Unbegun (s : State) : Prop where
  channels : ∀ c, (s.chan c).Unbegun
  bindings : s.bind.bindings = []
  queue : s.sequencer.queue = []

/-- Every channel record follows its rules, the slot queue holds channels in SLOTWAIT alone, and in CONFIGURING nothing
has begun. -/
structure State.Ruled (s : State) : Prop where
  channels : ∀ c, (s.chan c).Ruled
  waiting : ∀ c ∈ s.sequencer.queue, (s.chan c).state = .slotwait
  unbegun : s.mode = .configuring → s.Unbegun

/-! ### The blocks -/

/-- R79: the order of the slot queue. -/
def State.before (s : State) (c d : Channel) : Prop :=
  (s.chan c).cfg.tier < (s.chan d).cfg.tier ∨ ((s.chan c).cfg.tier = (s.chan d).cfg.tier ∧ c < d)

/-- R12, R76: the INTENT that a channel announces. -/
def State.intentOf (s : State) (c : Channel) : TxFrame :=
  .intent c (s.chan c).cfg.tier ((s.chan c).cfg.bookingFor (s.chan c).duty false) (s.chan c).cfg.inrushWindow

/-- R79 to R82: a slot's holder is in STARTING and holds one slot; the queue holds exactly the channels in SLOTWAIT, each
once, by tier and channel number; and a slot is free only while the queue is empty. -/
structure State.SlotsSound (s : State) : Prop where
  slot0 : ∀ c, s.sequencer.slot0 = some c → (s.chan c).state = .starting
  slot1 : ∀ c, s.sequencer.slot1 = some c → (s.chan c).state = .starting
  distinct : ∀ c, s.sequencer.slot0 = some c → s.sequencer.slot1 ≠ some c
  waiting : ∀ c, c ∈ s.sequencer.queue ↔ (s.chan c).state = .slotwait
  once : s.sequencer.queue.Nodup
  order : s.sequencer.queue.Pairwise s.before
  handed : s.sequencer.queue ≠ [] → s.sequencer.slot0.isSome ∧ s.sequencer.slot1.isSome
  configuring : s.mode = .configuring → s.sequencer.queue = []

/-- How many entries of the transmit queue a test selects. -/
def State.queued (s : State) (p : TxEntry → Bool) : Nat := (s.line.queue.filter p).length

/-- R160, R161, R165: the three limits of the transmit queue; one attempt at most; one STATUS for a channel at most. -/
structure State.QueueSound (s : State) : Prop where
  draw : s.queued (fun e => e.frame.kind == 1) ≤ 1
  statusReply : s.queued (fun e => e.frame.kind == 4 || e.frame.kind == 5) ≤ 4
  other : s.queued (fun e => e.frame.kind != 1) ≤ 5
  attempt : s.queued (fun e => e.attempt.isSome) ≤ 1
  statusOnce : ∀ c, s.queued (fun e => e.frame == .status c) ≤ 1

/-- How many announcements a channel has under way: INTENTs that wait in the queue and own entries (R49, R51). -/
def State.announced (s : State) (c : Channel) : Nat :=
  s.queued (fun e => e.frame.isIntentOf c) + (s.intents.entries.filter (s.isOwnEntry c)).length

/-- R44, R45, R49 to R51: the Peer Table is in station order, without the own station, ages up to 1000 ms and bookings up
to 4095 dA; the Intent List has at most 24 entries, no two of one station and channel, and exactly the own ones carry a hold
timer; a channel has one announcement at most, and one alone in PENDING (R12, R13). That the slot queue holds channels in
SLOTWAIT alone (R79) is what keeps a channel with an announcement from being started. -/
structure State.TablesSound (s : State) : Prop where
  order : s.peers.Pairwise fun a b => a.station < b.station
  peer : ∀ e ∈ s.peers, e.station ≠ s.own ∧ e.age ≤ 1000 ∧ ∀ t, e.bookings.get t ≤ 4095
  room : s.intents.entries.length ≤ 24
  hold : ∀ e ∈ s.intents.entries, e.hold.isSome = (e.station == s.own)
  once : s.intents.entries.Pairwise fun a b => ¬(a.station = b.station ∧ a.channel = b.channel)
  announcedOnce : ∀ c, s.announced c ≤ 1
  announcing : ∀ c, s.announced c ≠ 0 → (s.chan c).state = .pending
  waiting : ∀ c ∈ s.sequencer.queue, (s.chan c).state = .slotwait

/-- R60, R137 to R140: the thresholds are in order, the two band timers stay in range and never count together, and the
Budget Unit holds the own band once the part has left CONFIGURING, and, once it has its configuration values, the worst of
the own and the LIVE bands with its allowance. -/
structure State.BandSound (s : State) : Prop where
  order : ∀ th, s.feed.thresholds = some th → th.low < th.battery ∧ th.battery < th.charging
  range : s.feed.fall ≤ 20 ∧ s.feed.rise ≤ 500
  apart : s.feed.fall = 0 ∨ s.feed.rise = 0
  band : s.mode ≠ .configuring → s.budget.ownBand = s.feed.ownBand
  worst : s.mode ≠ .configuring → ∀ k, s.budget.config = some k →
    s.budget.worst = s.worstBand ∧ s.budget.allowance = s.worstBand.map k.allowanceAt
  unset : s.mode = .configuring → s.feed.thresholds = none ∧ s.feed.ownBand = none ∧ s.budget.config = none

/-- R101, R103: the samples lie from 0 to 1023 and θ from 0 to 1,046,529. -/
structure ChannelRecord.HeatSound (r : ChannelRecord) : Prop where
  samples : r.prot.lastTen.length = 10 ∧ ∀ x ∈ r.prot.lastTen, x ≤ 1023
  theta : r.prot.theta ≤ 1046529

/-! ### After a reset -/

/-- R24, R100, R117, R132, R155, R163: a channel record at reset release, θ and the fault record apart. -/
structure ChannelRecord.AtReset (r : ChannelRecord) : Prop where
  state : r.state = .off
  levels : r.raw = 0 ∧ r.eff = 0 ∧ r.duty = 0 ∧ r.booking = 0
  identified : r.idClass = .unknown ∧ r.idDue = true
  fault : r.active = none ∧ r.retryCount = 0 ∧ r.retry = none
  flags : r.throttled = false ∧ r.hold = false ∧ r.override = none ∧ r.causes = ⟨false, false, false⟩
  events : r.events = ⟨false, false, false⟩
  timers : r.cleanRun = none ∧ r.autoOff = none ∧ r.phase = none ∧ r.start = none ∧ r.prot.update = none
  detectors : r.prot.shortMark = false ∧ r.prot.stallTimer = 0 ∧ r.prot.stallMark = false ∧ r.prot.openTimer = 0
    ∧ r.prot.openMark = false ∧ r.prot.hot = false ∧ r.prot.lastTen = List.replicate 10 0
  output : r.span = 0

/-- R172, R173, R180 and the reset tables of the chapters: the part right after a reset that was released over the state
`s` with these straps: tables, queues and event flags empty, masks selecting nothing, timers stopped, inputs inactive. -/
structure State.AtReset (straps : BitVec 4) (s t : State) : Prop where
  mode : t.loader.mode = .configuring
  station : t.loader.station.val = straps.toNat
  source : t.loader.source = none
  records : ∀ c, (t.chan c).AtReset
  echoes : t.echoes = []
  map : t.bind = ⟨[], [], none, none⟩
  inputs : ∀ i : WiredInput,
    t.wired[i] = ⟨(s.wired[i]).pin, false, if (s.wired[i]).pin then some 20 else none⟩
  peers : t.peers = []
  intents : t.intents = ⟨[], none⟩
  budget : t.budget = ⟨none, none, none, none, none, false⟩
  slots : t.sequencer = ⟨none, none, []⟩
  feeds : ∀ b : Bank, t.feed.feeds[b] = none
  band : t.feed.thresholds = none ∧ t.feed.ownBand = none ∧ t.feed.fall = 0 ∧ t.feed.rise = 0
  temp : t.feed.temp = .normal
  line : t.line = ⟨none, false, false, none, false, []⟩
  events : t.events = ⟨0, 0, 0, 0, none⟩
  alert : t.alert = false
  service : t.service.request = none ∧ t.service.restartDue = false

/-- R24, R107: the heat value with which a channel's model begins. -/
def startHeat (kind : Option ResetKind) (iTrip kept : Nat) : Nat :=
  match kind with
  | some .cold => 0
  | some .warm => iTrip ^ 2 / 2
  | some .serviceRestart => kept
  | none => kept

/-! ### Service requests -/

/-- The sender of a command that is a received frame (R156). -/
def frameFrom : Instr → Option Station
  | .signal st _ | .draw st _ _ _ _ | .intent st _ _ _ _ | .withdraw st _ | .otherFrameReceived st | .clearFault st _
  | .clearEvents st _ _ | .readChannel st _ | .readPeers st | .readEvents st | .override st _ _ _ | .restart st
  | .unknownCommand st _ => some st
  | .resetRelease _ | .configurationReadEnd _ | .serviceRestart _ | .feedMeasurement _ _ | .ksupMeasurement _ | .bandFall
  | .bandRise | .dieTemperatureMeasurement _ | .currentSample _ _ _ | .pwmPeriodStart _ | .update _ | .stall _
  | .openLoad _ | .retryTimerExpiry _ | .cleanRunTimerExpiry _ | .wiredInputPinChange _ _ | .debounceExpiry _
  | .ageingStep | .peerEntryStale _ | .peerEntryRemoval _ | .overflowTimerExpiry | .peerIntentAgeExpiry _ _
  | .silenceTimeout | .busOff | .busOffRecovery | .listenExpiry | .holdExpiry _ | .budgetRound | .windowEnd _
  | .phaseTimerExpiry _ | .autoOffExpiry _ | .overrideExpiry _ | .transmissionStart | .transmissionCompletion
  | .transmissionFailure | .queueExpiry _ | .statusRoll | .serviceReplyQueued | .replyListDiscard => none

/-- Byte 0 of a command that is a service request (section 12.3). -/
def requestByte : Instr → Option Byte
  | .clearFault _ _ => some 1
  | .clearEvents _ _ _ => some 2
  | .readChannel _ _ => some 3
  | .readPeers _ => some 4
  | .readEvents _ => some 5
  | .override _ _ _ _ => some 6
  | .restart _ => some 7
  | .unknownCommand _ byte0 => some byte0
  | .signal _ _ | .draw _ _ _ _ _ | .intent _ _ _ _ _ | .withdraw _ _ | .otherFrameReceived _
  | .resetRelease _ | .configurationReadEnd _ | .serviceRestart _ | .feedMeasurement _ _ | .ksupMeasurement _ | .bandFall
  | .bandRise | .dieTemperatureMeasurement _ | .currentSample _ _ _ | .pwmPeriodStart _ | .update _ | .stall _
  | .openLoad _ | .retryTimerExpiry _ | .cleanRunTimerExpiry _ | .wiredInputPinChange _ _ | .debounceExpiry _
  | .ageingStep | .peerEntryStale _ | .peerEntryRemoval _ | .overflowTimerExpiry | .peerIntentAgeExpiry _ _
  | .silenceTimeout | .busOff | .busOffRecovery | .listenExpiry | .holdExpiry _ | .budgetRound | .windowEnd _
  | .phaseTimerExpiry _ | .autoOffExpiry _ | .overrideExpiry _ | .transmissionStart | .transmissionCompletion
  | .transmissionFailure | .queueExpiry _ | .statusRoll | .serviceReplyQueued | .replyListDiscard => none

/-- The state with one more frame waiting in the transmit queue. -/
def State.withFrame (f : TxFrame) (s : State) : State :=
  { s with line := { s.line with queue := s.line.queue ++ [⟨f, 0, none⟩] } }

/-- The limits of R160 leave room for a STATUS or a SERVICE_REPLY. -/
def State.replyRoom (s : State) : Prop :=
  s.queued (fun e => e.frame.kind != 1) < 5 ∧ s.queued (fun e => e.frame.kind == 4 || e.frame.kind == 5) < 4

/-- A request in progress: the state with these replies in the reply list (R167). -/
def State.serving (sender : Station) (replies : List (List Byte)) (isRestart : Bool) (s : State) : State :=
  { s with service := { s.service with request := some ⟨sender, replies, 0, isRestart⟩ } }

/-- A request of this sender is received and accepted, and none is in progress (R156, R158, R167). -/
structure State.Serves (s : State) (sender : Station) : Prop where
  mode : s.mode ≠ .configuring
  online : s.line.busOff = false
  other : sender ≠ s.own
  mask : s.service.mask.getLsbD sender.val = true
  free : s.service.request = none

/-- The state after a frame that is no clash frame has been heard (R156 step 1, R159, R46): the silence timer at 0, no line
loss; a part that was ISOLATED is LISTENING for 300 ms, without the peers that were held, and an INTENT that waits is not on
the line (R56, log 39). -/
def State.heardFrame (s : State) : State :=
  if s.mode = .isolated then
    { s with
      loader := { s.loader with mode := .listening }
      peers := s.peers.filter fun e => !(e.stale && 1000 ≤ e.age)
      line := { s.line with
        silence := some 0
        lineLoss := false
        listen := some 300
        queue := s.line.queue.map fun e => if e.frame.isIntent then { e with attempt := none } else e } }
  else { s with line := { s.line with silence := some 0, lineLoss := false } }

end Sys2Proof.Machine
end

