-- ==== Sys2Proof/Certificates/Slice0/Obligations.lean ====
section
/-! DEFINITION. Obligations.lean: what the provers are asked to prove of the model. -/

open Sys2Proof Sys2Proof.Machine

/-! ### Commands and the queue -/

/-- A step takes the command at the front of the queue, with the rest of the queue left waiting. With none waiting, the
commands that the part's own state makes due are queued: a restart that is owed before all others, STALL, OPEN, BAND_FALL
and BAND_RISE at their counts, a waiting reply that the transmit queue takes, an attempt for a frame that may be offered.
With none due one millisecond passes, and every timer that reaches its end in it queues its command. Model's choices: the
clock on an empty queue (log 1), what falls due with no command (log 5), the restart that is owed as a SERVICE_RESTART
with the straps as last read (log 24), and a start entered after its channel's sample counting from the end of that
millisecond (log 15). -/
def Obligations.StepTakesTheFrontCommand : Prop :=
  (∀ (c : Instr) (rest : List Instr) (s : State),
      s.pending = c :: rest → step s = exec c { s with pending := rest })
    ∧ ∀ s : State, s.pending = [] →
      let queues := fun P : List Instr → Prop => ∃ l, step s = .next { s with pending := l } ∧ P l
      (s.service.restartDue = true → queues fun l => l.head? = some (.serviceRestart (BitVec.ofNat 4 s.own.val)))
        ∧ (∀ q d ds, s.service.request = some q → q.replies = d :: ds → s.replyRoom →
            queues fun l => Instr.serviceReplyQueued ∈ l)
        ∧ (s.line.busOff = false → (∀ x ∈ s.line.queue, x.attempt = none) →
            (∃ x ∈ s.line.queue, s.mayOffer x.frame = true) → queues fun l => Instr.transmissionStart ∈ l)
        ∧ (∀ c,
            let r := s.chan c
            r.state = .on ∨ (∃ left, r.state = .cycling ∧ r.phase = some ⟨true, left⟩) →
            (r.cfg.stallThreshold ≠ 0 → r.prot.stallMark = false → r.cfg.stallTime * 10 ≤ r.prot.stallTimer →
                queues fun l => Instr.stall c ∈ l)
              ∧ (r.prot.openMark = false → 50 ≤ r.prot.openTimer → queues fun l => Instr.openLoad c ∈ l))
        ∧ (s.feed.thresholds ≠ none → 20 ≤ s.feed.fall → queues fun l => Instr.bandFall ∈ l)
        ∧ (s.feed.ownBand ≠ none → 500 ≤ s.feed.rise → queues fun l => Instr.bandRise ∈ l)
        ∧ (s.dueNow = [] → Answers (step s) fun t =>
            (∀ c,
                let r := s.chan c
                let q := t.chan c
                q.autoOff = r.autoOff.map (· - 1) ∧ (r.autoOff = some 1 → Instr.autoOffExpiry c ∈ t.pending)
                  ∧ q.retry = r.retry.map (· - 1) ∧ (r.retry = some 1 → Instr.retryTimerExpiry c ∈ t.pending)
                  ∧ (r.prot.update = some 1 → Instr.update c ∈ t.pending)
                  ∧ (r.cleanRun = some 9999 → Instr.cleanRunTimerExpiry c ∈ t.pending)
                  ∧ (∀ u, r.start = some u → u.left = 1 → u.entered = false → Instr.windowEnd c ∈ t.pending)
                  ∧ (r.state = .starting ∨ r.state = .on → 4 ≤ r.pwmPos →
                      (∀ u, r.start = some u → u.left ≠ 1 ∧ u.ending = false ∧ u.entered = false) →
                      Instr.pwmPeriodStart c ∈ t.pending)
                  ∧ (∀ p, r.phase = some p → p.left = 1 → Instr.phaseTimerExpiry c ∈ t.pending)
                  ∧ (∀ o, r.override = some o → o.left = 1 → Instr.overrideExpiry c ∈ t.pending)
                  ∧ (∀ e ∈ s.intents.entries, e.station = s.own → e.channel.val = c.val → e.hold = some 1 →
                      Instr.holdExpiry c ∈ t.pending))
              ∧ (∀ i : WiredInput, (s.wired[i]).timer = some 1 → Instr.debounceExpiry i ∈ t.pending)
              ∧ (s.bind.ageing = some 1 → Instr.ageingStep ∈ t.pending)
              ∧ (∀ e ∈ s.peers, e.stale = false → e.age = 349 → Instr.peerEntryStale e.station ∈ t.pending)
              ∧ (∀ e ∈ s.peers, e.stale = true → e.age = 999 → Instr.peerEntryRemoval e.station ∈ t.pending)
              ∧ (∀ e ∈ s.intents.entries, e.station ≠ s.own → e.age = 499 →
                  Instr.peerIntentAgeExpiry e.station (BitVec.ofNat 5 e.channel.val) ∈ t.pending)
              ∧ (s.intents.overflow = some 1 → Instr.overflowTimerExpiry ∈ t.pending)
              ∧ (∀ (i : Fin 6) e, s.line.queue[i.val]? = some e → e.frame.kind ≠ 1 →
                  e.age = (if e.frame.kind = 0 then 199 else if e.frame.kind = 4 then 499 else 999) →
                  Instr.queueExpiry i ∈ t.pending)
              ∧ (∀ q, s.service.request = some q → q.age = 499 → Instr.replyListDiscard ∈ t.pending)
              ∧ (s.line.silence = some 499 → Instr.silenceTimeout ∈ t.pending)
              ∧ (s.line.listen = some 1 → Instr.listenExpiry ∈ t.pending)
              ∧ (s.budget.round = some 1 → Instr.budgetRound ∈ t.pending)
              ∧ (s.events.roll = some 1 → Instr.statusRoll ∈ t.pending))

/-- Every command completes in every state and leaves the queue of waiting commands as it is, but for a read of the memory
that did not bring 848 bytes: R174's read brings 848, and the stop on any other length is the model's choice (log 27). -/
def Obligations.OnlyAWrongReadStops : Prop :=
  ∀ (i : Instr) (s : State),
    (∃ t, exec i s = .next t ∧ t.pending = s.pending)
      ∨ ∃ image, i = .configurationReadEnd image ∧ image.length ≠ 848 ∧ exec i s = .fault .imageLength

/-- Each command writes the blocks that its rules name, and what channels do in consequence; every other field of the part
keeps its value. -/
def Obligations.CommandsKeepToTheirBlocks : Prop :=
  ∀ (i : Instr) (s t : State), exec i s = .next t → t = s.writtenBy i t

/-! ### What every step keeps -/

/-- R7 to R9, R17, R85, R123, R125, R147: every step keeps the channel records sound. -/
def Obligations.EveryStepKeepsChannelsSound : Prop := ∀ s t : State, s.Sound → step s = .next t → t.Sound

/-- R5 to R8, R124: every step keeps request, duty, booking and retry count in their rules. -/
def Obligations.EveryStepKeepsBookingRules : Prop := ∀ s t : State, s.Ruled → step s = .next t → t.Ruled

/-- R79 to R82: every step keeps the slots and the slot queue sound. -/
def Obligations.EveryStepKeepsSlotsSound : Prop := ∀ s t : State, s.SlotsSound → step s = .next t → t.SlotsSound

/-- R160, R161, R165: every step keeps the limits of the transmit queue. -/
def Obligations.EveryStepKeepsQueueLimits : Prop := ∀ s t : State, s.QueueSound → step s = .next t → t.QueueSound

/-- R44, R45, R49 to R51: every step keeps the Peer Table and the Intent List sound: among the rest, no two intents of one
station and channel, and one announcement of a channel at most, in PENDING alone. -/
def Obligations.EveryStepKeepsTablesSound : Prop := ∀ s t : State, s.TablesSound → step s = .next t → t.TablesSound

/-- R60, R137 to R140: every step keeps the band thresholds in order, the band timers apart, and the worst band and the
allowance at what the own and the LIVE bands give. -/
def Obligations.EveryStepKeepsBandSound : Prop := ∀ s t : State, s.BandSound → step s = .next t → t.BandSound

/-- R101, R103: every step keeps every θ from 0 to 1,046,529. -/
def Obligations.EveryStepKeepsHeatInRange : Prop :=
  ∀ s t : State, (∀ c, (s.chan c).HeatSound) → step s = .next t → ∀ c, (t.chan c).HeatSound

/-- The state right after reset meets every property that the steps keep. -/
def Obligations.ResetIsSound : Prop :=
  State.reset.Sound ∧ State.reset.Ruled ∧ State.reset.SlotsSound ∧ State.reset.QueueSound ∧ State.reset.TablesSound
    ∧ State.reset.BandSound ∧ ∀ c, (State.reset.chan c).HeatSound

/-! ### Start-up (chapter 11) -/

/-- RESET_RELEASE and SERVICE_RESTART (R172, R173, R179, R180, and the reset rules of the chapters, R24, R42, R48, R56,
R78, R100, R117, R144, R155, R159): every block at its reset values. A reset release leaves the kind undecided, θ 0 and
the fault records empty; a service restart sets its kind and keeps each θ and fault record. Model's choice: a pin that is
grounded at a reset keeps its level and its 20 ms of R37 run from the reset (log 8). -/
def Obligations.ResetsRestoreEveryBlock : Prop :=
  ∀ (straps : BitVec 4) (s : State),
    (Answers (exec (.resetRelease straps) s) fun t =>
      s.AtReset straps t ∧ t.loader.resetKind = none
        ∧ ∀ c, (t.chan c).prot.theta = 0 ∧ (t.chan c).faults = .empty)
      ∧ Answers (exec (.serviceRestart straps) s) fun t =>
          s.AtReset straps t ∧ t.loader.resetKind = some .serviceRestart
            ∧ ∀ c, (t.chan c).prot.theta = (s.chan c).prot.theta ∧ (t.chan c).faults = (s.chan c).faults

/-- CONFIGURATION_READ_END (R174): the first test that fails decides the source record, and the part leaves CONFIGURING
for LIMP or, with no test failed, for LISTENING. Outside CONFIGURING no read is in progress and nothing changes; a list of
another length is no read. Model's choices: the stop on another length (log 27) and no change outside CONFIGURING (log
4). -/
def Obligations.ReadEndJudgesTheImage : Prop :=
  ∀ (image : List Byte) (s : State),
    let missing := (∀ x ∈ image, x = 255#8) ∨ ∀ x ∈ image, x = 0#8
    let crcGood := (crc16 (image.drop 2)).toNat = (image.getD 0 0).toNat * 256 + (image.getD 1 0).toNat
    let ends := fun (m : PartMode) (k : ConfigSource) =>
      Answers (exec (.configurationReadEnd image) s) fun t => t.loader = { s.loader with mode := m, source := some k }
    (image.length ≠ 848 → exec (.configurationReadEnd image) s = .fault .imageLength)
      ∧ (image.length = 848 → s.mode ≠ .configuring → exec (.configurationReadEnd image) s = .next s)
      ∧ (image.length = 848 → s.mode = .configuring → missing → ends .limp .missing)
      ∧ (image.length = 848 → s.mode = .configuring → ¬missing → ¬crcGood → ends .limp .crc)
      ∧ (image.length = 848 → s.mode = .configuring → ¬missing → crcGood → image.getD 2 0 ≠ 1 → ends .limp .version)
      ∧ (image.length = 848 → s.mode = .configuring → ¬missing → crcGood → image.getD 2 0 = 1 →
          ends .listening .memory)

/-- CONFIGURATION_READ_END with a failed test (R178, R107, R164): the built-in values, the LIMP event, the timers, and W0
to W3 at CH0 to CH3. Model's choices: θ as it stands where no feed was measured (log 12), the requests at entry (log 28),
and the built-in fields that R178 does not name (log 35). -/
def Obligations.FailedReadEntersLimp : Prop :=
  ∀ (image : List Byte) (s : State), image.length = 848 → s.mode = .configuring → s.Unbegun →
    imageVerdict image ≠ .memory →
    Answers (exec (.configurationReadEnd image) s) fun t =>
      t.mode = .limp ∧ t.events.flags = s.events.flags ||| 512#11
        ∧ t.events.partMask = BitVec.allOnes 11 ∧ t.events.channelMask = BitVec.allOnes 20 ∧ t.alert = true
        ∧ t.service.mask = BitVec.allOnes 16
        ∧ t.feed.thresholds = some ⟨270, 240, 200⟩
        ∧ t.feed.ownBand = some (if 270 ≤ s.feed.ksup then .charging else if 240 ≤ s.feed.ksup then .battery
            else if 200 ≤ s.feed.ksup then .low else .crank)
        ∧ t.budget.round = some 100 ∧ t.events.roll = some 50 ∧ t.line.silence = some 0 ∧ t.line.listen = s.line.listen
        ∧ (∀ c, (t.chan c).cfg.iTrip = 100 ∧ (t.chan c).cfg.heatExp = 8 ∧ (t.chan c).prot.update = some 10
            ∧ (t.chan c).prot.theta = startHeat s.loader.resetKind 100 (s.chan c).prot.theta)
        ∧ (∀ c, 4 ≤ c.val → (t.chan c).state = .off)
        ∧ (∀ c, c.val < 4 →
            (t.chan c).raw = (if (s.wired[(Fin.ofNat 8 c.val : WiredInput)]).debounced then 255 else 0)
              ∧ (t.chan c).cfg.tier = 0 ∧ (t.chan c).cfg.accepted = ⟨true, true, true⟩ ∧ (t.chan c).cfg.dutyMode = .pwm
              ∧ (t.chan c).cfg.minDuty = 1 ∧ (t.chan c).cfg.nominal = 50 ∧ (t.chan c).cfg.shortThreshold = 600
              ∧ (t.chan c).cfg.openThreshold = 0 ∧ (t.chan c).cfg.stallThreshold = 0 ∧ (t.chan c).cfg.inrushWindow = 2
              ∧ (t.chan c).cfg.shortMode = .retry ∧ (t.chan c).cfg.overloadMode = .retry
              ∧ (t.chan c).cfg.startfailMode = .retry ∧ (t.chan c).cfg.stallMode = .latch
              ∧ (t.chan c).cfg.openMode = .latch ∧ (t.chan c).cfg.retryTime = 10 ∧ (t.chan c).cfg.retryLimit = 3
              ∧ (t.chan c).cfg.autoOffTime = 0 ∧ (t.chan c).cfg.activityInput = none
              ∧ (t.chan c).cfg.throttleable = false ∧ (t.chan c).cfg.onCount = 0 ∧ (t.chan c).cfg.offCount = 0)

/-- CONFIGURATION_READ_END with no test failed (R176, R26, R57, R60, R77, R107, R138): what the installation leaves. The
first round reports no booking; a stored rise then starts a tier-0 channel. Model's choice: θ as it stands where no feed
was measured (log 12). -/
def Obligations.PassedReadEntersListening : Prop :=
  ∀ (image : List Byte) (s : State), image.length = 848 → s.mode = .configuring → s.Ruled → s.Unbegun → s.peers = [] →
    imageVerdict image = .memory →
    let k := headerBudget image
    let th := headerThresholds image
    let v := s.feed.ksup
    let band : Band := if th.charging ≤ v then .charging else if th.battery ≤ v then .battery
      else if th.low ≤ v then .low else .crank
    Answers (exec (.configurationReadEnd image) s) fun t =>
      t.mode = .listening ∧ t.line.listen = some 300 ∧ t.line.silence = some 0 ∧ t.events.roll = some 50
        ∧ t.budget.round = some 100 ∧ t.budget.config = some k
        ∧ t.feed.thresholds = some th ∧ t.feed.ownBand = some band ∧ t.budget.ownBand = some band
        ∧ t.budget.worst = some band
        ∧ t.budget.allowance = some (match band with
            | .charging => k.aCfg
            | .battery => k.aCfg * k.pB / 100
            | .low => k.aCfg * k.pL / 100
            | .crank => 0)
        ∧ (t.line.queue.filter fun e => e.frame.kind == 1) = [⟨.draw band ⟨0, 0, 0, 0⟩, 0, none⟩]
        ∧ t.events.partMask = headerPartMask image ∧ t.events.channelMask = headerChannelMask image
        ∧ t.service.mask.toNat = (image.getD 16 0).toNat * 256 + (image.getD 17 0).toNat
        ∧ t.eventSet .configError = (imageFlawed image || s.eventSet .configError)
        ∧ t.bind.bindings.map (·.index) = (validBindings image).map (·.index)
        ∧ t.bind.table.Pairwise (fun a b => a.signal < b.signal)
        ∧ (∀ e ∈ t.bind.table, e.value = 0 ∧ e.publisher = none ∧ e.age = 0 ∧ e.taken = false)
        ∧ (∀ n : Byte, (∃ e ∈ t.bind.table, e.signal = n) ↔ n.toNat < 224 ∧ ∃ b ∈ validBindings image, b.source = n)
        ∧ t.bind.ageing = some 10
        ∧ ∀ c, (t.chan c).cfg = channelConfig image c ∧ (t.chan c).prot.update = some 10
            ∧ (t.chan c).prot.theta
                = startHeat s.loader.resetKind (channelConfig image c).iTrip (s.chan c).prot.theta
            ∧ ((channelConfig image c).accepted = ⟨false, false, false⟩ →
                (t.chan c).state = .inhibited ∧ (t.chan c).causes.config = true)
            ∧ ((channelConfig image c).tier ≠ 0 →
                (t.chan c).state = .off ∨ (t.chan c).state = .deferred ∨ (t.chan c).state = .inhibited)
            ∧ ((t.chan c).eff ≠ 0 → (s.chan c).state = .off → (channelConfig image c).accepted ≠ ⟨false, false, false⟩ →
                ((channelConfig image c).tier ≠ 0 → (t.chan c).state = .deferred)
                  ∧ ((channelConfig image c).tier = 0 → (s.chan c).prot.hot = false → (t.chan c).state = .starting
                      ∧ (t.chan c).booking = (channelConfig image c).bookingFor (t.chan c).duty (s.chan c).throttled))

/-- R2, R137, R175, R183: whatever the image holds, every field is installed from its place in section 12.4 and lies in
its range: a value within its range as the image holds it, one outside at the nearest end, an undefined code at the target
that R175 and R118 give; t_c, t_b and t_l by R137's two steps, so that t_c > t_b > t_l; and a valid binding record holds
what the image's record holds. -/
def Obligations.InstalledFieldsLieInRange : Prop :=
  ∀ image : List Byte,
    let byte := fun i : Nat => (image.getD i 0).toNat
    let word := fun i : Nat => byte i * 256 + byte (i + 1)
    let bit := fun i n : Nat => (image.getD i 0).getLsbD n
    (let k := headerBudget image
     k.aCfg = min (word 4) 6000 ∧ k.pB = min (byte 3) 100 ∧ k.pL = min (byte 12) 100 ∧ k.margin = min (word 14) 1000
       ∧ k.inrushLimit = max 1 (min (byte 13) 4) ∧ ∀ b : Bank, k.feedRating[b] = min (word (24 + 2 * b.val)) 2000)
      ∧ (let th := headerThresholds image
         let tb := max 1 (min (word 8) 399)
         let tl := min (word 10) 398
         th.charging = max 2 (min (word 6) 400)
           ∧ th.battery = (if tb < th.charging then tb else th.charging - 1)
           ∧ th.low = (if tl < th.battery then tl else th.battery - 1)
           ∧ th.low < th.battery ∧ th.battery < th.charging ∧ th.charging ≤ 400)
      ∧ (∀ c : Channel,
          let k := channelConfig image c
          let base := 32 + 28 * c.val
          let nominal := max 1 (min (word (base + 4)) (if c.val < 12 then 150 else 300))
          let modes := fun (code : Nat) (allowed : List ActionMode) (m : ActionMode) =>
            (code = 0 → m = .latch)
              ∧ (code = 1 → m = if .retry ∈ allowed then .retry else .latch)
              ∧ (code = 2 → m = if .report ∈ allowed then .report else .latch)
              ∧ (code = 3 → m = if .ignore ∈ allowed then .ignore else .latch) ∧ (3 < code → m = .latch)
          k.tier.val = min (byte base) 3
            ∧ k.accepted = ⟨bit (base + 1) 2, bit (base + 1) 1, bit (base + 1) 0⟩
            ∧ k.dutyMode = (if byte (base + 2) = 1 then .slowCycle else .pwm)
            ∧ k.nominal = nominal ∧ k.iTrip = max nominal (min (word (base + 6)) 1023)
            ∧ k.heatExp = max 4 (min (byte (base + 8)) 12) ∧ k.minDuty.toNat = max 1 (byte (base + 9))
            ∧ k.shortThreshold = max 200 (min (word (base + 10)) 1023) ∧ k.openThreshold = min (word (base + 12)) 255
            ∧ k.stallThreshold = min (word (base + 14)) 1023 ∧ k.stallTime = max 1 (byte (base + 16))
            ∧ k.inrushWindow = max 2 (min (byte (base + 17)) 50)
            ∧ modes (byte (base + 18) / 16) [.latch, .retry] k.shortMode
            ∧ modes (byte (base + 18) % 16) [.latch, .retry] k.overloadMode
            ∧ modes (byte (base + 19) / 16) [.latch, .retry] k.startfailMode
            ∧ modes (byte (base + 19) % 16) [.latch, .retry, .report] k.stallMode
            ∧ modes (byte (base + 20) / 16) [.latch, .report, .ignore] k.openMode
            ∧ k.retryTime = max 1 (byte (base + 21)) ∧ k.retryLimit = min (byte (base + 22)) 7
            ∧ k.onCount = min (byte (base + 23)) 63 ∧ k.offCount = min (byte (base + 24)) 63
            ∧ k.autoOffTime = byte (base + 25) ∧ k.throttleable = bit (base + 3) 0
            ∧ (∀ w : WiredInput, k.activityInput = some w ↔ byte (base + 3) / 16 = w.val + 1))
      ∧ ∀ b ∈ validBindings image,
          let base := 592 + 8 * b.index
          let m := byte base / 16 % 4
          let f := byte base % 4
          b.index < 32 ∧ bit base 7 = true ∧ b.source.toNat = byte (base + 1) ∧ b.source.toNat < 252
            ∧ b.target.val = byte (base + 2) ∧ b.threshold.toNat = byte (base + 3) ∧ b.staleness = byte (base + 4)
            ∧ b.mask.toNat = word (base + 6) ∧ b.held = 0 ∧ m < 3 ∧ f < 3
            ∧ b.mode = (if m = 0 then .switch else if m = 1 then .inverse else .level)
            ∧ b.fallback = (if f = 0 then .hold else if f = 1 then .off else .full)

/-- R39, R40: the valid records of any image form no follow chain of more than three edges; a cycle would give longer
ones. A flagged record with a defined target, mode and fallback is valid where its source is a link signal or a wired
input; where its source is an echo it is rejected only because its edge, with accepted edges of lower index, closes a
cycle (on its own target, or further on) or makes a chain of more than three edges. -/
def Obligations.FollowChainsAreShort : Prop :=
  let follows := fun a b : Binding => a.source.toNat = 232 + b.target.val
  (∀ (image : List Byte) (chain : List Binding),
      (∀ b ∈ chain, b ∈ validBindings image ∧ 232 ≤ b.source.toNat) → chain.IsChain follows → chain.length ≤ 3)
    ∧ ∀ (image : List Byte) (i : Nat), i < 32 →
      let byte := fun j : Nat => (image.getD (592 + 8 * i + j) 0).toNat
      let kept := ∃ b ∈ validBindings image, b.index = i
      128 ≤ byte 0 → byte 0 / 16 % 4 < 3 → byte 0 % 4 < 3 → byte 2 < 20 →
        (byte 1 < 232 → kept)
          ∧ (232 ≤ byte 1 → byte 1 < 252 → kept ∨ ∃ (xs ys : List Binding) (e : Binding),
              e.target.val = byte 2 ∧ e.source.toNat = byte 1
                ∧ (∀ b ∈ xs ++ ys, b ∈ validBindings image ∧ 232 ≤ b.source.toNat ∧ b.index < i)
                ∧ (xs ++ e :: ys).IsChain follows
                ∧ (3 < (xs ++ e :: ys).length ∨ ∀ l ∈ (e :: ys).getLast?, follows l e))

/-! ### Requests (chapters 1 and 2) -/

/-- R5 to R7: the effective request, the duty and the booking, with the exact rounding up of R7. -/
def Obligations.LevelsOfAChannel : Prop :=
  ∀ (r : ChannelRecord) (v d : Byte) (th : Bool),
    (∀ o, r.override = some o → r.effectiveRequest = o.level)
      ∧ (r.override = none → r.hold = true → r.effectiveRequest = 0)
      ∧ (r.override = none → r.hold = false → r.effectiveRequest = r.raw)
      ∧ r.cfg.dutyFor 0 = 0
      ∧ (v ≠ 0 → r.cfg.dutyMode = .pwm → (r.cfg.dutyFor v).toNat = max v.toNat r.cfg.minDuty.toNat)
      ∧ (v ≠ 0 → r.cfg.dutyMode = .slowCycle → r.cfg.dutyFor v = 255)
      ∧ (r.cfg.dutyMode = .pwm → r.cfg.bookingFor d th = ⌈(r.cfg.nominal * d.toNat : ℚ) / 255⌉₊)
      ∧ (r.cfg.dutyMode = .slowCycle → r.cfg.bookingFor d false = r.cfg.nominal)
      ∧ (r.cfg.dutyMode = .slowCycle → r.cfg.bookingFor d true
          = ⌈(r.cfg.nominal * (r.cfg.onCount + 1) : ℚ) / (r.cfg.onCount + r.cfg.offCount + 2)⌉₊)

/-- R32: the output of a binding whose view is FRESH, which the held output takes too. -/
def Obligations.FreshBindingOutput : Prop :=
  ∀ (s : State) (b : Binding), s.judgeFresh b = true →
    let v := s.sourceValue b.source
    let out : Byte := match b.mode with
      | .switch => if b.threshold.toNat ≤ v.toNat then 255 else 0
      | .inverse => if v.toNat < b.threshold.toNat then 255 else 0
      | .level => v
    s.evaluate b = { b with fresh := true, held := out, present := out }

/-- R33: while a view is STALE the fallback sets the output and the held output stands; back to FRESH, R32 applies again
to the value then held; a HOLD binding that has never been fresh contributes 0, and a FULL binding on a signal in NEVER
255 from the moment the table is built, so that its target is requested. -/
def Obligations.StaleBindingOutput : Prop :=
  (∀ (s u : State) (b : Binding), s.judgeFresh b = false →
      let stale : Binding := { b with fresh := false, present := match b.fallback with
        | .hold => b.held
        | .off => 0
        | .full => 255 }
      s.evaluate b = stale
        ∧ (u.judgeFresh b = true →
            let v := u.sourceValue b.source
            let out : Byte := match b.mode with
              | .switch => if b.threshold.toNat ≤ v.toNat then 255 else 0
              | .inverse => if v.toNat < b.threshold.toNat then 255 else 0
              | .level => v
            u.evaluate stale = { b with fresh := true, held := out, present := out }))
    ∧ ∀ (image : List Byte) (s : State), image.length = 848 → s.mode = .configuring → s.Unbegun →
        imageVerdict image = .memory → Answers (exec (.configurationReadEnd image) s) fun t =>
          ∀ b ∈ t.bind.bindings, b.source.toNat < 224 →
            b.fresh = false ∧ b.present = (if b.fallback = .full then 255 else 0)
              ∧ (b.fallback = .full → (t.chan b.target).raw = 255)

/-- WIRED_INPUT_PIN_CHANGE and DEBOUNCE_EXPIRY (R37): the timer runs exactly while the pin differs; at its end the
debounced level takes the pin's, and in LIMP W0 to W3 set the raw requests of CH0 to CH3 (R23), which start on a rise, a
hot switch stopping the start by THERMAL, and end on a fall (R11, R115). Model's choice: an expiry acts only where its
timer stands at its end (log 2). -/
def Obligations.WiredInputsAreDebounced : Prop :=
  ∀ (i : WiredInput) (g : Bool) (s : State),
    let w := s.wired[i]
    exec (.wiredInputPinChange i g) s
        = .next (if g = w.pin then s
            else { s with wired := s.wired.set i ⟨g, w.debounced, if g = w.debounced then none else some 20⟩ })
      ∧ (w.timer ≠ some 0 → exec (.debounceExpiry i) s = .next s)
      ∧ (w.timer = some 0 → Answers (exec (.debounceExpiry i) s) fun t =>
          t.wired = s.wired.set i ⟨w.pin, w.pin, none⟩
            ∧ (s.mode = .limp → s.bind.bindings = [] → ∀ c : Channel, c.val = i.val → c.val < 4 →
                (t.chan c).raw = if w.pin then 255 else 0)
            ∧ (s.mode = .limp → s.Plain → ∀ c : Channel, c.val = i.val → c.val < 4 → (s.chan c).override = none →
                (s.chan c).hold = false → (s.chan c).eff = (s.chan c).raw →
                let r := s.chan c
                let q := t.chan c
                (w.pin = true → r.state = .off → r.raw = 0 → r.cfg.tier = 0 →
                    (r.prot.hot = false → q.state = .starting ∧ q.eff = 255
                        ∧ q.booking = r.cfg.bookingFor (r.cfg.dutyFor 255) r.throttled)
                      ∧ (r.prot.hot = true → r.StoppedHot q))
                  ∧ (w.pin = false → r.raw ≠ 0 → r.state = .starting ∨ r.state = .on →
                      q.state = .off ∧ q.booking = 0 ∧ q.span = 0))
            ∧ (s.mode ≠ .limp → s.Plain → ∀ b ∈ t.bind.bindings, b.source.toNat = 224 + i.val →
                b.fresh = true ∧ (b.mode = .level → b.present = if w.pin then 255 else 0)))

/-- AGEING_STEP (R29, R31): every FRESH entry is one step older, up to 256, and every link binding is then FRESH exactly
where its entry has been taken, last from a publisher of its mask, and is not older than a staleness time above 0. -/
def Obligations.AgeingStepResult : Prop :=
  ∀ s : State, s.bind.ageing ≠ none → Answers (exec .ageingStep s) fun t =>
    t.bind.ageing = some 10
      ∧ t.bind.table = s.bind.table.map (fun e => if e.taken then { e with age := min (e.age + 1) 256 } else e)
      ∧ ∀ b ∈ t.bind.bindings, b.source.toNat < 224 →
          (b.fresh = true ↔ ∃ e, t.bind.entry b.source = some e ∧ e.taken = true
            ∧ (∃ p, e.publisher = some p ∧ b.mask.getLsbD p.val = true) ∧ (b.staleness = 0 ∨ e.age ≤ b.staleness))

/-- SIGNAL (R27, R31, R34, R35): a pair taken from a permitted publisher updates the entry, and the views of the bindings
on that signal follow the publisher; unwatched numbers are dropped without event; a pair from a sender outside every
watching mask raises FOREIGN_PUBLISHER and changes no entry, the record naming the first since the flag was last clear
(R28). The raw request of each channel that a taken pair reaches is then the largest present output of its bindings, each
evaluated anew (R34, R35), and the pairs of one frame are taken in their order. In LIMP a SIGNAL frame is heard and
dropped (R41). -/
def Obligations.SignalTaken : Prop :=
  ∀ (sender : Station) (n v : Byte) (s : State), s.mode ≠ .configuring → s.line.busOff = false → sender ≠ s.own →
    (s.mode = .limp → s.Plain → ∀ pairs, exec (.signal sender pairs) s = .next s.heardFrame.echoed)
      ∧ (s.mode ≠ .limp → (∃ e ∈ s.bind.table, e.signal = n) →
          (∃ b ∈ s.bind.bindings, b.source = n ∧ b.mask.getLsbD sender.val = true) →
          Answers (exec (.signal sender [(n, v)]) s) fun t =>
            t.bind.table = s.bind.table.map (fun e =>
                if e.signal = n then { e with value := v, publisher := some sender, age := 0, taken := true } else e)
              ∧ t.events.flags = s.events.flags ∧ t.line.silence = some 0 ∧ t.line.lineLoss = false
              ∧ ∀ b ∈ t.bind.bindings, b.source = n → n.toNat < 224 → b.fresh = b.mask.getLsbD sender.val)
      ∧ (s.mode ≠ .limp → (∀ e ∈ s.bind.table, e.signal ≠ n) → s.Plain →
        exec (.signal sender [(n, v)]) s = .next s.heardFrame.echoed)
      ∧ (s.mode ≠ .limp → (∃ e ∈ s.bind.table, e.signal = n) →
          (∀ b ∈ s.bind.bindings, b.source = n → b.mask.getLsbD sender.val = false) →
          Answers (exec (.signal sender [(n, v)]) s) fun t =>
            t.bind.table = s.bind.table ∧ t.events.flags = s.events.flags ||| 64#11
              ∧ t.bind.foreign = if s.events.flags.getLsbD 6 then s.bind.foreign else some (n, sender))
      ∧ (s.mode ≠ .limp → s.Plain → (∃ e ∈ s.bind.table, e.signal = n) →
          (∃ b ∈ s.bind.bindings, b.source = n ∧ b.mask.getLsbD sender.val = true) →
          Answers (exec (.signal sender [(n, v)]) s) fun t =>
            ∀ x ∈ s.bind.bindings, x.source = n →
              let raw := (t.chan x.target).raw
              (∀ b ∈ t.bind.bindings, b.target = x.target → t.evaluate b = b ∧ b.present.toNat ≤ raw.toNat)
                ∧ ∃ b ∈ t.bind.bindings, b.target = x.target ∧ b.present = raw)
      ∧ (s.Plain → ∀ p pairs, Answers (exec (.signal sender [p]) s) fun t =>
          exec (.signal sender (p :: pairs)) s = exec (.signal sender pairs) t)

/-- SIGNAL (R10 to R22, R34, R115, R150, R153): a SWITCH binding, the only one on its signal, at a channel that other
sources may ask for too. A value at its threshold begins an OFF channel: tier 0 starts, conducting for the longer of 2 ms
and its profile share, with its auto-off time where it has one, or, over a HOT switch, is stopped by THERMAL at that
entry; a tier above waits in DEFERRED outside RUNNING, and in RUNNING announces an intent, or defers where the queue
refuses it. A value below it leaves the channel to the largest output of its other bindings, a level change where that is
above 0 (R10). Where they ask for nothing it ends the request: the hold clears, a channel that waits or runs goes to OFF,
PENDING undoes its announcement, and OFF, COOLDOWN, LATCHED and INHIBITED keep their state. Model's choice: the start
record says whether the channel's sample of that millisecond had been taken at the entry (log 15). -/
def Obligations.SwitchSignalActs : Prop :=
  ∀ (sender : Station) (n v : Byte) (c : Channel) (b : Binding) (e : SignalEntry) (s : State),
    s.mode ≠ .configuring → s.mode ≠ .limp → s.line.busOff = false → sender ≠ s.own → s.Plain →
    b ∈ s.bind.bindings → (∀ x ∈ s.bind.bindings, x.source = n → x = b) → e ∈ s.bind.table → e.signal = n →
    n.toNat < 224 → b.source = n → b.target = c → b.mode = .switch → b.mask.getLsbD sender.val = true →
    (s.chan c).override = none →
    let r := s.chan c
    let k := r.cfg
    let others := (s.bind.bindings.filter fun x => x.target == c && x.source != n).map fun x => (s.evaluate x).present
    let asked := others.foldl (fun m o => if m.toNat ≤ o.toNat then o else m) 0
    (b.threshold.toNat ≤ v.toNat → r.state = .off → r.raw = 0 → r.eff = 0 → r.hold = false → r.throttled = false →
        Answers (exec (.signal sender [(n, v)]) s) fun t =>
          let q := t.chan c
          q.raw = 255 ∧ q.eff = 255 ∧ q.duty = 255
            ∧ (k.tier = 0 → r.prot.hot = false → q.state = .starting ∧ q.booking = k.bookingFor 255 false
                ∧ q.span = (if k.accepted.filament then 102 else 255) ∧ q.pwmPos = 0 ∧ t.sequencer = s.sequencer
                ∧ q.autoOff = (if k.autoOffTime = 0 then none else some (k.autoOffTime * 10000))
                ∧ q.start = some ⟨k.inrushWindow, k.inrushWindow * 10, 0,
                    if k.accepted.filament then 64 else 255, [], 0, [], [], false, r.prot.sampled⟩)
            ∧ (k.tier = 0 → r.prot.hot = true → r.StoppedHot q)
            ∧ (k.tier ≠ 0 → s.mode ≠ .running → q.state = .deferred ∧ q.booking = 0)
            ∧ (k.tier ≠ 0 → s.mode = .running → s.line.queue = [] → q.state = .pending ∧ q.booking = 0
                ∧ t.line.queue.map (·.frame)
                    = [.status c, .intent c k.tier (k.bookingFor 255 false) k.inrushWindow])
            ∧ (k.tier ≠ 0 → s.mode = .running → 5 ≤ s.queued (fun x => x.frame.kind != 1) →
                s.queued (fun x => x.frame.kind == 5) = 0 → q.state = .deferred ∧ t.line.queue = s.line.queue)
            ∧ ∀ d, d ≠ c → t.chan d = (s.chan d).followed)
      ∧ (v.toNat < b.threshold.toNat → asked ≠ 0 → r.raw ≠ 0 → r.eff = r.effectiveRequest →
        Answers (exec (.signal sender [(n, v)]) s) fun t =>
          let q := t.chan c
          q.raw = asked ∧ q.hold = r.hold ∧ q.state = r.state ∧ q.eff = (if r.hold then 0 else asked)
            ∧ (r.hold = false → r.raw ≠ asked → q.duty = k.dutyFor asked
                ∧ q.booking = if r.state.books then k.bookingFor (k.dutyFor asked) r.throttled else r.booking)
            ∧ (r.hold = true ∨ r.raw = asked → q.duty = r.duty ∧ q.booking = r.booking)
            ∧ ∀ d, d ≠ c → t.chan d = (s.chan d).followed)
      ∧ (v.toNat < b.threshold.toNat → asked = 0 → r.raw ≠ 0 → r.eff = r.effectiveRequest →
        Answers (exec (.signal sender [(n, v)]) s) fun t =>
          let q := t.chan c
          let ends := r.state = .pending ∨ r.state = .deferred ∨ r.state = .slotwait ∨ r.state = .starting ∨ r.state = .on
            ∨ r.state = .cycling ∨ r.state = .shed
          q.raw = 0 ∧ q.eff = 0 ∧ q.hold = false
            ∧ (r.hold = true ∨ ¬ends → q.state = r.state)
            ∧ (r.hold = false → q.duty = 0 ∧ (ends → q.state = .off ∧ q.booking = 0 ∧ q.span = 0 ∧ q.autoOff = none))
            ∧ (r.hold = false → r.state = .pending →
                (∀ x ∈ t.line.queue, ∀ tr bk w, x.frame ≠ .intent c tr bk w)
                  ∧ ((∀ x ∈ s.line.queue, ∀ tr bk w, x.frame ≠ .intent c tr bk w) →
                      (∃ y ∈ s.intents.entries, y.station = s.own ∧ y.channel.val = c.val) →
                      t.intents.entries = s.intents.entries.filter (fun y => !(y.station == s.own && y.channel.val == c.val))
                        ∧ (s.mode ≠ .clashed → s.queued (fun x => x.frame.kind != 1) < 5 →
                            ∃ x ∈ t.line.queue, x.frame = .withdraw c)))
            ∧ ∀ d, d ≠ c → t.chan d = (s.chan d).followed)

/-- DRAW (R43, R44, R54): a report of another station is that station's entry, LIVE at age 0, each booking taken as at
most 4095; each of the sender's intents is counted, and goes at its second report. A band code above 3 drops the frame
whole: no report is taken and none is counted. -/
def Obligations.DrawTaken : Prop :=
  ∀ (sender : Station) (w0 w1 w2 w3 : BitVec 16) (s : State),
    s.mode ≠ .configuring → s.line.busOff = false → sender ≠ s.own →
    (s.peers.Pairwise fun a b => a.station < b.station) →
    (∀ band, Band.ofCode (w0.toNat / 8192) = some band →
      Answers (exec (.draw sender w0 w1 w2 w3) s) fun t =>
        (t.peers.Pairwise fun a b => a.station < b.station)
          ∧ (∀ e, e ∈ t.peers ↔ (e.station ≠ sender ∧ e ∈ s.heardFrame.peers)
              ∨ e = ⟨sender, ⟨min (w0.toNat % 8192) 4095, min (w1.toNat % 8192) 4095, min (w2.toNat % 8192) 4095,
                  min (w3.toNat % 8192) 4095⟩, band, 0, false⟩)
          ∧ t.line.silence = some 0
          ∧ (s.Plain → t.intents.overflow = s.intents.overflow
              ∧ t.intents.entries = (s.intents.entries.filter fun e => e.station != sender || e.reports == 0).map
                fun e => if e.station = sender then { e with reports := e.reports + 1 } else e))
      ∧ (Band.ofCode (w0.toNat / 8192) = none → Answers (exec (.draw sender w0 w1 w2 w3) s) fun t =>
          t.peers = s.heardFrame.peers ∧ t.budget = s.budget ∧ t.line.silence = some 0
            ∧ (s.Plain → t = s.heardFrame.echoed))

/-- DRAW, PEER_ENTRY_STALE (R47, R60): after a report, or a LIVE entry's turn to STALE, the worst band is the lowest of
the own band and the bands of the LIVE entries, with its allowance; a drop raises BAND_DROP and takes an extra round at
once, which reports; no other change takes one. -/
def Obligations.PeerBandSetsTheAllowance : Prop :=
  ∀ (sender st : Station) (w0 w1 w2 w3 : BitVec 16) (own peer held : Band) (k : BudgetConfig) (s : State),
    s.mode ≠ .configuring → s.BandSound →
    s.budget.config = some k → s.budget.ownBand = some own → s.budget.worst = some held →
    let judged := fun (queue : List TxEntry) (t : State) => ∃ worst : Band,
      t.budget.worst = some worst
        ∧ (worst = own ∨ ∃ e ∈ t.peers, e.stale = false ∧ e.band = worst)
        ∧ worst.code ≤ own.code ∧ (∀ e ∈ t.peers, e.stale = false → worst.code ≤ e.band.code)
        ∧ t.budget.allowance = some (match worst with
            | .charging => k.aCfg
            | .battery => k.aCfg * k.pB / 100
            | .low => k.aCfg * k.pL / 100
            | .crank => 0)
        ∧ (worst.code < held.code → t.eventSet .bandDrop = true
            ∧ (s.mode ≠ .clashed → s.mode ≠ .limp → ∃ v, ∃ x ∈ t.line.queue, x.frame = .draw own v))
        ∧ (held.code ≤ worst.code → t.events.flags = s.events.flags ∧ (s.Plain → t.line.queue = queue))
    (s.line.busOff = false → sender ≠ s.own → Band.ofCode (w0.toNat / 8192) = some peer →
        Answers (exec (.draw sender w0 w1 w2 w3) s) fun t =>
          (∃ e ∈ t.peers, e.station = sender ∧ e.stale = false ∧ e.band = peer) ∧ judged s.heardFrame.line.queue t)
      ∧ Answers (exec (.peerEntryStale st) s) fun t =>
          (∀ e ∈ t.peers, e.station = st → 350 ≤ e.age → e.stale = true) ∧ judged s.line.queue t

/-- PEER_ENTRY_STALE and PEER_ENTRY_REMOVAL (R45, R46): a LIVE entry whose age has reached 350 ms turns STALE, keeping its
report; a STALE one whose age has reached 1000 ms is removed, or held at that age while the part is ISOLATED; an entry
whose age has not reached the threshold, as after a DRAW taken first, stays. Model's choice: the commands name a station
(log 32). -/
def Obligations.PeerEntriesAgeOut : Prop :=
  ∀ (st : Station) (s : State),
    (Answers (exec (.peerEntryStale st) s) fun t =>
      t.peers = s.peers.map fun e =>
        if e.station = st ∧ e.stale = false ∧ 350 ≤ e.age then { e with stale := true } else e)
      ∧ (s.mode ≠ .isolated → exec (.peerEntryRemoval st) s
          = .next { s with peers := s.peers.filter fun e => !(e.station == st && e.stale && 1000 ≤ e.age) })
      ∧ (s.mode = .isolated → exec (.peerEntryRemoval st) s
          = .next { s with
              peers := s.peers.map fun e =>
                if e.station = st ∧ e.stale = true ∧ 1000 ≤ e.age then { e with age := 1000 } else e })

/-- INTENT (R50, R55, R181): a tier from 1 to 3 makes the sender's entry at the end of line order, in place of its earlier
one for that channel; a list of 24 takes no new entry and overflows; tier 0 and codes above 3 are ignored. In LIMP an
INTENT frame is heard and dropped. -/
def Obligations.IntentTaken : Prop :=
  ∀ (sender : Station) (ch : BitVec 5) (tier : Byte) (booking : BitVec 16) (window : Byte) (s : State),
    s.mode ≠ .configuring → s.line.busOff = false → sender ≠ s.own → s.Plain →
    let old := fun e : IntentEntry => e.station == sender && e.channel.val == ch.toNat
    let entry := fun tr : Tier =>
      (⟨sender, ⟨ch.toNat, ch.isLt⟩, tr, min booking.toNat 4095, window.toNat, 0, 0, none⟩ : IntentEntry)
    let es := s.intents.entries
    (s.mode = .limp → exec (.intent sender ch tier booking window) s = .next s.heardFrame.echoed)
      ∧ (s.mode ≠ .limp → ∀ tr : Tier, tr.val = tier.toNat → tr ≠ 0 → es.any old ∨ es.length < 24 →
          exec (.intent sender ch tier booking window) s
            = .next { s.heardFrame with
                intents := ⟨es.filter (fun e => !old e) ++ [entry tr], s.intents.overflow⟩ }.echoed)
      ∧ (s.mode ≠ .limp → 1 ≤ tier.toNat → tier.toNat ≤ 3 → es.any old = false → 24 ≤ es.length →
          exec (.intent sender ch tier booking window) s
            = .next { s.heardFrame with
                intents := ⟨es, some 500⟩
                events := { s.events with flags := s.events.flags ||| 32#11 } }.echoed)
      ∧ (tier.toNat = 0 ∨ 3 < tier.toNat →
          exec (.intent sender ch tier booking window) s = .next s.heardFrame.echoed)

/-- WITHDRAW, PEER_INTENT_AGE_EXPIRY and OVERFLOW_TIMER_EXPIRY (R53 to R55): the entries they remove, an age expiry those
whose age has reached 500 ms; the overflow timer removes none. In LIMP a WITHDRAW frame is heard and dropped (R50, R56).
Model's choice: an expiry acts only where its timer stands at its end (log 2). -/
def Obligations.IntentsAreRemoved : Prop :=
  ∀ (sender : Station) (ch : BitVec 5) (s : State),
    let named := fun e : IntentEntry => e.station == sender && e.channel.val == ch.toNat
    let without := fun p : IntentEntry → Bool =>
      ({ s with intents := ⟨s.intents.entries.filter fun e => !p e, s.intents.overflow⟩ } : State)
    (s.mode ≠ .configuring → s.mode ≠ .limp → s.line.busOff = false → sender ≠ s.own → s.Plain →
      exec (.withdraw sender ch) s = .next { s.heardFrame with intents := (without named).intents }.echoed)
      ∧ (s.mode = .limp → s.line.busOff = false → sender ≠ s.own → s.Plain →
          exec (.withdraw sender ch) s = .next s.heardFrame.echoed)
      ∧ (sender ≠ s.own →
          exec (.peerIntentAgeExpiry sender ch) s = .next (without fun e => named e && 500 ≤ e.age))
      ∧ (s.intents.overflow = some 0 →
          exec .overflowTimerExpiry s = .next { s with intents := ⟨s.intents.entries, none⟩ })
      ∧ (s.intents.overflow ≠ some 0 → exec .overflowTimerExpiry s = .next s)

/-! ### Budget (chapter 4) -/

/-- HOLD_EXPIRY (R49, R52, R62 to R66, R80, R115): an own entry at the end of its hold is decided by the five conditions.
Admitted, its channel books the present R7 value and starts in a free slot, slot 0 first, or, over a HOT switch, is
stopped by THERMAL and takes none; refused, it waits in DEFERRED and a WITHDRAW is queued. The entry goes in either case.
Model's choices: no allowance counts as 0 (log 34), and an expiry acts only where its timer stands at its end (log 2). -/
def Obligations.HoldExpiryDecides : Prop :=
  ∀ (c : Channel) (s : State) (xs zs : List IntentEntry) (y : IntentEntry),
    s.Plain → (s.chan c).state = .pending →
    s.sequencer.slot0 ≠ some c → s.sequencer.slot1 ≠ some c → s.intents.entries = xs ++ y :: zs →
    (∀ e ∈ xs, ¬(e.station = s.own ∧ e.channel.val = c.val)) → y.station = s.own → y.channel.val = c.val →
    let r := s.chan c
    let prior := xs.filter (fun e => e.tier ≤ y.tier) ++ zs.filter (fun e => e.tier < y.tier)
    let admitted := s.mode = .running
      ∧ s.intents.entries.length < 24 ∧ s.intents.overflow = none
      ∧ s.tierSum y.tier + (prior.map (·.booking)).sum + y.booking ≤ s.allowanceNow
      ∧ s.bankBooked (bankOf c) + y.booking ≤ s.budgetConfig.feedRating[bankOf c]
      ∧ (y.window ≤ 2 ∨ (prior.filter fun e => 2 < e.window && e.age < e.window * 10).length < s.budgetConfig.inrushLimit)
    (y.hold ≠ some 0 → exec (.holdExpiry c) s = .next s)
      ∧ (y.hold = some 0 → Answers (exec (.holdExpiry c) s) fun t =>
        t.intents = ⟨xs ++ zs, s.intents.overflow⟩
          ∧ (admitted → r.prot.hot = false → (t.chan c).booking = r.cfg.bookingFor r.duty false
              ∧ (s.sequencer.slot0 = none →
                  (t.chan c).state = .starting ∧ t.sequencer = ⟨some c, s.sequencer.slot1, []⟩)
              ∧ (s.sequencer.slot0 ≠ none → s.sequencer.slot1 = none →
                  (t.chan c).state = .starting ∧ t.sequencer = ⟨s.sequencer.slot0, some c, []⟩)
              ∧ (s.sequencer.slot0 ≠ none → s.sequencer.slot1 ≠ none →
                  (t.chan c).state = .slotwait ∧ t.sequencer = ⟨s.sequencer.slot0, s.sequencer.slot1, [c]⟩))
          ∧ (admitted → r.prot.hot = true → r.StoppedHot (t.chan c) ∧ t.sequencer = s.sequencer)
          ∧ (¬admitted → (t.chan c).state = .deferred ∧ (t.chan c).booking = 0
              ∧ (s.mode ≠ .clashed → s.queued (fun e => e.frame.kind != 1) < 5 →
                  ∃ e ∈ t.line.queue, e.frame = .withdraw c))
          ∧ ∀ d, d ≠ c → t.chan d = (s.chan d).followed)

/-- BUDGET_ROUND (R57, R58, R77): the periodic round restarts its timer and queues the draw report of the bookings it
leaves and the own band; in CLASHED it builds none, and in LIMP after a clash the one built is discarded (R157). -/
def Obligations.RoundReportsTheBookings : Prop :=
  ∀ (s : State) (own : Band), s.Plain → s.budget.round ≠ none → s.budget.ownBand = some own →
    Answers (exec .budgetRound s) fun t =>
      t.budget.round = some 100
        ∧ (s.mode = .listening ∨ s.mode = .running ∨ s.mode = .isolated ∨ (s.mode = .limp ∧ s.line.clashMark = false) →
            (t.line.queue.filter fun e => e.frame.kind == 1) = [⟨.draw own ⟨min (t.ownTier 0) 4095, min (t.ownTier 1) 4095,
              min (t.ownTier 2) 4095, min (t.ownTier 3) 4095⟩, 0, none⟩])
        ∧ (s.mode = .clashed ∨ (s.mode = .limp ∧ s.line.clashMark = true) → (t.line.queue.filter fun e => e.frame.kind == 1)
            = s.line.queue.filter fun e => e.frame.kind == 1)

/-- BUDGET_ROUND (R67 to R72, R163): a round with shed tier t* leaves no channel of a higher tier number booked and gives
up the own share of the excess in t*. It first throttles the eligible channels, from the highest down, and then sheds,
from the highest down, once none is left to throttle, stopping once the share is met; a share of 0 touches nothing in t*;
with none exceeded it sheds nothing; tier 0 runs on. The overbooked indicator follows S_0 > A, and a round that sets it
raises SAFETY_OVERBOOKED, the one part event of a round. Model's choice: no allowance counts as 0 (log 34). -/
def Obligations.RoundShedsItsShare : Prop :=
  ∀ (s : State) (star : Tier), s.Plain → s.Ruled → s.budget.round ≠ none →
    s.mode = .listening ∨ s.mode = .running ∨ s.mode = .isolated ∨ s.mode = .clashed →
    let a := s.allowanceNow
    let above := ((s.peers.filter fun e => s.own < e.station).map fun e => e.bookings.get star).sum
    let excess := s.tierSum star - a
    let share := if above < excess then min (s.ownTier star) (excess - above) else 0
    let booked := fun c : Channel => (s.chan c).cfg.tier = star ∧ (s.chan c).state.books = true
    let eligible := fun c : Channel =>
      let r := s.chan c
      r.cfg.tier = star ∧ r.cfg.dutyMode = .slowCycle ∧ r.cfg.throttleable = true ∧ r.throttled = false
        ∧ (r.state = .slotwait ∨ r.state = .starting ∨ r.state = .on) ∧ r.cfg.bookingFor r.duty true < r.cfg.nominal
    Answers (exec .budgetRound s) fun t =>
      let isShed := fun c : Channel => (t.chan c).state = .shed ∧ (t.chan c).events.shed = true
      let isThrottled := fun c : Channel =>
        let r := s.chan c
        (t.chan c).throttled = true ∧ (t.chan c).booking = r.cfg.bookingFor r.duty true
          ∧ (t.chan c).state = if r.state = .on then .cycling else r.state
      t.budget.overbooked = decide (a < s.tierSum 0)
        ∧ t.events.flags = s.events.flags ||| (if a < s.tierSum 0 ∧ s.budget.overbooked = false then 16#11 else 0#11)
        ∧ ((a < s.tierSum 0 ∧ star = 1)
              ∨ (s.tierSum 0 ≤ a ∧ star ≠ 0 ∧ a < s.tierSum star ∧ ∀ k, k ≠ 0 → k < star → s.tierSum k ≤ a) →
            (∀ c, star < (s.chan c).cfg.tier → (s.chan c).state.books = true → isShed c)
              ∧ t.ownTier star + share ≤ s.ownTier star
              ∧ (share = 0 → ∀ c, booked c → t.chan c = (s.chan c).followed)
              ∧ (∀ c, booked c → isShed c ∨ (eligible c ∧ isThrottled c) ∨ t.chan c = (s.chan c).followed)
              ∧ (∀ c d, booked c → isShed c → c < d → booked d → isShed d)
              ∧ (∀ c d, booked c → isShed c → eligible d → isShed d ∨ isThrottled d)
              ∧ (∀ c d, eligible c → isThrottled c → c < d → eligible d → isShed d ∨ isThrottled d)
              ∧ (∀ c, booked c → isShed c → (∀ d, d < c → booked d → ¬isShed d) →
                  s.ownTier star < t.ownTier star + share + (s.chan c).booking)
              ∧ (∀ c, eligible c → isThrottled c → (∀ d, d < c → eligible d → ¬isThrottled d) →
                  (∀ d, booked d → ¬isShed d) →
                  s.ownTier star + (t.chan c).booking < t.ownTier star + share + (s.chan c).booking))
        ∧ (∀ c, (s.chan c).cfg.tier = 0 → (s.chan c).state.books = true → (s.chan c).throttled = false →
            t.chan c = (s.chan c).followed)
        ∧ ((∀ k, s.tierSum k ≤ a) → ∀ c, (s.chan c).state.books = true → (t.chan c).state.books = true)

/-- BUDGET_ROUND (R73 to R76, R160): with no tier exceeded, the one candidate of lowest tier number and then channel
number is restored where it keeps the margin: un-throttled in its state, CYCLING returning to ON, or from SHED to PENDING.
It and every DEFERRED channel with a request announce, in order of tier number and channel number; the queue takes the
first five INTENTs and refuses the rest, which wait in DEFERRED. Nothing else changes at a channel. -/
def Obligations.RoundRestores : Prop :=
  ∀ s : State, s.Plain → s.budget.round ≠ none → s.mode = .running →
    (∀ k, s.tierSum k ≤ s.allowanceNow) → s.line.queue = [] →
    (∀ c, (s.chan c).state = .shed → (s.chan c).throttled = false) →
    let candidate := fun c : Channel =>
      let r := s.chan c
      (r.state = .shed ∧ r.eff ≠ 0)
        ∨ (r.throttled = true ∧ (r.state = .slotwait ∨ r.state = .starting ∨ r.state = .cycling))
    let first := fun c : Channel => candidate c ∧ ∀ d, d ≠ c → candidate d → s.before c d
    let passes := fun c : Channel =>
      let r := s.chan c
      let added := if r.state = .shed then r.cfg.bookingFor r.duty false else r.cfg.nominal - r.cfg.bookingFor r.duty true
      s.tierSum 3 + added + s.budgetConfig.margin ≤ s.allowanceNow
    let restored := fun c : Channel => first c ∧ passes c ∧ (s.chan c).state ≠ .shed
    let announces := fun c : Channel =>
      ((s.chan c).state = .deferred ∧ (s.chan c).eff ≠ 0) ∨ (first c ∧ passes c ∧ (s.chan c).state = .shed)
    Answers (exec .budgetRound s) fun t =>
      (∀ c, restored c →
          let r := s.chan c
          let q := t.chan c
          q.throttled = false ∧ q.booking = r.cfg.bookingFor r.duty false ∧ q.eff = r.eff ∧ q.start = r.start
            ∧ q.state = if r.state = .cycling then .on else r.state)
        ∧ (∃ l : List Channel, l.Pairwise s.before ∧ (∀ c, c ∈ l ↔ announces c)
            ∧ (t.line.queue.filter fun e => e.frame.kind == 0).map (·.frame) = (l.take 5).map s.intentOf
            ∧ (∀ c ∈ l.take 5, (t.chan c).state = .pending) ∧ ∀ c ∈ l.drop 5, (t.chan c).state = .deferred)
        ∧ ∀ c, ¬restored c → ¬announces c → t.chan c = (s.chan c).followed

/-! ### Starting (chapter 5) -/

/-- PWM_PERIOD_START (R86, R87, R145): a FILAMENT-accepting channel of duty above 64 ramps from 64 to its duty over the
periods of its window; every other period takes the duty field. Outside STARTING and ON no period is under way. Model's
choices: no change where no period is under way (log 4), or before the present one has run its 5 ms (log 2). -/
def Obligations.PeriodStartSetsTheSpan : Prop :=
  ∀ (c : Channel) (u : StartRecord) (s : State),
    let r := s.chan c
    let p := 2 * u.window
    let k := min (u.period + 1) (p - 1)
    let d : Byte := if r.cfg.accepted.filament = true ∧ 64 < r.duty.toNat
      then BitVec.ofNat 8 (64 + (r.duty.toNat - 64) * k / (p - 1)) else r.duty
    (5 ≤ r.pwmPos → r.state = .starting → r.start = some u → exec (.pwmPeriodStart c) s
        = .next (s.setChan c { r with start := some { u with period := k, profile := d }, span := d.toNat, pwmPos := 0 }))
      ∧ (5 ≤ r.pwmPos → r.state = .on → exec (.pwmPeriodStart c) s
        = .next (s.setChan c { r with span := (if r.cfg.dutyMode = .pwm then r.duty.toNat else 255), pwmPos := 0 }))
      ∧ ((r.state ≠ .starting ∧ r.state ≠ .on) ∨ r.pwmPos < 5 → exec (.pwmPeriodStart c) s = .next s)

/-- WINDOW_END and the sample that it waits for (R81, R90 to R98, R120, R121): the slot is freed; four limited periods
among the last eight fail the start; otherwise the class of the early and late currents is stored, whatever is judged of
it, and a channel that is not stopped runs on, in CYCLING when throttled. A freed slot goes to the first channel of the
slot queue, which starts. Model's choices: a window end taken before the window's last sample waits for it (log 41), an
expiry acts only where its timer stands at its end (log 2), a late current of 0 for a duty of 0 (log 34), and a start
record that says whether the channel's sample of that millisecond had been taken at the entry (log 15). -/
def Obligations.WindowEndIdentifies : Prop :=
  ∀ (c d : Channel) (i : Nat) (degrees : Int) (rest : List Channel) (u : StartRecord) (s : State),
    (s.chan c).state = .starting → (s.chan c).start = some u →
    let r := s.chan c
    let judged := fun (u : StartRecord) (t : State) =>
      let failed := 4 ≤ (u.limited.filter fun p => 2 * u.window ≤ p + 8).length
      let early := u.early.sum / 2
      let late := u.late.sum / 10 * 255 / r.duty.toNat
      let cls : LoadClass :=
        if 0 < r.cfg.openThreshold ∧ late < r.cfg.openThreshold then .openLoad
        else if late = 0 then .resistive
        else if 30 ≤ 10 * early / late then .filament
        else if 15 ≤ 10 * early / late then .motor
        else .resistive
      let accepted := (cls = .filament ∧ r.cfg.accepted.filament = true) ∨ (cls = .motor ∧ r.cfg.accepted.motor = true)
        ∨ (cls = .resistive ∧ r.cfg.accepted.resistive = true)
      let q := t.chan c
      let runsOn :=
        q.state = (if r.throttled then .cycling else .on) ∧ q.booking = r.booking ∧ q.cleanRun = some 0 ∧ q.start = none
          ∧ q.idClass = cls ∧ q.span = (if r.throttled then 255 else if r.cfg.dutyMode = .pwm then r.duty.toNat else 255)
      let stopped := fun (k : FaultKind) (n : Nat) =>
        q.state = .latched ∧ q.active = some k ∧ q.booking = 0 ∧ q.span = 0 ∧ q.faults = r.faults.add k
          ∧ q.events.fault = true ∧ q.retryCount = n
      t.sequencer.slot0 ≠ some c ∧ t.sequencer.slot1 ≠ some c
        ∧ (failed → q.idClass = r.idClass ∧ q.idDue = r.idDue
            ∧ (r.cfg.startfailMode = .latch → stopped .startfail r.retryCount)
            ∧ (r.cfg.startfailMode = .retry → r.cfg.retryLimit ≤ r.retryCount → stopped .startfail (r.retryCount + 1))
            ∧ (r.cfg.startfailMode = .retry → r.retryCount < r.cfg.retryLimit →
                q.state = .cooldown ∧ q.active = some .startfail ∧ q.faults = r.faults.add .startfail
                  ∧ q.retryCount = r.retryCount + 1 ∧ q.retry = some (r.cfg.retryTime * 100)))
        ∧ (¬failed → q.idClass = cls)
        ∧ (¬failed → cls ≠ .openLoad → accepted ∨ r.idDue = false → runsOn ∧ q.idDue = false)
        ∧ (¬failed → cls ≠ .openLoad → ¬accepted → r.idDue = true → stopped .mismatch r.retryCount ∧ q.idDue = true)
        ∧ (¬failed → cls = .openLoad → r.cfg.openMode = .latch → stopped .openLoad r.retryCount ∧ q.idDue = true)
        ∧ (¬failed → cls = .openLoad → r.cfg.openMode = .report →
            runsOn ∧ q.idDue = true ∧ q.faults = r.faults.add .openLoad)
        ∧ (¬failed → cls = .openLoad → r.cfg.openMode = .ignore → runsOn ∧ q.idDue = r.idDue ∧ q.faults = r.faults)
        ∧ ∀ e, e ≠ c → t.chan e = (s.chan e).followed
    let full := u.window * 10
    let v := if r.span * 5 ≤ (r.pwmPos - 1) * 255 then 0 else min i 1023
    let limit := min (r.cfg.shortThreshold - 1) (3 * r.cfg.iTrip)
    let last : StartRecord := { u with
      samples := full
      early := if u.samples < 2 then u.early ++ [v] else u.early
      late := (u.late ++ [v]).drop (u.late.length + 1 - 10)
      limited := if limit < v ∧ u.samples / 5 ∉ u.limited then u.limited ++ [u.samples / 5] else u.limited }
    (u.left ≠ 0 → exec (.windowEnd c) s = .next s)
      ∧ (u.left = 0 → u.samples + 1 = full → u.ending = false →
          exec (.windowEnd c) s = .next (s.setChan c { r with start := some { u with ending := true } }))
      ∧ (u.left = 0 → u.samples + 1 ≠ full ∨ u.ending = true → s.Plain → Answers (exec (.windowEnd c) s) (judged u))
      ∧ (u.ending = true → u.samples + 1 = full → v < r.cfg.shortThreshold ∨ r.prot.shortMark = false →
          r.prot.hot = false → degrees < 170 → s.Plain →
          Answers (exec (.currentSample c i degrees) s) (judged last))
      ∧ (u.left = 0 → u.samples + 1 ≠ full ∨ u.ending = true → (∀ b ∈ s.bind.bindings, b.source.toNat < 232) →
          s.SlotsSound → s.sequencer.queue = d :: rest → (s.chan d).prot.hot = false →
          s.sequencer.slot0 = some c ∨ s.sequencer.slot1 = some c → Answers (exec (.windowEnd c) s) fun t =>
            let w := (s.chan d).cfg.inrushWindow
            t.sequencer = ⟨if s.sequencer.slot0 = some c then some d else s.sequencer.slot0,
                if s.sequencer.slot0 = some c then s.sequencer.slot1 else some d, rest⟩
              ∧ (t.chan d).state = .starting
              ∧ (t.chan d).booking = (s.chan d).cfg.bookingFor (s.chan d).duty (s.chan d).throttled
              ∧ ∃ p, (t.chan d).start = some ⟨w, w * 10, 0, p, [], 0, [], [], false, (s.chan d).prot.sampled⟩)

/-! ### Protection and faults (chapters 6 and 7) -/

/-- CURRENT_SAMPLE (R84, R85, R88, R92, R101, R108): a sample joins the last ten, 0 while the switch is open; while the
output is open nothing else changes; in ON and in the on-phase of CYCLING a sample at the short threshold sets the mark
and a lower one clears it. In a start a sample joins the record too, the first two as early samples and each as the newest
of ten late ones; one above the limit marks its period and, but for the last of the period, opens the switch for the rest
of it. A second sample in a row at the threshold is the SHORT of another statement. Model's choices: the number of a
start's sample names its period (log 15), and the open switch as the spans give it (log 37). -/
def Obligations.SamplesAreTaken : Prop :=
  ∀ (c : Channel) (i : Nat) (degrees : Int) (u : StartRecord) (s : State), s.Plain →
    (s.chan c).prot.hot = false → degrees < 170 → (s.chan c).prot.lastTen.length = 10 →
    let r := s.chan c
    let v := if r.conducting = false ∨ r.span * 5 ≤ r.pwmPos * 255 then 0 else min i 1023
    let ten := r.prot.lastTen.tail ++ [v]
    let limit := min (r.cfg.shortThreshold - 1) (3 * r.cfg.iTrip)
    let marked := decide (r.cfg.shortThreshold ≤ v)
    let noShort := v < r.cfg.shortThreshold ∨ r.prot.shortMark = false
    (r.conducting = false → exec (.currentSample c i degrees) s
        = .next (s.setChan c { r with prot := { r.prot with lastTen := ten, sampled := true } }).echoed)
      ∧ (r.state = .on ∨ (∃ left, r.state = .cycling ∧ r.phase = some ⟨true, left⟩) → r.start = none → noShort →
          exec (.currentSample c i degrees) s
        = .next (s.setChan c { r with prot := { r.prot with
            lastTen := ten, sinceOn := min (r.prot.sinceOn + 1) 10, sampled := true, shortMark := marked } }).echoed)
      ∧ (r.state = .starting → r.start = some u → u.ending = false → u.samples < u.window * 10 → noShort →
          exec (.currentSample c i degrees) s
        = .next (s.setChan c { r with
            prot := { r.prot with lastTen := ten, sampled := true, shortMark := marked }
            span := if limit < v ∧ u.period ≤ u.samples / 5 ∧ u.samples % 5 ≠ 4 then 0 else r.span
            start := some { u with
              samples := u.samples + 1
              early := if u.samples < 2 then u.early ++ [v] else u.early
              late := (u.late ++ [v]).drop (u.late.length + 1 - 10)
              limited := if limit < v ∧ u.samples / 5 ∉ u.limited then u.limited ++ [u.samples / 5]
                else u.limited } }).echoed)

/-- CURRENT_SAMPLE (R84, R97, R108, R114, R115, R120, R121, R127): in STARTING, ON and the on-phase of CYCLING a second
sample in a row at the short threshold is a SHORT, and in SLOTWAIT, STARTING, ON and CYCLING a reading of 170 °C is a
THERMAL; each opens the output, aborts a start without a judgement of its class, and takes its action, LATCH to LATCHED,
RETRY to COOLDOWN or, past the retry limit, to LATCHED. The slot of an aborted start is handed on before the channel
leaves STARTING, so that the STATUS of the channel that takes it is queued first. In COOLDOWN a THERMAL joins the fault
record and sets the FAULT event; the active fault, the retry count and the retry timer stand. Model's choice: the open
switch as the spans give it (log 37). -/
def Obligations.ShortAndThermalStopTheChannel : Prop :=
  ∀ (c d : Channel) (i : Nat) (degrees : Int) (rest : List Channel) (s : State), (s.chan c).prot.hot = false →
    (∀ u, (s.chan c).start = some u → u.ending = false) →
    let r := s.chan c
    let conducts := r.state = .starting ∨ r.state = .on ∨ ∃ left, r.state = .cycling ∧ r.phase = some ⟨true, left⟩
    let v := if r.span * 5 ≤ r.pwmPos * 255 then 0 else min i 1023
    let short := conducts ∧ r.cfg.shortThreshold ≤ v ∧ r.prot.shortMark = true
    let off := fun t : State =>
      (t.chan c).booking = 0 ∧ (t.chan c).span = 0 ∧ (t.chan c).throttled = false ∧ (t.chan c).cleanRun = none
        ∧ (t.chan c).start = none ∧ (t.chan c).phase = none ∧ (t.chan c).idClass = r.idClass ∧ (t.chan c).idDue = r.idDue
        ∧ t.sequencer.slot0 ≠ some c ∧ t.sequencer.slot1 ≠ some c
        ∧ (t.chan c).events.fault = true ∧ (t.chan c).eff = r.eff ∧ (t.chan c).duty = r.duty
    let latched := fun (k : FaultKind) (n : Nat) (t : State) => off t ∧ (t.chan c).state = .latched
      ∧ (t.chan c).active = some k ∧ (t.chan c).faults = r.faults.add k ∧ (t.chan c).retryCount = n
    let retries := fun (k : FaultKind) (t : State) =>
      (r.cfg.retryLimit < r.retryCount + 1 → latched k (r.retryCount + 1) t)
        ∧ (r.retryCount + 1 ≤ r.cfg.retryLimit → off t ∧ (t.chan c).state = .cooldown ∧ (t.chan c).active = some k
            ∧ (t.chan c).faults = r.faults.add k ∧ (t.chan c).retryCount = r.retryCount + 1
            ∧ (t.chan c).retry = some (r.cfg.retryTime * 100))
    let alone := fun t : State => ∀ d, d ≠ c → t.chan d = (s.chan d).followed
    (s.Plain → short → degrees < 170 → r.cfg.shortMode = .latch →
        Answers (exec (.currentSample c i degrees) s) fun t => latched .short r.retryCount t ∧ alone t)
      ∧ (s.Plain → short → degrees < 170 → r.cfg.shortMode = .retry →
          Answers (exec (.currentSample c i degrees) s) fun t => retries .short t ∧ alone t)
      ∧ (s.Plain → ¬short → 170 ≤ degrees →
          r.state = .slotwait ∨ r.state = .starting ∨ r.state = .on ∨ r.state = .cycling →
          Answers (exec (.currentSample c i degrees) s) fun t => retries .thermal t ∧ (t.chan c).prot.hot = true ∧ alone t)
      ∧ (s.Plain → r.state = .cooldown → r.prot.lastTen.length = 10 → 170 ≤ degrees →
          Answers (exec (.currentSample c i degrees) s) fun t =>
            t.chan c = { r with
              prot := { r.prot with lastTen := r.prot.lastTen.tail ++ [0], sampled := true, hot := true }
              faults := r.faults.add .thermal, events := { r.events with fault := true } }.followed
            ∧ (s.replyRoom → ∃ x ∈ t.line.queue, x.frame = .status c) ∧ alone t)
      ∧ ((∀ b ∈ s.bind.bindings, b.source.toNat < 232) → s.SlotsSound → s.sequencer.queue = d :: rest →
          (s.chan d).prot.hot = false → s.sequencer.slot0 = some c ∨ s.sequencer.slot1 = some c → s.line.queue = [] →
          short → degrees < 170 → r.cfg.shortMode = .latch → Answers (exec (.currentSample c i degrees) s) fun t =>
            latched .short r.retryCount t ∧ (t.chan d).state = .starting
              ∧ t.sequencer = ⟨if s.sequencer.slot0 = some c then some d else s.sequencer.slot0,
                  if s.sequencer.slot0 = some c then s.sequencer.slot1 else some d, rest⟩
              ∧ t.line.queue.map (·.frame) = [.status d, .status c])

/-- UPDATE (R102, R103, R106): θ becomes θ + floor((I² − θ) / 2^s), never beyond I², and stays from 0 to 1,046,529; the
cool indication and the next update follow. Model's choice: I is the mean of the last ten samples taken (log 15). -/
def Obligations.UpdateMovesTheHeat : Prop :=
  ∀ (c : Channel) (s : State), (s.chan c).prot.update ≠ none →
    let r := s.chan c
    let mean := r.prot.lastTen.sum / 10
    Answers (exec (.update c) s) fun t =>
      ((t.chan c).prot.theta : Int) = r.prot.theta + ⌊(((mean : Int) ^ 2 - r.prot.theta : Int) : ℚ) / 2 ^ r.cfg.heatExp⌋
        ∧ (r.prot.theta ≤ mean ^ 2 → r.prot.theta ≤ (t.chan c).prot.theta ∧ (t.chan c).prot.theta ≤ mean ^ 2)
        ∧ (mean ^ 2 ≤ r.prot.theta → mean ^ 2 ≤ (t.chan c).prot.theta ∧ (t.chan c).prot.theta ≤ r.prot.theta)
        ∧ (mean ^ 2 < r.prot.theta → (t.chan c).prot.theta < r.prot.theta)
        ∧ (r.HeatSound → (t.chan c).prot.theta ≤ 1046529)
        ∧ (t.chan c).prot.cool = decide ((t.chan c).prot.theta ≤ r.cfg.iTrip ^ 2 / 4)
        ∧ (t.chan c).prot.update = some 10

/-- UPDATE (R105, R110, R112): in ON and in the on-phase of CYCLING the updated θ at or above I_t² is an OVERLOAD, taken
as its mode says; below it a judged update moves the stall and open timers and nothing stops. Model's choices: the mean
judged is that of the last ten samples taken (log 15), and an update is judged once ten samples have been taken since the
entry to ON (log 18). -/
def Obligations.UpdateJudgesTheChannel : Prop :=
  ∀ (c : Channel) (s : State), s.Plain → (s.chan c).prot.update ≠ none →
    (s.chan c).state = .on ∨ (∃ left, (s.chan c).state = .cycling ∧ (s.chan c).phase = some ⟨true, left⟩) →
    (s.chan c).cfg.overloadMode = .latch ∨ (s.chan c).cfg.overloadMode = .retry → 1 ≤ (s.chan c).cfg.retryTime →
    let r := s.chan c
    let mean := r.prot.lastTen.sum / 10
    Answers (exec (.update c) s) fun t =>
      let q := t.chan c
      (r.cfg.iTrip ^ 2 ≤ q.prot.theta → q.booking = 0 ∧ q.span = 0 ∧ q.active = some .overload
          ∧ q.faults = r.faults.add .overload ∧ q.events.fault = true
          ∧ (r.cfg.overloadMode = .latch → q.state = .latched ∧ q.retryCount = r.retryCount)
          ∧ (r.cfg.overloadMode = .retry → q.retryCount = r.retryCount + 1
              ∧ q.state = if r.cfg.retryLimit < r.retryCount + 1 then .latched else .cooldown))
        ∧ (q.prot.theta < r.cfg.iTrip ^ 2 →
          q.state = r.state ∧ q.phase = r.phase ∧ q.booking = r.booking ∧ q.faults = r.faults
          ∧ (r.prot.sinceOn < 10 → q.prot.stallTimer = r.prot.stallTimer ∧ q.prot.openTimer = r.prot.openTimer)
          ∧ (10 ≤ r.prot.sinceOn → r.cfg.stallThreshold ≠ 0 →
              q.prot.stallTimer = (if r.cfg.stallThreshold ≤ mean then r.prot.stallTimer + 1 else 0)
                ∧ (mean < r.cfg.stallThreshold → q.prot.stallMark = false))
          ∧ (10 ≤ r.prot.sinceOn → r.cfg.stallThreshold = 0 → q.prot.stallTimer = 0)
          ∧ (10 ≤ r.prot.sinceOn →
              q.prot.openTimer = (if mean < r.cfg.openThreshold then r.prot.openTimer + 1 else 0)
                ∧ (r.cfg.openThreshold ≤ mean → q.prot.openMark = false)))
        ∧ ∀ d, d ≠ c → t.chan d = (s.chan d).followed

/-- STALL and OPEN (R110, R112, R113, R120 to R122): handed once the timer has reached its count with its mark clear, and
not before, in ON and in the on-phase of CYCLING; the mark is set and the mode decides. A recorded OPEN sets the
identification due flag. Model's choice: no change while the count does not stand (log 3). -/
def Obligations.StallAndOpenAreHanded : Prop :=
  ∀ (c : Channel) (s : State), s.Plain →
    (s.chan c).state = .on ∨ (∃ left, (s.chan c).state = .cycling ∧ (s.chan c).phase = some ⟨true, left⟩) →
    let r := s.chan c
    let latched := fun (k : FaultKind) (t : State) => (t.chan c).state = .latched ∧ (t.chan c).active = some k
      ∧ (t.chan c).booking = 0 ∧ (t.chan c).span = 0 ∧ (t.chan c).faults = r.faults.add k
      ∧ (t.chan c).events.fault = true ∧ (t.chan c).retryCount = r.retryCount
    let runs := fun (recorded : FaultRecord) (t : State) => (t.chan c).state = r.state ∧ (t.chan c).phase = r.phase
      ∧ (t.chan c).active = r.active ∧ (t.chan c).booking = r.booking ∧ (t.chan c).span = r.span
      ∧ (t.chan c).cleanRun = r.cleanRun
      ∧ (t.chan c).faults = recorded ∧ (t.chan c).retryCount = r.retryCount
    let stallDue := r.cfg.stallThreshold ≠ 0 ∧ r.prot.stallMark = false ∧ r.cfg.stallTime * 10 ≤ r.prot.stallTimer
    let openDue := r.prot.openMark = false ∧ 50 ≤ r.prot.openTimer
    (¬stallDue → exec (.stall c) s = .next s)
      ∧ (stallDue → Answers (exec (.stall c) s) fun t =>
          (r.cfg.stallMode = .latch → latched .stall t)
            ∧ (r.cfg.stallMode = .retry → r.retryCount < r.cfg.retryLimit → (t.chan c).state = .cooldown
                ∧ (t.chan c).active = some .stall ∧ (t.chan c).retryCount = r.retryCount + 1
                ∧ (t.chan c).retry = some (r.cfg.retryTime * 100) ∧ (t.chan c).booking = 0)
            ∧ (r.cfg.stallMode = .report → runs (r.faults.add .stall) t ∧ (t.chan c).prot.stallMark = true
                ∧ (t.chan c).events.fault = true)
            ∧ ∀ d, d ≠ c → t.chan d = (s.chan d).followed)
      ∧ (¬openDue → exec (.openLoad c) s = .next s)
      ∧ (openDue → Answers (exec (.openLoad c) s) fun t =>
          (r.cfg.openMode = .latch → latched .openLoad t ∧ (t.chan c).idDue = true)
            ∧ (r.cfg.openMode = .report → runs (r.faults.add .openLoad) t ∧ (t.chan c).prot.openMark = true
                ∧ (t.chan c).idDue = true ∧ (t.chan c).events.fault = true)
            ∧ (r.cfg.openMode = .ignore → runs r.faults t ∧ (t.chan c).prot.openMark = true
                ∧ (t.chan c).idDue = r.idDue ∧ (t.chan c).events = r.events)
            ∧ ∀ d, d ≠ c → t.chan d = (s.chan d).followed)

/-- RETRY_TIMER_EXPIRY, CURRENT_SAMPLE, UPDATE and CLEAN_RUN_TIMER_EXPIRY (R17, R114, R124 to R126): a channel leaves
COOLDOWN at the event that completes the three conditions (its timer expired, its wire cool after an OVERLOAD, its switch
NORMAL), by the table of R126, its retry count kept; a clean run returns the count to 0. Model's choices: an expiry acts
only where its timer stands at its end (log 2), and no change with nothing to act on (log 4). -/
def Obligations.CooldownEndsAndCleanRun : Prop :=
  ∀ (c : Channel) (i : Nat) (degrees : Int) (s : State),
    let r := s.chan c
    let ready := (r.active = some .overload → r.prot.cool = true) ∧ r.prot.hot = false
    let out := s.feed.feeds[bankOf c] = some .under ∨ s.feed.feeds[bankOf c] = some .over ∨ s.feed.temp = .shutdown
    let exits := fun t : State =>
      let q := t.chan c
      q.active = none ∧ q.retry = none ∧ q.retryCount = r.retryCount ∧ q.faults = r.faults
        ∧ (out → q.state = .inhibited ∧ q.causes.shutdown = decide (s.feed.temp = .shutdown)
            ∧ q.causes.feed = decide (s.feed.feeds[bankOf c] = some .under ∨ s.feed.feeds[bankOf c] = some .over))
        ∧ (¬out → r.eff = 0 → q.state = .off)
        ∧ (¬out → r.eff ≠ 0 → r.cfg.tier = 0 → s.mode ≠ .configuring →
            q.state = .starting ∧ q.booking = r.cfg.bookingFor r.duty false)
        ∧ (¬out → r.eff ≠ 0 → r.cfg.tier ≠ 0 → s.mode = .running → s.line.queue = [] → q.state = .pending)
        ∧ (¬out → r.eff ≠ 0 → r.cfg.tier ≠ 0 →
            s.mode = .listening ∨ s.mode = .isolated ∨ s.mode = .clashed → q.state = .deferred)
    (r.state ≠ .cooldown ∨ r.retry ≠ some 0 → exec (.retryTimerExpiry c) s = .next s)
      ∧ (r.state = .cooldown → r.retry = some 0 → s.Plain → Answers (exec (.retryTimerExpiry c) s) fun t =>
          (¬ready → t.chan c = r.followed) ∧ (ready → exits t)
            ∧ ∀ d, d ≠ c → t.chan d = (s.chan d).followed)
      ∧ (r.state = .cooldown → s.Plain → r.retry = some 0 → r.prot.hot = true →
          (r.active = some .overload → r.prot.cool = true) → Answers (exec (.currentSample c i degrees) s) fun t =>
            (degrees < 150 → exits t) ∧ (150 ≤ degrees → (t.chan c).state = .cooldown ∧ (t.chan c).active = r.active)
              ∧ ∀ d, d ≠ c → t.chan d = (s.chan d).followed)
      ∧ (r.state = .cooldown → s.Plain → r.retry = some 0 → r.prot.hot = false → r.active = some .overload →
          r.prot.update ≠ none → Answers (exec (.update c) s) fun t =>
            ((t.chan c).prot.theta ≤ r.cfg.iTrip ^ 2 / 4 → exits t)
              ∧ (r.cfg.iTrip ^ 2 / 4 < (t.chan c).prot.theta → (t.chan c).state = .cooldown ∧ (t.chan c).active = r.active)
              ∧ ∀ d, d ≠ c → t.chan d = (s.chan d).followed)
      ∧ (r.cleanRun ≠ none →
          exec (.cleanRunTimerExpiry c) s = .next (s.setChan c { r with retryCount := 0, cleanRun := none }))
      ∧ (r.cleanRun = none → exec (.cleanRunTimerExpiry c) s = .next s)

/-- FEED_MEASUREMENT and DIE_TEMPERATURE_MEASUREMENT (R134, R135, R141, R172): a bank's feed state by the table of R134,
its first measurement by its own levels; a loss raises FEED, and a first measurement above 16.0 V makes the reset warm.
The part temperature state by the table of R141, DIE_HOT at each passage out of NORMAL and SHUTDOWN at each entry to
SHUTDOWN. Model's choice: the kind is decided bank by bank, cold until a first measurement lies above 16.0 V (log 12). -/
def Obligations.FeedsAndTemperatureAreJudged : Prop :=
  ∀ (b : Bank) (v : Nat) (x : Int) (s : State),
    let old := s.feed.feeds[b]
    let new : FeedState := match old with
      | none => if v ≤ 180 then .under else if v < 300 then .inRange else .over
      | some .inRange => if v < 160 then .under else if 320 < v then .over else .inRange
      | some .under => if 320 < v then .over else if 180 < v then .inRange else .under
      | some .over => if v < 160 then .under else if v < 300 then .inRange else .over
    let loss := (old = none ∨ old = some .inRange) ∧ new ≠ .inRange
    let was := s.feed.temp
    let temp : PartTemp := match was with
      | .normal => if 160 ≤ x then .shutdown else if 130 ≤ x then .warning else .normal
      | .warning => if 160 ≤ x then .shutdown else if x < 120 then .normal else .warning
      | .shutdown => if x < 120 then .normal else if x < 145 then .warning else .shutdown
    (Answers (exec (.feedMeasurement b v) s) fun t =>
      t.feed = { s.feed with feeds := s.feed.feeds.set b (some new) }
        ∧ (loss → t.events.flags = s.events.flags ||| 4#11) ∧ (¬loss → t.events.flags = s.events.flags)
        ∧ (old ≠ none ∨ s.loader.resetKind = some .serviceRestart → t.loader = s.loader)
        ∧ (old = none → s.loader.resetKind ≠ some .serviceRestart → t.loader = { s.loader with
            resetKind := some (if 160 < v ∨ s.loader.resetKind = some .warm then .warm else .cold) }))
      ∧ Answers (exec (.dieTemperatureMeasurement x) s) fun t =>
          t.feed = { s.feed with temp := temp }
            ∧ t.events.flags = s.events.flags ||| (if was = .normal ∧ temp ≠ .normal then 2#11 else 0#11)
                ||| (if was ≠ .shutdown ∧ temp = .shutdown then 1#11 else 0#11)

/-- FEED_MEASUREMENT and DIE_TEMPERATURE_MEASUREMENT (R13, R21, R134, R135, R142): a loss, a first measurement that is
UNDER or OVER among them, inhibits the bank's channels and a shutdown every channel, but for those in COOLDOWN and
LATCHED, which take no cause; in LIMP CH0 to CH3 alone are handed either. A PENDING channel's announcement is undone: its
INTENT leaves the queue, or, once sent, its own entry goes and a WITHDRAW is queued unless the limits of the queue refuse
it. Other channels are untouched. -/
def Obligations.LossAndShutdownInhibit : Prop :=
  ∀ (b : Bank) (v : Nat) (x : Int) (s : State), s.Plain →
    let takes := fun c : Channel =>
      (s.chan c).state ≠ .cooldown ∧ (s.chan c).state ≠ .latched ∧ (s.mode = .limp → c.val < 4)
    let inhibited := fun (c : Channel) (t : State) =>
      let q := t.chan c
      q.state = .inhibited ∧ q.booking = 0 ∧ q.span = 0 ∧ q.start = none ∧ q.throttled = false
        ∧ t.sequencer.slot0 ≠ some c ∧ t.sequencer.slot1 ≠ some c
    let undone := fun (c : Channel) (t : State) =>
      (∀ y ∈ t.line.queue, ∀ tr bk w, y.frame ≠ .intent c tr bk w)
        ∧ ((∀ y ∈ s.line.queue, ∀ tr bk w, y.frame ≠ .intent c tr bk w) →
            ∀ e ∈ t.intents.entries, ¬(e.station = s.own ∧ e.channel.val = c.val))
        ∧ ((∀ y ∈ s.line.queue, ∀ d tr bk w, y.frame ≠ .intent d tr bk w) → s.mode ≠ .clashed →
            (∃ e ∈ s.intents.entries, e.station = s.own ∧ e.channel.val = c.val) →
            (∃ y ∈ t.line.queue, y.frame = .withdraw c)
              ∨ (5 ≤ t.queued (fun y => y.frame.kind != 1) ∧ t.queued (fun y => y.frame.kind == 5) = 0))
    let stopped := fun (cause : Causes → Causes) (c : Channel) (t : State) =>
      ((s.chan c).state ≠ .inhibited → inhibited c t) ∧ ((s.chan c).state = .pending → undone c t)
        ∧ (t.chan c).causes = cause (s.chan c).causes ∧ (t.chan c).eff = (s.chan c).eff
    ((s.feed.feeds[b] = some .inRange ∧ (v < 160 ∨ 320 < v)) ∨ (s.feed.feeds[b] = none ∧ (v ≤ 180 ∨ 300 ≤ v)) →
        Answers (exec (.feedMeasurement b v) s) fun t =>
          ∀ c, (bankOf c ≠ b ∨ ¬takes c → t.chan c = (s.chan c).followed)
            ∧ (bankOf c = b → takes c → stopped (fun k => { k with feed := true }) c t))
      ∧ (s.feed.temp ≠ .shutdown → 160 ≤ x → Answers (exec (.dieTemperatureMeasurement x) s) fun t =>
          ∀ c, (¬takes c → t.chan c = (s.chan c).followed)
            ∧ (takes c → stopped (fun k => { k with shutdown := true }) c t))

/-- FEED_MEASUREMENT and DIE_TEMPERATURE_MEASUREMENT (R136, R143, R21, R115, R160): a feed recovery takes FEED from the
bank's channels and a passage out of SHUTDOWN takes SHUTDOWN from every channel. Those left with no cause run again: OFF
without a request, tier 0 to STARTING or, over a HOT switch, to its THERMAL, the others to PENDING in RUNNING, each with
its INTENT, in order of tier number and channel number, or to DEFERRED once the limits of the queue refuse one, and to
DEFERRED elsewhere. In LIMP a recovery is handed to CH0 to CH3 alone. -/
def Obligations.RecoveryReleases : Prop :=
  ∀ (b : Bank) (v : Nat) (x : Int) (s : State), s.Plain → s.mode ≠ .configuring →
    let handed := fun c : Channel => s.mode = .limp → c.val < 4
    let released := fun (r : ChannelRecord) (c : Channel) (t : State) =>
      let q := t.chan c
      (r.eff = 0 → q.state = .off)
        ∧ (r.eff ≠ 0 → r.cfg.tier = 0 → r.prot.hot = false →
            q.state = .starting ∧ q.booking = r.cfg.bookingFor r.duty false)
        ∧ (r.eff ≠ 0 → r.cfg.tier = 0 → r.prot.hot = true → r.StoppedHot q)
        ∧ (r.eff ≠ 0 → r.cfg.tier ≠ 0 → s.mode = .running →
            (q.state = .pending ∧ ∃ e ∈ t.line.queue, e.frame = s.intentOf c)
              ∨ (q.state = .deferred ∧ 5 ≤ t.queued (fun e => e.frame.kind != 1)
                  ∧ t.queued (fun e => e.frame.kind == 5) = 0))
        ∧ (r.eff ≠ 0 → r.cfg.tier ≠ 0 → s.mode ≠ .running → s.mode ≠ .limp → q.state = .deferred)
    let ordered := fun t : State => ∃ l : List Channel, l.Pairwise s.before
      ∧ (t.line.queue.filter fun e => e.frame.kind == 0).map (·.frame)
          = (s.line.queue.filter fun e => e.frame.kind == 0).map (·.frame) ++ l.map s.intentOf
    ((s.feed.feeds[b] = some .under ∧ 180 < v ∧ v ≤ 320) ∨ (s.feed.feeds[b] = some .over ∧ 160 ≤ v ∧ v < 300) →
        Answers (exec (.feedMeasurement b v) s) fun t => ordered t
          ∧ ∀ c,
              let r := s.chan c
              (bankOf c ≠ b ∨ ¬handed c → t.chan c = r.followed)
                ∧ (bankOf c = b → handed c → r.state ≠ .inhibited ∨ r.causes.shutdown = true ∨ r.causes.config = true →
                    t.chan c = { r with causes := { r.causes with feed := false } }.followed)
                ∧ (bankOf c = b → handed c → r.state = .inhibited → r.causes.shutdown = false → r.causes.config = false →
                    released r c t))
      ∧ (s.feed.temp = .shutdown → x < 145 → Answers (exec (.dieTemperatureMeasurement x) s) fun t => ordered t
          ∧ ∀ c,
              let r := s.chan c
              (¬handed c → t.chan c = r.followed)
                ∧ (handed c → r.state ≠ .inhibited ∨ r.causes.feed = true ∨ r.causes.config = true →
                  t.chan c = { r with causes := { r.causes with shutdown := false } }.followed)
                ∧ (handed c → r.state = .inhibited → r.causes.feed = false → r.causes.config = false → released r c t))

/-- KSUP_MEASUREMENT, BAND_FALL and BAND_RISE (R138 to R140, R60): the fall timer counts measurements below the present
floor, the rise timer those at or above the next floor plus 0.4 V; before the thresholds take effect a measurement is
taken and not judged. 20 below the floor take the own band to that of the present measurement, 500 at the rise level one
step up; both timers then stand at 0, the Budget Unit takes the band, and a lower worst band is a BAND_DROP. Model's
choice: no change while the count does not stand (log 3). -/
def Obligations.OwnBandFollowsKsup : Prop :=
  ∀ (v : Nat) (th : Thresholds) (b : Band) (s : State),
    let floor : Option Nat := match b with
      | .charging => some th.charging
      | .battery => some th.battery
      | .low => some th.low
      | .crank => none
    let rises : Option Nat := match b with
      | .charging => none
      | .battery => some (th.charging + 4)
      | .low => some (th.battery + 4)
      | .crank => some (th.low + 4)
    let fallen : Band := if th.charging ≤ s.feed.ksup then .charging else if th.battery ≤ s.feed.ksup then .battery
      else if th.low ≤ s.feed.ksup then .low else .crank
    let risen : Band := match b with
      | .crank => .low
      | .low => .battery
      | .battery => .charging
      | .charging => .charging
    let changed := fun (n : Band) (t : State) =>
      t.feed = { s.feed with ownBand := some n, fall := 0, rise := 0 } ∧ t.budget.ownBand = some n
        ∧ ∀ (k : BudgetConfig) (held : Band), s.budget.config = some k → s.budget.worst = some held →
            (∀ e ∈ s.peers, e.stale = true) →
            t.budget.worst = some n
              ∧ t.budget.allowance = some (match n with
                  | .charging => k.aCfg
                  | .battery => k.aCfg * k.pB / 100
                  | .low => k.aCfg * k.pL / 100
                  | .crank => 0)
              ∧ (n.code < held.code → t.eventSet .bandDrop = true)
              ∧ (held.code ≤ n.code → t.events.flags = s.events.flags)
    (s.feed.thresholds = none ∨ s.feed.ownBand = none →
        exec (.ksupMeasurement v) s = .next { s with feed := { s.feed with ksup := v } })
      ∧ (s.feed.thresholds = some th → s.feed.ownBand = some b →
        exec (.ksupMeasurement v) s = .next { s with feed := { s.feed with
            ksup := v
            fall := (if floor.any (v < ·) then min (s.feed.fall + 1) 20 else 0)
            rise := (if rises.any (· ≤ v) then min (s.feed.rise + 1) 500 else 0) } }
          ∧ (20 ≤ s.feed.fall → Answers (exec .bandFall s) (changed fallen))
          ∧ (s.feed.fall < 20 → exec .bandFall s = .next s)
          ∧ (500 ≤ s.feed.rise → Answers (exec .bandRise s) (changed risen))
          ∧ (s.feed.rise < 500 → exec .bandRise s = .next s))

/-! ### Duty, auto-off and overrides (chapter 9) -/

/-- PHASE_TIMER_EXPIRY (R148, R108, R111, R36, R38): the on-phase ends with the output open for m+1 s, the off-phase with
it closed at full conduction for n+1 s; the stall and open detectors start again. A channel that follows this one's echo
is evaluated anew with the echo's new value and takes a source change notice, which reloads its auto-off time while it
runs. Model's choices: an expiry acts only where its timer stands at its end (log 2), and a notice restarts a stopped
auto-off timer of a running channel too, by R154 and against R151 (log 17). -/
def Obligations.PhasesAlternate : Prop :=
  ∀ (c d : Channel) (on : Bool) (left : Nat) (b : Binding) (s : State), (s.chan c).state = .cycling →
    let r := s.chan c
    let again : Protection :=
      { r.prot with stallTimer := 0, stallMark := false, openTimer := 0, openMark := false, sinceOn := 0 }
    (r.phase = some ⟨on, left⟩ → left ≠ 0 → exec (.phaseTimerExpiry c) s = .next s)
      ∧ (r.phase = some ⟨true, 0⟩ → s.Plain → exec (.phaseTimerExpiry c) s
        = .next (s.setChan c { r with
            span := 0, phase := some ⟨false, (r.cfg.offCount + 1) * 1000⟩, prot := { again with shortMark := false } }).echoed)
      ∧ (r.phase = some ⟨false, 0⟩ → s.Plain → exec (.phaseTimerExpiry c) s
        = .next (s.setChan c { r with
            span := 255, phase := some ⟨true, (r.cfg.onCount + 1) * 1000⟩, prot := again }).echoed)
      ∧ (r.phase = some ⟨on, 0⟩ → r.duty ≠ 0 → s.echoes = [] → s.sequencer.queue = [] → s.bind.bindings = [b] →
          b.source.toNat = 232 + c.val → b.target = d → d ≠ c → Answers (exec (.phaseTimerExpiry c) s) fun t =>
            let v : Byte := if on then 0 else r.duty
            let out : Byte := match b.mode with
              | .switch => if b.threshold.toNat ≤ v.toNat then 255 else 0
              | .inverse => if v.toNat < b.threshold.toNat then 255 else 0
              | .level => v
            let f := s.chan d
            let runs := f.state = .starting ∨ f.state = .on ∨ f.state = .cycling
            (t.chan c).echoTaken = v ∧ t.bind.bindings = [{ b with fresh := true, held := out, present := out }]
              ∧ (t.chan d).raw = out
              ∧ (f.raw = out → t.chan d = { f with
                  autoOff := if runs then (if f.cfg.autoOffTime = 0 then none else some (f.cfg.autoOffTime * 10000))
                    else f.autoOff }.followed)
              ∧ (out = 0 → f.raw ≠ 0 → f.override = none → f.hold = false → f.eff ≠ 0 → f.state = .on →
                  (t.chan d).state = .off))

/-- AUTO_OFF_EXPIRY and OVERRIDE_EXPIRY (R5, R152 to R154, R170), and SIGNAL and DEBOUNCE_EXPIRY where they reload (R36,
R150, R151): the auto-off timer stops with the AUTO_OFF event, and holds a requested channel off unless an override runs
it; at an override's end the channel follows its raw request again, or the hold. A changed value of a source and an edge
of the activity input reload the full time while the channel runs, whatever becomes of the raw request; a taken value that
is no change does not. Model's choices: an expiry acts only where its timer stands at its end (log 2), and a reload
restarts a stopped timer of a running channel too, by R154 and against R151 (log 17). -/
def Obligations.AutoOffAndOverrideEnd : Prop :=
  ∀ (c : Channel) (o : Override) (i : WiredInput) (sender : Station) (n v : Byte) (b : Binding) (e : SignalEntry)
    (s : State), s.Plain →
    (s.chan c).state = .starting ∨ (s.chan c).state = .on ∨ (s.chan c).state = .cycling →
    (s.chan c).eff = (s.chan c).effectiveRequest → (s.chan c).eff ≠ 0 →
    let r := s.chan c
    let full := fun r : ChannelRecord => if r.cfg.autoOffTime = 0 then none else some (r.cfg.autoOffTime * 10000)
    let isOff := fun t : State => (t.chan c).state = .off ∧ (t.chan c).eff = 0 ∧ (t.chan c).duty = 0
      ∧ (t.chan c).booking = 0 ∧ (t.chan c).span = 0 ∧ (t.chan c).autoOff = none
    (r.autoOff ≠ some 0 → exec (.autoOffExpiry c) s = .next s)
      ∧ (r.autoOff = some 0 → r.override = none → Answers (exec (.autoOffExpiry c) s) fun t =>
          isOff t ∧ (t.chan c).hold = true ∧ (t.chan c).events.autoOff = true
            ∧ ∀ d, d ≠ c → t.chan d = (s.chan d).followed)
      ∧ (r.autoOff = some 0 → r.override = some o → exec (.autoOffExpiry c) s
          = .next (s.setChan c { r with
              autoOff := none, events := { r.events with autoOff := true }, hold := r.hold || r.raw != 0 }).echoed)
      ∧ (r.override = some o → o.left ≠ 0 → exec (.overrideExpiry c) s = .next s)
      ∧ (r.override = some o → o.left = 0 → Answers (exec (.overrideExpiry c) s) fun t =>
          (t.chan c).override = none ∧ (t.chan c).hold = r.hold ∧ (t.chan c).autoOff
              = (if r.hold = true ∨ r.raw = 0 then none else r.autoOff)
            ∧ (r.hold = true ∨ r.raw = 0 → isOff t)
            ∧ (r.hold = false → r.raw ≠ 0 → (t.chan c).state = r.state ∧ (t.chan c).eff = r.raw
                ∧ (r.raw ≠ o.level → (t.chan c).duty = r.cfg.dutyFor r.raw
                    ∧ (t.chan c).booking = r.cfg.bookingFor (r.cfg.dutyFor r.raw) r.throttled))
            ∧ ∀ d, d ≠ c → t.chan d = (s.chan d).followed)
      ∧ (s.mode ≠ .configuring → s.mode ≠ .limp → s.line.busOff = false → sender ≠ s.own → s.bind.bindings = [b] →
          s.bind.table = [e] → e.signal = n → n.toNat < 224 → b.source = n → b.target = c →
          b.mask.getLsbD sender.val = true →
          (match b.mode with
            | .switch => if b.threshold.toNat ≤ v.toNat then 255 else 0
            | .inverse => if v.toNat < b.threshold.toNat then 255 else 0
            | .level => v : Byte) = r.raw →
          Answers (exec (.signal sender [(n, v)]) s) fun t =>
            t.chan c = { r with autoOff := if v = e.value then r.autoOff else full r }.followed
              ∧ ∀ d, d ≠ c → t.chan d = (s.chan d).followed)
      ∧ ((s.wired[i]).timer = some 0 → s.bind.bindings = [] → s.mode ≠ .limp →
          Answers (exec (.debounceExpiry i) s) fun t => ∀ d,
            let f := s.chan d
            let runs := f.state = .starting ∨ f.state = .on ∨ f.state = .cycling
            t.chan d = { f with
              autoOff := if f.cfg.activityInput = some i ∧ runs then full f else f.autoOff }.followed)

/-! ### The coach line (chapter 10) -/

/-- Every command that is a received frame (R156, R157, R158): in CONFIGURING it is dropped, and a controller in bus-off
does not receive it; a frame bearing the own station number is a clash frame, handed to no block. The first since reset
raises CLASH and takes LISTENING, RUNNING and ISOLATED to CLASHED, where no INTENT-kind frame waits and no DRAW is on the
line; LIMP stays LIMP; a later one is only heard. The channel of each INTENT discarded at the clash goes to DEFERRED.
Whatever is commanded afterwards, an INTENT-kind frame handed to the queue in CLASHED, and a DRAW in LIMP, is discarded at
once. Model's choice: a DRAW that waits keeps its entry in CLASHED (log 44). -/
def Obligations.ClashFramesAreHandedToNoBlock : Prop :=
  ∀ (i : Instr) (s : State),
    (∀ st, s.Plain → frameFrom i = some st →
      (s.mode = .configuring ∨ s.line.busOff = true → exec i s = .next s.echoed)
        ∧ (s.mode ≠ .configuring → s.line.busOff = false → st = s.own → s.line.clashMark = true → exec i s
            = .next { s with line := { s.line with silence := some 0, lineLoss := false } }.echoed)
        ∧ (s.mode ≠ .configuring → s.line.busOff = false → st = s.own → s.line.clashMark = false →
            Answers (exec i s) fun t =>
            t.line.clashMark = true ∧ t.events.flags = s.events.flags ||| 256#11 ∧ t.line.silence = some 0
              ∧ t.line.lineLoss = false ∧ t.bind = s.bind ∧ t.intents = s.intents ∧ t.service = s.service
              ∧ (s.mode = .limp ∨ s.mode = .clashed → t.mode = s.mode ∧ t.line.queue = s.line.queue ∧ t.peers = s.peers)
              ∧ (s.mode ≠ .limp → s.mode ≠ .clashed → t.mode = .clashed ∧ t.line.listen = none
                  ∧ (∀ e ∈ t.line.queue, e.frame.kind ≠ 0 ∧ (e.frame.kind = 1 → e.attempt = none))
                  ∧ (∀ c, t.chan c = (s.chan c).followed
                      ∨ ((s.chan c).state = .pending ∧ (t.chan c).state = .deferred))
                  ∧ ∀ x ∈ s.line.queue, ∀ c tr bk w, x.frame = .intent c tr bk w → (s.chan c).state = .pending →
                      (t.chan c).state = .deferred)))
      ∧ ∀ t, exec i s = .next t →
          (s.mode = .clashed → ∀ x ∈ t.line.queue, x.frame.kind = 0 → ∃ y ∈ s.line.queue, y.frame = x.frame)
            ∧ (s.mode = .limp → s.line.clashMark = true →
                ∀ x ∈ t.line.queue, x.frame.kind = 1 → ∃ y ∈ s.line.queue, y.frame = x.frame)

/-- OTHER_FRAME_RECEIVED, SILENCE_TIMEOUT, BUS_OFF, BUS_OFF_RECOVERY and LISTEN_EXPIRY (R156, R158, R159, R177): any frame
restarts the silence timer and ends a line loss, an ISOLATED part then listening for 300 ms; silence and bus-off begin one
loss, with the ISOLATED event at its start alone; the listen ends in RUNNING. Model's choices: bus-off fails the attempt
under way (log 20), an expiry acts only where its timer stands at its end (log 2), and an INTENT that waits is held back
while the part listens (log 39). -/
def Obligations.LineLossAndListen : Prop :=
  ∀ (st : Station) (s : State),
    let lost := fun x : State =>
      if s.line.lineLoss then x
      else
        let running := s.mode = .listening ∨ s.mode = .running
        { x with
          loader := { x.loader with mode := if running then .isolated else s.mode }
          line := { x.line with lineLoss := true, listen := if running then none else s.line.listen }
          events := { x.events with flags := x.events.flags ||| 128#11 } }
    (s.Plain → s.mode ≠ .configuring → s.line.busOff = false → st ≠ s.own →
        exec (.otherFrameReceived st) s = .next s.heardFrame.echoed)
      ∧ ((∃ x, s.line.silence = some x ∧ 500 ≤ x) → exec .silenceTimeout s = .next (lost s))
      ∧ ((∀ x, s.line.silence = some x → x < 500) → exec .silenceTimeout s = .next s)
      ∧ exec .busOff s = .next (lost { s with line := { s.line with
          busOff := true, queue := s.line.queue.map fun e => { e with attempt := none } } })
      ∧ exec .busOffRecovery s = .next { s with line := { s.line with busOff := false } }
      ∧ (s.mode = .listening → s.line.listen = some 0 → exec .listenExpiry s = .next { s with
          loader := { s.loader with mode := .running }, line := { s.line with listen := none } })
      ∧ (s.mode ≠ .listening ∨ s.line.listen ≠ some 0 → exec .listenExpiry s = .next s)

/-- TRANSMISSION_START and TRANSMISSION_FAILURE (R23, R56, R157, R158, R161, R165): a free controller is offered the
oldest frame of the lowest kind number, as it reads at that moment, of those that the part mode lets out: no INTENT in
LISTENING and no DRAW in CLASHED; a failed attempt returns the frame to its place. Model's choices: no change where
nothing can be offered (log 4), and the frames held back keep their places (log 39, log 44). -/
def Obligations.AttemptsTakeTheLowestKind : Prop :=
  ∀ (xs zs : List TxEntry) (e : TxEntry) (s : State),
    let free := s.line.busOff = false ∧ ∀ x ∈ s.line.queue, x.attempt = none
    let barred := fun x : TxEntry => (s.mode = .listening ∧ ∃ c tr b w, x.frame = .intent c tr b w)
      ∨ (s.mode = .clashed ∧ x.frame.kind = 1)
    (¬free ∨ (∀ x ∈ s.line.queue, barred x) → exec .transmissionStart s = .next s)
      ∧ (free → s.line.queue = xs ++ e :: zs → ¬barred e → (∀ x ∈ xs, ¬barred x → e.frame.kind < x.frame.kind) →
          (∀ z ∈ zs, ¬barred z → e.frame.kind ≤ z.frame.kind) →
          exec .transmissionStart s = .next { s with line := { s.line with
            queue := xs ++ { e with attempt := some (s.compose e.frame) } :: zs } })
      ∧ exec .transmissionFailure s
          = .next { s with line := { s.line with queue := s.line.queue.map fun x => { x with attempt := none } } }

/-- TRANSMISSION_COMPLETION (R51, R55, R161, R167, R171): the frame leaves the queue. An own INTENT makes the own entry at
the end of line order with a hold of 40 ms, or finds the list full and is withdrawn; the last reply ends its request;
other completions have no owner. Model's choice: after RESTART's last reply the restart is owed, and carried out by the
SERVICE_RESTART that the part then queues (log 24). -/
def Obligations.CompletionIsHandedToItsOwner : Prop :=
  ∀ (xs zs : List TxEntry) (e : TxEntry) (s : State), s.Plain → s.line.queue = xs ++ e :: zs →
    (∀ x ∈ xs, x.attempt = none) → e.attempt ≠ none →
    let left : State := { s with line := { s.line with queue := xs ++ zs } }
    (∀ c tr b w, e.frame = .intent c tr b w → s.intents.entries.length < 24 → exec .transmissionCompletion s
        = .next { left with intents := ⟨s.intents.entries
            ++ [(⟨s.own, ⟨c.val, by omega⟩, tr, b, w, 0, 0, some 40⟩ : IntentEntry)], s.intents.overflow⟩ }.echoed)
      ∧ (∀ c tr b w, e.frame = .intent c tr b w → 24 ≤ s.intents.entries.length → (s.chan c).state = .pending →
          Answers (exec .transmissionCompletion s) fun t =>
            t.intents = ⟨s.intents.entries, some 500⟩ ∧ t.events.flags = s.events.flags ||| 32#11
              ∧ (t.chan c).state = .deferred
              ∧ (s.mode ≠ .clashed → ((xs ++ zs).filter fun x => x.frame.kind != 1).length < 5 →
                  ∃ x ∈ t.line.queue, x.frame = .withdraw c))
      ∧ (∀ dst data b q, e.frame = .reply dst data b → s.service.request = some q → q.replies = [] →
          (∀ x ∈ xs ++ zs, ∀ dst' data', x.frame ≠ .reply dst' data' true) → exec .transmissionCompletion s
            = .next { left with service := (if q.isRestart then { s.service with restartDue := true }
                else { s.service with request := none }) }.echoed)
      ∧ (e.frame.kind = 1 ∨ e.frame.kind = 5 ∨ (∃ c, e.frame = .withdraw c) →
          exec .transmissionCompletion s = .next left.echoed)

/-- QUEUE_EXPIRY (R12, R162, R167): a frame that has waited its time, 200 ms for an INTENT or WITHDRAW, 500 ms for a reply
and 1000 ms for a STATUS, goes; an INTENT's channel goes to DEFERRED with no WITHDRAW, a reply counts as sent; a DRAW has
no expiry, and an empty place nothing to expire. Model's choices: the command names a place (log 31), an expiry acts only
at its end (log 2), no change with nothing to expire (log 4), and RESTART's reply leaves the restart owed (log 24). -/
def Obligations.QueuedFramesExpire : Prop :=
  ∀ (i : Fin 6) (e : TxEntry) (s : State), s.Plain →
    (s.line.queue[i.val]? = none → exec (.queueExpiry i) s = .next s)
      ∧ (s.line.queue[i.val]? = some e →
          let left : State := { s with line := { s.line with queue := s.line.queue.eraseIdx i.val } }
          let wait := if e.frame.kind = 0 then 200 else if e.frame.kind = 4 then 500 else 1000
          (e.frame.kind = 1 ∨ e.age < wait → exec (.queueExpiry i) s = .next s)
            ∧ (wait ≤ e.age → e.frame.kind = 5 ∨ (∃ c, e.frame = .withdraw c) →
                exec (.queueExpiry i) s = .next left.echoed)
            ∧ (∀ c tr b w, e.frame = .intent c tr b w → wait ≤ e.age → Answers (exec (.queueExpiry i) s) fun t =>
                (t.chan c).state = (if (s.chan c).state = .pending then .deferred else (s.chan c).state)
                  ∧ t.intents = s.intents ∧ (∀ x ∈ t.line.queue, x.frame.kind = 0 → x ∈ left.line.queue)
                  ∧ ∀ d, d ≠ c → t.chan d = (s.chan d).followed)
            ∧ (∀ dst data b q, e.frame = .reply dst data b → s.service.request = some q → q.replies = [] → wait ≤ e.age →
                (∀ x ∈ left.line.queue, ∀ dst' data', x.frame ≠ .reply dst' data' true) → exec (.queueExpiry i) s
                  = .next { left with service := (if q.isRestart then { s.service with restartDue := true }
                      else { s.service with request := none }) }.echoed))

/-- STATUS_ROLL (R160, R165, R166): the pointed channel is offered and the pointer moves on, whatever became of the offer:
a STATUS already queued keeps its place, and one without room is dropped. Model's choice: no change while the timer is
stopped (log 4). -/
def Obligations.StatusRollMovesOn : Prop :=
  ∀ s : State,
    let c := s.events.rollPointer
    let rolled : State := { s with events := { s.events with rollPointer := c + 1, roll := some 50 } }
    (s.events.roll = none → exec .statusRoll s = .next s)
      ∧ (s.events.roll ≠ none → (∃ e ∈ s.line.queue, e.frame = .status c) ∨ ¬s.replyRoom →
          exec .statusRoll s = .next rolled)
      ∧ (s.events.roll ≠ none → (∀ e ∈ s.line.queue, e.frame ≠ .status c) → s.replyRoom →
          exec .statusRoll s = .next (rolled.withFrame (.status c)))

/-- SERVICE_REPLY_QUEUED and REPLY_LIST_DISCARD (R160, R167, R171): the first waiting reply joins the queue where there is
room, or takes the entry of the newest STATUS, or waits; replies discarded at 500 ms end the request with those already
queued. Model's choices: no change with no reply waiting (log 4) or before the 500 ms have passed (log 2), and a discarded
reply of RESTART leaves the restart owed (log 24). -/
def Obligations.RepliesAreHandedOn : Prop :=
  ∀ (q : ServiceRequest) (d : List Byte) (rest : List (List Byte)) (xs zs : List TxEntry) (c : Channel) (e : TxEntry)
    (s : State), s.service.request = some q →
    let handed := fun queue : List TxEntry => ({ s with
      line := { s.line with queue := queue ++ [⟨.reply q.requester d true, 0, none⟩] }
      service := { s.service with request := some { q with replies := rest } } } : State)
    (q.replies = [] → exec .serviceReplyQueued s = .next s)
      ∧ (q.replies = d :: rest → s.replyRoom → exec .serviceReplyQueued s = .next (handed s.line.queue))
      ∧ (q.replies = d :: rest → ¬s.replyRoom → s.line.queue = xs ++ e :: zs → e.frame = .status c →
          (∀ z ∈ zs, z.frame.kind ≠ 5) → exec .serviceReplyQueued s = .next (handed (xs ++ zs)))
      ∧ (q.replies = d :: rest → ¬s.replyRoom → (∀ x ∈ s.line.queue, x.frame.kind ≠ 5) →
          exec .serviceReplyQueued s = .next s)
      ∧ (q.age < 500 → exec .replyListDiscard s = .next s)
      ∧ (500 ≤ q.age → exec .replyListDiscard s = .next { s with service :=
          if ∃ x ∈ s.line.queue, x.frame.ofRequest = true then { s.service with request := some { q with replies := [] } }
          else if q.isRestart then
            { s.service with request := some { q with replies := [] }, restartDue := true }
          else { s.service with request := none } })

/-! ### Service commands (R167 to R171, R182) -/

/-- Every service command (R167, R182): ignored from a station outside the service mask; BUSY while a request is in
progress; REJECTED for an unknown code, and in LIMP for CLEAR_FAULT and OVERRIDE. None of these puts a request in
progress. -/
def Obligations.RequestsAreGated : Prop :=
  ∀ (i : Instr) (sender : Station) (byte0 : Byte) (s : State), s.Plain → s.mode ≠ .configuring → s.line.busOff = false →
    sender ≠ s.own → frameFrom i = some sender → requestByte i = some byte0 →
    let answered := fun result : Byte => exec i s = .next (s.heardFrame.withFrame (.reply sender [byte0, result] false)).echoed
    (s.service.mask.getLsbD sender.val = false → exec i s = .next s.heardFrame.echoed)
      ∧ (s.service.mask.getLsbD sender.val = true → s.service.request ≠ none → s.replyRoom → answered 1)
      ∧ (s.Serves sender → s.replyRoom → (∃ b, i = .unknownCommand sender b) → answered 2)
      ∧ (s.Serves sender → s.replyRoom → s.mode = .limp → byte0 = 1 ∨ byte0 = 6 → answered 2)
      ∧ (s.Serves sender → s.replyRoom → (∃ b, 20 ≤ b.toNat ∧ (i = .readChannel sender b
            ∨ (i = .clearFault sender b ∧ b ≠ 255) ∨ ∃ l d, i = .override sender b l d)) → answered 2)

/-- CLEAR_FAULT (R129, R130, R165): a latched OVERLOAD over a wire that is not cool is refused with NOT_COOL; every other
state's record is emptied and its count returned to 0 (unless a start over a hot switch at once hands THERMAL, R115), and
LATCHED is left for INHIBITED, for OFF, or, with a request above 0, for STARTING at tier 0 and for PENDING in RUNNING,
with its INTENT where the queue takes it, and DEFERRED elsewhere. Elsewhere a STATUS is queued where the record or the
count changes, and where neither does the reply is all. A clear of all channels takes each by its own state, and replies
NOT_COOL when one gave it; its INTENTs are queued in order of tier number and channel number. Model's choice: no STATUS
where nothing changes (log 38). -/
def Obligations.ClearFaultClears : Prop :=
  ∀ (sender : Station) (b : Byte) (c : Channel) (s : State), s.Plain → s.Serves sender → s.mode ≠ .limp →
    b.toNat = c.val →
    let r := s.chan c
    let out := fun d : Channel => s.feed.feeds[bankOf d] = some .under ∨ s.feed.feeds[bankOf d] = some .over
    let refused := fun r : ChannelRecord => r.state = .latched ∧ r.active = some .overload ∧ r.prot.cool = false
    let meetsThermal := fun d : Channel =>
      let r := s.chan d
      r.state = .latched ∧ r.prot.hot = true ∧ r.cfg.tier = 0 ∧ r.eff ≠ 0 ∧ ¬out d ∧ s.feed.temp ≠ .shutdown
    let leaves := fun (d : Channel) (t : State) =>
      let r := s.chan d
      let q := t.chan d
      (out d ∨ s.feed.temp = .shutdown → q.state = .inhibited ∧ q.active = none)
        ∧ (¬out d → s.feed.temp ≠ .shutdown → r.eff = 0 → q.state = .off ∧ q.active = none)
        ∧ (¬out d → s.feed.temp ≠ .shutdown → r.eff ≠ 0 → r.cfg.tier = 0 → r.prot.hot = false →
            q.state = .starting ∧ q.active = none ∧ q.booking = r.cfg.bookingFor r.duty false)
        ∧ (¬out d → s.feed.temp ≠ .shutdown → r.eff ≠ 0 → r.cfg.tier = 0 → r.prot.hot = true →
            { r with faults := .empty, retryCount := 0 : ChannelRecord }.StoppedHot q)
        ∧ (¬out d → s.feed.temp ≠ .shutdown → r.eff ≠ 0 → r.cfg.tier ≠ 0 → s.mode = .running →
            (q.state = .pending ∧ ∃ e ∈ t.line.queue, e.frame = s.intentOf d)
              ∨ (q.state = .deferred ∧ 5 ≤ t.queued (fun e => e.frame.kind != 1)
                  ∧ t.queued (fun e => e.frame.kind == 5) = 0))
        ∧ (¬out d → s.feed.temp ≠ .shutdown → r.eff ≠ 0 → r.cfg.tier ≠ 0 → s.mode ≠ .running → q.state = .deferred)
    let nothing := r.state ≠ .latched ∧ r.faults = .empty ∧ r.retryCount = 0
    (nothing → exec (.clearFault sender b) s = .next (s.heardFrame.serving sender [[1, 0]] false).echoed)
      ∧ (Answers (exec (.clearFault sender b) s) fun t =>
      let q := t.chan c
      (refused r → q = r.followed ∧ t.service.request = some ⟨sender, [[1, 3]], 0, false⟩)
        ∧ (¬refused r → t.service.request = some ⟨sender, [[1, 0]], 0, false⟩
            ∧ (¬nothing → r.state ≠ .latched → s.replyRoom → ∃ x ∈ t.line.queue, x.frame = .status c)
            ∧ (¬meetsThermal c → q.faults = .empty ∧ q.retryCount = 0 ∧ q.events = r.events)
            ∧ (r.state ≠ .latched → q = { r with faults := .empty, retryCount := 0 }.followed)
            ∧ (r.state = .latched → leaves c t))
        ∧ ∀ d, d ≠ c → t.chan d = (s.chan d).followed)
      ∧ Answers (exec (.clearFault sender 255) s) fun t =>
          ((∃ d, refused (s.chan d)) → t.service.request = some ⟨sender, [[1, 3]], 0, false⟩)
            ∧ ((∀ d, ¬refused (s.chan d)) → t.service.request = some ⟨sender, [[1, 0]], 0, false⟩)
            ∧ (∃ l : List Channel, l.Pairwise s.before
                ∧ (t.line.queue.filter fun e => e.frame.kind == 0).map (·.frame)
                    = (s.line.queue.filter fun e => e.frame.kind == 0).map (·.frame) ++ l.map s.intentOf)
            ∧ ∀ d, (refused (s.chan d) → t.chan d = (s.chan d).followed)
                ∧ (¬refused (s.chan d) → ¬meetsThermal d → (t.chan d).faults = .empty ∧ (t.chan d).retryCount = 0)
                ∧ ((s.chan d).state = .latched → ¬refused (s.chan d) → leaves d t)
                ∧ ((s.chan d).state ≠ .latched →
                    t.chan d = { (s.chan d) with faults := .empty, retryCount := 0 }.followed)

/-- CLEAR_EVENTS (R163, R164, R168): the named part flags and all three flags of the named channels go; nothing else.
ALERT, in this state as in every other, is asserted exactly while a flag that the masks select is set. -/
def Obligations.ClearEventsClears : Prop :=
  ∀ (sender : Station) (part : BitVec 16) (chans : BitVec 24) (s : State),
    (s.Plain → s.Serves sender →
      exec (.clearEvents sender part chans) s = .next (({ s.heardFrame with
        events := { s.events with flags := s.events.flags &&& ~~~(part.setWidth 11) }
        channels := Vector.ofFn fun c : Channel =>
          if chans.getLsbD c.val then { (s.chan c) with events := ⟨false, false, false⟩ } else s.chan c }).serving sender
            [[2, 0]] false).echoed)
      ∧ (s.alert = true ↔
          (∃ n, s.events.flags.getLsbD n = true ∧ s.events.partMask.getLsbD n = true)
            ∨ ∃ c, s.events.channelMask.getLsbD c.val = true ∧
                ((s.chan c).events.fault = true ∨ (s.chan c).events.shed = true ∨ (s.chan c).events.autoOff = true))

/-- READ_CHANNEL, READ_PEERS and READ_EVENTS (R169, section 12.3): the replies, laid out field by field; nothing else
changes. The fields of an absent foreign-publisher record are open, and so is the feed state of a bank that nothing has
judged: the open fields are log 22's. Model's choice: an absent source record or own band reads 0 (log 34). -/
def Obligations.ReadsReplyWithTheState : Prop :=
  ∀ (sender : Station) (b : Byte) (c : Channel) (s : State), s.Plain → s.Serves sender → b.toNat = c.val →
    let r := s.chan c
    let up := fun (ms unit : Nat) => (ms + unit - 1) / unit
    let flag := fun (x : Bool) => if x then 1 else 0
    let phase := flag (r.state == .cycling && (r.phase.map (·.onPhase) == some false))
    let u := s.heardFrame
    (exec (.readChannel sender b) s = .next (u.serving sender [
        packEight [(3, 3), (1, 0), (4, r.state.code), (1, phase),
          (2, if s.sequencer.slot0 = some c then 1 else if s.sequencer.slot1 = some c then 2 else 0),
          (1, flag r.throttled), (1, flag r.hold), (8, r.raw.toNat), (8, r.eff.toNat), (8, r.duty.toNat), (9, r.booking),
          (8, up (r.autoOff.getD 0) 10000), (8, up ((r.override.map (·.left)).getD 0) 100)],
        packEight [(3, 3), (1, 1), (20, r.prot.theta), (10, r.cfg.iTrip), (1, flag r.prot.cool), (1, flag r.prot.hot),
          (3, r.idClass.code), (1, flag r.idDue),
          (1, flag r.faults.short), (1, flag r.faults.overload), (1, flag r.faults.startfail), (1, flag r.faults.stall),
          (1, flag r.faults.openLoad), (1, flag r.faults.thermal), (1, flag r.faults.mismatch),
          (3, (r.active.map (·.code)).getD 0), (4, r.retryCount), (8, up (r.retry.getD 0) 100)]] false).echoed)
      ∧ exec (.readPeers sender) s = .next (u.serving sender (if u.peers = [] then [[4, 4]]
          else u.peers.map fun e => packEight [(3, 4), (4, e.station.val), (12, e.bookings.t0), (12, e.bookings.t1),
            (12, e.bookings.t2), (12, e.bookings.t3), (2, e.band.code), (1, flag e.stale), (6, e.age / 20)]) false).echoed
      ∧ Answers (exec (.readEvents sender) s) fun t =>
          t.channels = u.echoed.channels ∧ t.events = u.events ∧ t.line = u.line
            ∧ ∃ (open12 : BitVec 12) (openFeed : Bank → BitVec 2) (summary : BitVec 20),
              (∀ d : Channel, summary.getLsbD d.val = true ↔
                (s.chan d).events.fault = true ∨ (s.chan d).events.shed = true ∨ (s.chan d).events.autoOff = true) ∧
              let feed := fun b : Bank => match s.feed.feeds[b] with
                | some .inRange => 0
                | some .under => 1
                | some .over => 2
                | none => (openFeed b).toNat
              t.service.request = some ⟨sender, [
                packEight [(3, 5), (1, 0), (11, s.events.flags.toNat), (3, u.mode.code), (4, s.own.val),
                  (2, (s.loader.source.map (·.code)).getD 0)],
                packEight ([(3, 5), (1, 1), (2, feed 0), (2, feed 1), (2, feed 2), (2, feed 3),
                  (2, (s.feed.ownBand.map (·.code)).getD 0), (2, s.feed.temp.code)]
                  ++ (match s.bind.foreign with
                      | some (n, st) => [(1, 1), (8, n.toNat), (4, st.val)]
                      | none => [(1, 0), (12, open12.toNat)])
                  ++ [(20, summary.toNat)])], 0, false⟩

/-- OVERRIDE and RESTART (R5, R170, R171): an override sets the effective request to its level for its duration, and
starts a tier-0 channel that is OFF, conducting for the longer of 2 ms and its profile share (R86); level 0 ends it; a
duration of 0 for a level is REJECTED; RESTART queues its one reply and restarts nothing yet. Model's choice: the restart
is owed once that reply has left, and is no part of this command (log 24). -/
def Obligations.OverrideAndRestart : Prop :=
  ∀ (sender : Station) (b level duration : Byte) (c : Channel) (s : State), s.Plain → s.Serves sender →
    b.toNat = c.val →
    let r := s.chan c
    (s.mode ≠ .limp → level ≠ 0 → duration ≠ 0 → r.state ≠ .off → r.eff ≠ 0 →
        Answers (exec (.override sender b level duration) s) fun t =>
          t.service.request = some ⟨sender, [[6, 0]], 0, false⟩
            ∧ (t.chan c).override = some ⟨level, duration.toNat * 100⟩ ∧ (t.chan c).eff = level
            ∧ (t.chan c).state = r.state
            ∧ (r.eff ≠ level → (t.chan c).duty = r.cfg.dutyFor level
                ∧ (t.chan c).booking = if r.state.books then r.cfg.bookingFor (r.cfg.dutyFor level) r.throttled else r.booking)
            ∧ ∀ d, d ≠ c → t.chan d = (s.chan d).followed)
      ∧ (s.mode ≠ .limp → level ≠ 0 → duration ≠ 0 → r.state = .off → r.eff = 0 → r.cfg.tier = 0 → r.prot.hot = false →
        Answers (exec (.override sender b level duration) s) fun t =>
          (t.chan c).state = .starting ∧ (t.chan c).eff = level
            ∧ (t.chan c).span = max 102 (if r.cfg.accepted.filament = true ∧ 64 < (r.cfg.dutyFor level).toNat then 64
                else (r.cfg.dutyFor level).toNat)
            ∧ (t.chan c).booking = r.cfg.bookingFor (r.cfg.dutyFor level) r.throttled)
      ∧ (s.mode ≠ .limp → level = 0 → r.state = .on → r.eff ≠ 0 → (r.hold = true ∨ r.raw = 0) →
        Answers (exec (.override sender b level duration) s) fun t =>
          t.service.request = some ⟨sender, [[6, 0]], 0, false⟩
            ∧ (t.chan c).override = none ∧ (t.chan c).eff = 0 ∧ (t.chan c).state = .off ∧ (t.chan c).booking = 0)
      ∧ (level ≠ 0 → duration = 0 → s.replyRoom → exec (.override sender b level duration) s
          = .next (s.heardFrame.withFrame (.reply sender [6, 2] false)).echoed)
      ∧ exec (.restart sender) s = .next (s.heardFrame.serving sender [[7, 0]] true).echoed

/-! ### Frames (chapter 12) -/

/-- R165, R181, sections 12.1 and 12.2: an INTENT, WITHDRAW or DRAW that one part composes is, at a part of another
station number, the command with the same fields; a STATUS lays out its channel as it stands, field by field, and a reply
goes to the station that asked. In a packed layout each field stands at its place from the first bit on, cut to its width,
and the bits left over are 0; the codes are those of the tables. -/
def Obligations.ComposedFramesReadBack : Prop :=
  ∀ (s : State) (other : Station) (c : Channel) (tier : Tier) (booking window : Nat) (band : Band) (v : TierValues)
    (data : List Byte) (own : Bool) (xs ys : List (Nat × Nat)) (width value : Nat),
    other ≠ s.own → booking < 65536 → window < 256 → (∀ t, v.get t ≤ 4095) →
    let flag := fun (x : Bool) => if x then 1 else 0
    let r := s.chan c
    let bits := fun fields : List (Nat × Nat) => (packEight fields).foldl (fun n b => n * 256 + b.toNat) 0
    let widths := fun fields : List (Nat × Nat) => (fields.map (·.1)).sum
    (widths (xs ++ (width, value) :: ys) ≤ 64 → (packEight (xs ++ (width, value) :: ys)).length = 8
        ∧ bits (xs ++ (width, value) :: ys) / 2 ^ (64 - widths xs - width) % 2 ^ width = value % 2 ^ width
        ∧ bits (xs ++ (width, value) :: ys) % 2 ^ (64 - widths (xs ++ (width, value) :: ys)) = 0)
      ∧ ([.off, .pending, .deferred, .slotwait, .starting, .on, .cycling, .shed, .cooldown, .latched, .inhibited]
          : List ChannelState).map (·.code) = List.range 11
      ∧ ([.unknown, .filament, .motor, .resistive, .openLoad] : List LoadClass).map (·.code) = List.range 5
      ∧ ([.short, .overload, .startfail, .stall, .openLoad, .thermal, .mismatch] : List FaultKind).map (·.code)
          = [1, 2, 3, 4, 5, 6, 7]
      ∧ ([.configuring, .listening, .running, .isolated, .clashed, .limp] : List PartMode).map (·.code) = List.range 6
      ∧ ([.memory, .missing, .crc, .version] : List ConfigSource).map (·.code) = List.range 4
      ∧ ([.normal, .warning, .shutdown] : List PartTemp).map (·.code) = List.range 3
      ∧ ([.crank, .low, .battery, .charging] : List Band).map (·.code) = List.range 4
      ∧ commandOfFrame other (s.compose (.intent c tier booking window))
        = .intent s.own (BitVec.ofNat 5 c.val) (BitVec.ofNat 8 tier.val) (BitVec.ofNat 16 booking) (BitVec.ofNat 8 window)
      ∧ commandOfFrame other (s.compose (.withdraw c)) = .withdraw s.own (BitVec.ofNat 5 c.val)
      ∧ (∃ w0 w1 w2 w3 : BitVec 16, commandOfFrame other (s.compose (.draw band v)) = .draw s.own w0 w1 w2 w3
          ∧ Band.ofCode (w0.toNat / 8192) = some band ∧ w0.toNat % 8192 = v.t0 ∧ w1.toNat % 8192 = v.t1
          ∧ w2.toNat % 8192 = v.t2 ∧ w3.toNat % 8192 = v.t3)
      ∧ s.compose (.reply other data own) = ⟨BitVec.ofNat 11 (4 * 256 + s.own.val * 16 + other.val), data⟩
      ∧ s.compose (.status c) = ⟨BitVec.ofNat 11 (5 * 256 + s.own.val * 16), packEight [
          (5, c.val), (4, r.state.code), (1, flag (r.state == .cycling && (r.phase.map (·.onPhase) == some false))),
          (8, r.eff.toNat), (8, r.duty.toNat), (9, r.booking), (3, r.idClass.code), (1, flag r.idDue),
          (1, flag r.faults.short), (1, flag r.faults.overload), (1, flag r.faults.startfail), (1, flag r.faults.stall),
          (1, flag r.faults.openLoad), (1, flag r.faults.thermal), (1, flag r.faults.mismatch),
          (3, (r.active.map (·.code)).getD 0), (4, r.retryCount), (8, (r.retry.getD 0 + 99) / 100),
          (1, flag r.events.fault), (1, flag r.events.shed), (1, flag r.events.autoOff)]⟩
end

