-- ==== Sys2Proof/Laws/State.lean ====
section
/-! SUPPORT. State.lean: what each small update of the state leaves and writes, field by field, so that no proof unfolds a
record update. -/

namespace Sys2Proof.Machine

variable (s : State)

/-! ### setChan -/

@[simp] theorem State.setChan_loader (c : Channel) (r : ChannelRecord) : (s.setChan c r).loader = s.loader := rfl
@[simp] theorem State.setChan_echoes (c : Channel) (r : ChannelRecord) : (s.setChan c r).echoes = s.echoes ++ echoChange c (s.chan c) r := rfl
@[simp] theorem State.setChan_bind (c : Channel) (r : ChannelRecord) : (s.setChan c r).bind = s.bind := rfl
@[simp] theorem State.setChan_wired (c : Channel) (r : ChannelRecord) : (s.setChan c r).wired = s.wired := rfl
@[simp] theorem State.setChan_peers (c : Channel) (r : ChannelRecord) : (s.setChan c r).peers = s.peers := rfl
@[simp] theorem State.setChan_intents (c : Channel) (r : ChannelRecord) : (s.setChan c r).intents = s.intents := rfl
@[simp] theorem State.setChan_budget (c : Channel) (r : ChannelRecord) : (s.setChan c r).budget = s.budget := rfl
@[simp] theorem State.setChan_sequencer (c : Channel) (r : ChannelRecord) : (s.setChan c r).sequencer = s.sequencer := rfl
@[simp] theorem State.setChan_feed (c : Channel) (r : ChannelRecord) : (s.setChan c r).feed = s.feed := rfl
@[simp] theorem State.setChan_line (c : Channel) (r : ChannelRecord) : (s.setChan c r).line = s.line := rfl
@[simp] theorem State.setChan_events (c : Channel) (r : ChannelRecord) : (s.setChan c r).events = s.events := rfl
@[simp] theorem State.setChan_service (c : Channel) (r : ChannelRecord) : (s.setChan c r).service = s.service := rfl
@[simp] theorem State.setChan_freeCount (c : Channel) (r : ChannelRecord) : (s.setChan c r).freeCount = s.freeCount := rfl
@[simp] theorem State.setChan_pending (c : Channel) (r : ChannelRecord) : (s.setChan c r).pending = s.pending := rfl

/-! ### modChan -/

@[simp] theorem State.modChan_loader (c : Channel) (f : ChannelRecord → ChannelRecord) : (s.modChan c f).loader = s.loader := rfl
@[simp] theorem State.modChan_echoes (c : Channel) (f : ChannelRecord → ChannelRecord) : (s.modChan c f).echoes = s.echoes ++ echoChange c (s.chan c) (f (s.chan c)) := rfl
@[simp] theorem State.modChan_bind (c : Channel) (f : ChannelRecord → ChannelRecord) : (s.modChan c f).bind = s.bind := rfl
@[simp] theorem State.modChan_wired (c : Channel) (f : ChannelRecord → ChannelRecord) : (s.modChan c f).wired = s.wired := rfl
@[simp] theorem State.modChan_peers (c : Channel) (f : ChannelRecord → ChannelRecord) : (s.modChan c f).peers = s.peers := rfl
@[simp] theorem State.modChan_intents (c : Channel) (f : ChannelRecord → ChannelRecord) : (s.modChan c f).intents = s.intents := rfl
@[simp] theorem State.modChan_budget (c : Channel) (f : ChannelRecord → ChannelRecord) : (s.modChan c f).budget = s.budget := rfl
@[simp] theorem State.modChan_sequencer (c : Channel) (f : ChannelRecord → ChannelRecord) : (s.modChan c f).sequencer = s.sequencer := rfl
@[simp] theorem State.modChan_feed (c : Channel) (f : ChannelRecord → ChannelRecord) : (s.modChan c f).feed = s.feed := rfl
@[simp] theorem State.modChan_line (c : Channel) (f : ChannelRecord → ChannelRecord) : (s.modChan c f).line = s.line := rfl
@[simp] theorem State.modChan_events (c : Channel) (f : ChannelRecord → ChannelRecord) : (s.modChan c f).events = s.events := rfl
@[simp] theorem State.modChan_service (c : Channel) (f : ChannelRecord → ChannelRecord) : (s.modChan c f).service = s.service := rfl
@[simp] theorem State.modChan_freeCount (c : Channel) (f : ChannelRecord → ChannelRecord) : (s.modChan c f).freeCount = s.freeCount := rfl
@[simp] theorem State.modChan_pending (c : Channel) (f : ChannelRecord → ChannelRecord) : (s.modChan c f).pending = s.pending := rfl

/-! ### setMode -/

@[simp] theorem State.setMode_loader (m : PartMode) : (s.setMode m).loader = { s.loader with mode := m } := rfl
@[simp] theorem State.setMode_channels (m : PartMode) : (s.setMode m).channels = s.channels := rfl
@[simp] theorem State.setMode_echoes (m : PartMode) : (s.setMode m).echoes = s.echoes := rfl
@[simp] theorem State.setMode_bind (m : PartMode) : (s.setMode m).bind = s.bind := rfl
@[simp] theorem State.setMode_wired (m : PartMode) : (s.setMode m).wired = s.wired := rfl
@[simp] theorem State.setMode_peers (m : PartMode) : (s.setMode m).peers = s.peers := rfl
@[simp] theorem State.setMode_intents (m : PartMode) : (s.setMode m).intents = s.intents := rfl
@[simp] theorem State.setMode_budget (m : PartMode) : (s.setMode m).budget = s.budget := rfl
@[simp] theorem State.setMode_sequencer (m : PartMode) : (s.setMode m).sequencer = s.sequencer := rfl
@[simp] theorem State.setMode_feed (m : PartMode) : (s.setMode m).feed = s.feed := rfl
@[simp] theorem State.setMode_line (m : PartMode) : (s.setMode m).line = s.line := rfl
@[simp] theorem State.setMode_events (m : PartMode) : (s.setMode m).events = s.events := rfl
@[simp] theorem State.setMode_service (m : PartMode) : (s.setMode m).service = s.service := rfl
@[simp] theorem State.setMode_freeCount (m : PartMode) : (s.setMode m).freeCount = s.freeCount := rfl
@[simp] theorem State.setMode_pending (m : PartMode) : (s.setMode m).pending = s.pending := rfl

/-! ### setQueue -/

@[simp] theorem State.setQueue_loader (q : List TxEntry) : (s.setQueue q).loader = s.loader := rfl
@[simp] theorem State.setQueue_channels (q : List TxEntry) : (s.setQueue q).channels = s.channels := rfl
@[simp] theorem State.setQueue_echoes (q : List TxEntry) : (s.setQueue q).echoes = s.echoes := rfl
@[simp] theorem State.setQueue_bind (q : List TxEntry) : (s.setQueue q).bind = s.bind := rfl
@[simp] theorem State.setQueue_wired (q : List TxEntry) : (s.setQueue q).wired = s.wired := rfl
@[simp] theorem State.setQueue_peers (q : List TxEntry) : (s.setQueue q).peers = s.peers := rfl
@[simp] theorem State.setQueue_intents (q : List TxEntry) : (s.setQueue q).intents = s.intents := rfl
@[simp] theorem State.setQueue_budget (q : List TxEntry) : (s.setQueue q).budget = s.budget := rfl
@[simp] theorem State.setQueue_sequencer (q : List TxEntry) : (s.setQueue q).sequencer = s.sequencer := rfl
@[simp] theorem State.setQueue_feed (q : List TxEntry) : (s.setQueue q).feed = s.feed := rfl
@[simp] theorem State.setQueue_line (q : List TxEntry) : (s.setQueue q).line = { s.line with queue := q } := rfl
@[simp] theorem State.setQueue_events (q : List TxEntry) : (s.setQueue q).events = s.events := rfl
@[simp] theorem State.setQueue_service (q : List TxEntry) : (s.setQueue q).service = s.service := rfl
@[simp] theorem State.setQueue_freeCount (q : List TxEntry) : (s.setQueue q).freeCount = s.freeCount := rfl
@[simp] theorem State.setQueue_pending (q : List TxEntry) : (s.setQueue q).pending = s.pending := rfl

/-! ### setEntries -/

@[simp] theorem State.setEntries_loader (es : List IntentEntry) : (s.setEntries es).loader = s.loader := rfl
@[simp] theorem State.setEntries_channels (es : List IntentEntry) : (s.setEntries es).channels = s.channels := rfl
@[simp] theorem State.setEntries_echoes (es : List IntentEntry) : (s.setEntries es).echoes = s.echoes := rfl
@[simp] theorem State.setEntries_bind (es : List IntentEntry) : (s.setEntries es).bind = s.bind := rfl
@[simp] theorem State.setEntries_wired (es : List IntentEntry) : (s.setEntries es).wired = s.wired := rfl
@[simp] theorem State.setEntries_peers (es : List IntentEntry) : (s.setEntries es).peers = s.peers := rfl
@[simp] theorem State.setEntries_intents (es : List IntentEntry) : (s.setEntries es).intents = { s.intents with entries := es } := rfl
@[simp] theorem State.setEntries_budget (es : List IntentEntry) : (s.setEntries es).budget = s.budget := rfl
@[simp] theorem State.setEntries_sequencer (es : List IntentEntry) : (s.setEntries es).sequencer = s.sequencer := rfl
@[simp] theorem State.setEntries_feed (es : List IntentEntry) : (s.setEntries es).feed = s.feed := rfl
@[simp] theorem State.setEntries_line (es : List IntentEntry) : (s.setEntries es).line = s.line := rfl
@[simp] theorem State.setEntries_events (es : List IntentEntry) : (s.setEntries es).events = s.events := rfl
@[simp] theorem State.setEntries_service (es : List IntentEntry) : (s.setEntries es).service = s.service := rfl
@[simp] theorem State.setEntries_freeCount (es : List IntentEntry) : (s.setEntries es).freeCount = s.freeCount := rfl
@[simp] theorem State.setEntries_pending (es : List IntentEntry) : (s.setEntries es).pending = s.pending := rfl

/-! ### setBindings -/

@[simp] theorem State.setBindings_loader (bs : List Binding) : (s.setBindings bs).loader = s.loader := rfl
@[simp] theorem State.setBindings_channels (bs : List Binding) : (s.setBindings bs).channels = s.channels := rfl
@[simp] theorem State.setBindings_echoes (bs : List Binding) : (s.setBindings bs).echoes = s.echoes := rfl
@[simp] theorem State.setBindings_bind (bs : List Binding) : (s.setBindings bs).bind = { s.bind with bindings := bs } := rfl
@[simp] theorem State.setBindings_wired (bs : List Binding) : (s.setBindings bs).wired = s.wired := rfl
@[simp] theorem State.setBindings_peers (bs : List Binding) : (s.setBindings bs).peers = s.peers := rfl
@[simp] theorem State.setBindings_intents (bs : List Binding) : (s.setBindings bs).intents = s.intents := rfl
@[simp] theorem State.setBindings_budget (bs : List Binding) : (s.setBindings bs).budget = s.budget := rfl
@[simp] theorem State.setBindings_sequencer (bs : List Binding) : (s.setBindings bs).sequencer = s.sequencer := rfl
@[simp] theorem State.setBindings_feed (bs : List Binding) : (s.setBindings bs).feed = s.feed := rfl
@[simp] theorem State.setBindings_line (bs : List Binding) : (s.setBindings bs).line = s.line := rfl
@[simp] theorem State.setBindings_events (bs : List Binding) : (s.setBindings bs).events = s.events := rfl
@[simp] theorem State.setBindings_service (bs : List Binding) : (s.setBindings bs).service = s.service := rfl
@[simp] theorem State.setBindings_freeCount (bs : List Binding) : (s.setBindings bs).freeCount = s.freeCount := rfl
@[simp] theorem State.setBindings_pending (bs : List Binding) : (s.setBindings bs).pending = s.pending := rfl

/-! ### setWired -/

@[simp] theorem State.setWired_loader (i : WiredInput) (w : WiredInputState) : (s.setWired i w).loader = s.loader := rfl
@[simp] theorem State.setWired_channels (i : WiredInput) (w : WiredInputState) : (s.setWired i w).channels = s.channels := rfl
@[simp] theorem State.setWired_echoes (i : WiredInput) (w : WiredInputState) : (s.setWired i w).echoes = s.echoes := rfl
@[simp] theorem State.setWired_bind (i : WiredInput) (w : WiredInputState) : (s.setWired i w).bind = s.bind := rfl
@[simp] theorem State.setWired_wired (i : WiredInput) (w : WiredInputState) : (s.setWired i w).wired = s.wired.set i w := rfl
@[simp] theorem State.setWired_peers (i : WiredInput) (w : WiredInputState) : (s.setWired i w).peers = s.peers := rfl
@[simp] theorem State.setWired_intents (i : WiredInput) (w : WiredInputState) : (s.setWired i w).intents = s.intents := rfl
@[simp] theorem State.setWired_budget (i : WiredInput) (w : WiredInputState) : (s.setWired i w).budget = s.budget := rfl
@[simp] theorem State.setWired_sequencer (i : WiredInput) (w : WiredInputState) : (s.setWired i w).sequencer = s.sequencer := rfl
@[simp] theorem State.setWired_feed (i : WiredInput) (w : WiredInputState) : (s.setWired i w).feed = s.feed := rfl
@[simp] theorem State.setWired_line (i : WiredInput) (w : WiredInputState) : (s.setWired i w).line = s.line := rfl
@[simp] theorem State.setWired_events (i : WiredInput) (w : WiredInputState) : (s.setWired i w).events = s.events := rfl
@[simp] theorem State.setWired_service (i : WiredInput) (w : WiredInputState) : (s.setWired i w).service = s.service := rfl
@[simp] theorem State.setWired_freeCount (i : WiredInput) (w : WiredInputState) : (s.setWired i w).freeCount = s.freeCount := rfl
@[simp] theorem State.setWired_pending (i : WiredInput) (w : WiredInputState) : (s.setWired i w).pending = s.pending := rfl

/-! ### setFeed -/

@[simp] theorem State.setFeed_loader (b : Bank) (f : FeedState) : (s.setFeed b f).loader = s.loader := rfl
@[simp] theorem State.setFeed_channels (b : Bank) (f : FeedState) : (s.setFeed b f).channels = s.channels := rfl
@[simp] theorem State.setFeed_echoes (b : Bank) (f : FeedState) : (s.setFeed b f).echoes = s.echoes := rfl
@[simp] theorem State.setFeed_bind (b : Bank) (f : FeedState) : (s.setFeed b f).bind = s.bind := rfl
@[simp] theorem State.setFeed_wired (b : Bank) (f : FeedState) : (s.setFeed b f).wired = s.wired := rfl
@[simp] theorem State.setFeed_peers (b : Bank) (f : FeedState) : (s.setFeed b f).peers = s.peers := rfl
@[simp] theorem State.setFeed_intents (b : Bank) (f : FeedState) : (s.setFeed b f).intents = s.intents := rfl
@[simp] theorem State.setFeed_budget (b : Bank) (f : FeedState) : (s.setFeed b f).budget = s.budget := rfl
@[simp] theorem State.setFeed_sequencer (b : Bank) (f : FeedState) : (s.setFeed b f).sequencer = s.sequencer := rfl
@[simp] theorem State.setFeed_feed (b : Bank) (f : FeedState) : (s.setFeed b f).feed = { s.feed with feeds := s.feed.feeds.set b (some f) } := rfl
@[simp] theorem State.setFeed_line (b : Bank) (f : FeedState) : (s.setFeed b f).line = s.line := rfl
@[simp] theorem State.setFeed_events (b : Bank) (f : FeedState) : (s.setFeed b f).events = s.events := rfl
@[simp] theorem State.setFeed_service (b : Bank) (f : FeedState) : (s.setFeed b f).service = s.service := rfl
@[simp] theorem State.setFeed_freeCount (b : Bank) (f : FeedState) : (s.setFeed b f).freeCount = s.freeCount := rfl
@[simp] theorem State.setFeed_pending (b : Bank) (f : FeedState) : (s.setFeed b f).pending = s.pending := rfl

/-! ### raise -/

@[simp] theorem State.raise_loader (e : PartEvent) : (s.raise e).loader = s.loader := rfl
@[simp] theorem State.raise_channels (e : PartEvent) : (s.raise e).channels = s.channels := rfl
@[simp] theorem State.raise_echoes (e : PartEvent) : (s.raise e).echoes = s.echoes := rfl
@[simp] theorem State.raise_bind (e : PartEvent) : (s.raise e).bind = s.bind := rfl
@[simp] theorem State.raise_wired (e : PartEvent) : (s.raise e).wired = s.wired := rfl
@[simp] theorem State.raise_peers (e : PartEvent) : (s.raise e).peers = s.peers := rfl
@[simp] theorem State.raise_intents (e : PartEvent) : (s.raise e).intents = s.intents := rfl
@[simp] theorem State.raise_budget (e : PartEvent) : (s.raise e).budget = s.budget := rfl
@[simp] theorem State.raise_sequencer (e : PartEvent) : (s.raise e).sequencer = s.sequencer := rfl
@[simp] theorem State.raise_feed (e : PartEvent) : (s.raise e).feed = s.feed := rfl
@[simp] theorem State.raise_line (e : PartEvent) : (s.raise e).line = s.line := rfl
@[simp] theorem State.raise_events (e : PartEvent) :
    (s.raise e).events = { s.events with flags := s.events.flags ||| e.mask } := rfl
@[simp] theorem State.raise_service (e : PartEvent) : (s.raise e).service = s.service := rfl
@[simp] theorem State.raise_freeCount (e : PartEvent) : (s.raise e).freeCount = s.freeCount := rfl
@[simp] theorem State.raise_pending (e : PartEvent) : (s.raise e).pending = s.pending := rfl

/-! ### The readers that the rules name -/

@[simp] theorem State.setChan_mode (c : Channel) (r : ChannelRecord) : (s.setChan c r).mode = s.mode := rfl
@[simp] theorem State.setChan_own (c : Channel) (r : ChannelRecord) : (s.setChan c r).own = s.own := rfl
@[simp] theorem State.modChan_mode (c : Channel) (f : ChannelRecord → ChannelRecord) : (s.modChan c f).mode = s.mode := rfl
@[simp] theorem State.modChan_own (c : Channel) (f : ChannelRecord → ChannelRecord) : (s.modChan c f).own = s.own := rfl
@[simp] theorem State.setMode_own (m : PartMode) : (s.setMode m).own = s.own := rfl
@[simp] theorem State.setMode_chan (m : PartMode) (d : Channel) : (s.setMode m).chan d = s.chan d := rfl
@[simp] theorem State.setQueue_mode (q : List TxEntry) : (s.setQueue q).mode = s.mode := rfl
@[simp] theorem State.setQueue_own (q : List TxEntry) : (s.setQueue q).own = s.own := rfl
@[simp] theorem State.setQueue_chan (q : List TxEntry) (d : Channel) : (s.setQueue q).chan d = s.chan d := rfl
@[simp] theorem State.setEntries_mode (es : List IntentEntry) : (s.setEntries es).mode = s.mode := rfl
@[simp] theorem State.setEntries_own (es : List IntentEntry) : (s.setEntries es).own = s.own := rfl
@[simp] theorem State.setEntries_chan (es : List IntentEntry) (d : Channel) : (s.setEntries es).chan d = s.chan d := rfl
@[simp] theorem State.setBindings_mode (bs : List Binding) : (s.setBindings bs).mode = s.mode := rfl
@[simp] theorem State.setBindings_own (bs : List Binding) : (s.setBindings bs).own = s.own := rfl
@[simp] theorem State.setBindings_chan (bs : List Binding) (d : Channel) : (s.setBindings bs).chan d = s.chan d := rfl
@[simp] theorem State.setWired_mode (i : WiredInput) (w : WiredInputState) : (s.setWired i w).mode = s.mode := rfl
@[simp] theorem State.setWired_own (i : WiredInput) (w : WiredInputState) : (s.setWired i w).own = s.own := rfl
@[simp] theorem State.setWired_chan (i : WiredInput) (w : WiredInputState) (d : Channel) : (s.setWired i w).chan d = s.chan d := rfl
@[simp] theorem State.setFeed_mode (b : Bank) (f : FeedState) : (s.setFeed b f).mode = s.mode := rfl
@[simp] theorem State.setFeed_own (b : Bank) (f : FeedState) : (s.setFeed b f).own = s.own := rfl
@[simp] theorem State.setFeed_chan (b : Bank) (f : FeedState) (d : Channel) : (s.setFeed b f).chan d = s.chan d := rfl
@[simp] theorem State.setMode_mode (m : PartMode) : (s.setMode m).mode = m := rfl
@[simp] theorem State.raise_mode (e : PartEvent) : (s.raise e).mode = s.mode := rfl
@[simp] theorem State.raise_own (e : PartEvent) : (s.raise e).own = s.own := rfl
@[simp] theorem State.raise_chan (e : PartEvent) (d : Channel) : (s.raise e).chan d = s.chan d := rfl
@[simp] theorem State.setQueue_txQueue (q : List TxEntry) : (s.setQueue q).txQueue = q := rfl
@[simp] theorem State.setChan_txQueue (c : Channel) (r : ChannelRecord) : (s.setChan c r).txQueue = s.txQueue := rfl
@[simp] theorem State.modChan_txQueue (c : Channel) (f : ChannelRecord → ChannelRecord) :
    (s.modChan c f).txQueue = s.txQueue := rfl

/-! ### Channel records -/

/-- R38: a record whose echo stays hands no change over. -/
theorem echoChange_of_same {c : Channel} {r q : ChannelRecord} (h : q.echo = r.echo) : echoChange c r q = [] := if_pos h

/-- R38: a record whose echo changes hands the new value over. -/
theorem echoChange_of_ne {c : Channel} {r q : ChannelRecord} (h : q.echo ≠ r.echo) : echoChange c r q = [(c, q.echo)] :=
  if_neg h

/-- The record just written. -/
@[simp] theorem State.setChan_chan_self (c : Channel) (r : ChannelRecord) : (s.setChan c r).chan c = r := by
  simp [State.chan, State.setChan]

/-- The other records. -/
theorem State.setChan_chan_ne {c d : Channel} (h : d ≠ c) (r : ChannelRecord) : (s.setChan c r).chan d = s.chan d := by
  have : c.val ≠ d.val := fun e => h (Fin.ext e.symm)
  simp [State.chan, State.setChan, Vector.getElem_set_ne, this]

/-- The record just changed. -/
@[simp] theorem State.modChan_chan_self (c : Channel) (f : ChannelRecord → ChannelRecord) :
    (s.modChan c f).chan c = f (s.chan c) := by simp [State.modChan]

/-- The other records. -/
theorem State.modChan_chan_ne {c d : Channel} (h : d ≠ c) (f : ChannelRecord → ChannelRecord) :
    (s.modChan c f).chan d = s.chan d := by simp [State.modChan, s.setChan_chan_ne h]

/-- Two states that differ in channel records alone are equal once every record is. -/
theorem State.ext_chan {s t : State} (h : ∀ c, s.chan c = t.chan c) (e : { s with channels := t.channels } = t) : s = t := by
  have : s.channels = t.channels := by
    apply Vector.ext
    intro i hi
    exact h ⟨i, hi⟩
  rw [← this] at e
  exact e

/-! ### A record's idle entry -/

@[simp] theorem ChannelRecord.idle_cfg (st : ChannelState) (r : ChannelRecord) : (r.idle st).cfg = r.cfg := rfl
@[simp] theorem ChannelRecord.idle_raw (st : ChannelState) (r : ChannelRecord) : (r.idle st).raw = r.raw := rfl
@[simp] theorem ChannelRecord.idle_eff (st : ChannelState) (r : ChannelRecord) : (r.idle st).eff = r.eff := rfl
@[simp] theorem ChannelRecord.idle_duty (st : ChannelState) (r : ChannelRecord) : (r.idle st).duty = r.duty := rfl
@[simp] theorem ChannelRecord.idle_idClass (st : ChannelState) (r : ChannelRecord) : (r.idle st).idClass = r.idClass := rfl
@[simp] theorem ChannelRecord.idle_idDue (st : ChannelState) (r : ChannelRecord) : (r.idle st).idDue = r.idDue := rfl
@[simp] theorem ChannelRecord.idle_faults (st : ChannelState) (r : ChannelRecord) : (r.idle st).faults = r.faults := rfl
@[simp] theorem ChannelRecord.idle_retryCount (st : ChannelState) (r : ChannelRecord) : (r.idle st).retryCount = r.retryCount := rfl
@[simp] theorem ChannelRecord.idle_hold (st : ChannelState) (r : ChannelRecord) : (r.idle st).hold = r.hold := rfl
@[simp] theorem ChannelRecord.idle_override (st : ChannelState) (r : ChannelRecord) : (r.idle st).override = r.override := rfl
@[simp] theorem ChannelRecord.idle_causes (st : ChannelState) (r : ChannelRecord) : (r.idle st).causes = r.causes := rfl
@[simp] theorem ChannelRecord.idle_events (st : ChannelState) (r : ChannelRecord) : (r.idle st).events = r.events := rfl
@[simp] theorem ChannelRecord.idle_echoTaken (st : ChannelState) (r : ChannelRecord) : (r.idle st).echoTaken = r.echoTaken := rfl
@[simp] theorem ChannelRecord.idle_state (st : ChannelState) (r : ChannelRecord) : (r.idle st).state = st := rfl
@[simp] theorem ChannelRecord.idle_booking (st : ChannelState) (r : ChannelRecord) : (r.idle st).booking = 0 := rfl
@[simp] theorem ChannelRecord.idle_active (st : ChannelState) (r : ChannelRecord) : (r.idle st).active = none := rfl
@[simp] theorem ChannelRecord.idle_retry (st : ChannelState) (r : ChannelRecord) : (r.idle st).retry = none := rfl
@[simp] theorem ChannelRecord.idle_throttled (st : ChannelState) (r : ChannelRecord) : (r.idle st).throttled = false := rfl
@[simp] theorem ChannelRecord.idle_cleanRun (st : ChannelState) (r : ChannelRecord) : (r.idle st).cleanRun = none := rfl
@[simp] theorem ChannelRecord.idle_start (st : ChannelState) (r : ChannelRecord) : (r.idle st).start = none := rfl
@[simp] theorem ChannelRecord.idle_span (st : ChannelState) (r : ChannelRecord) : (r.idle st).span = 0 := rfl
@[simp] theorem ChannelRecord.idle_phase (st : ChannelState) (r : ChannelRecord) : (r.idle st).phase = none := rfl
@[simp] theorem ChannelRecord.idle_autoOff (st : ChannelState) (r : ChannelRecord) : (r.idle st).autoOff = none := rfl

/-! ### A record, and a state, whose echoes are taken -/

@[simp] theorem State.echoed_loader : s.echoed.loader = s.loader := rfl
@[simp] theorem State.echoed_bind : s.echoed.bind = s.bind := rfl
@[simp] theorem State.echoed_wired : s.echoed.wired = s.wired := rfl
@[simp] theorem State.echoed_peers : s.echoed.peers = s.peers := rfl
@[simp] theorem State.echoed_intents : s.echoed.intents = s.intents := rfl
@[simp] theorem State.echoed_budget : s.echoed.budget = s.budget := rfl
@[simp] theorem State.echoed_sequencer : s.echoed.sequencer = s.sequencer := rfl
@[simp] theorem State.echoed_feed : s.echoed.feed = s.feed := rfl
@[simp] theorem State.echoed_line : s.echoed.line = s.line := rfl
@[simp] theorem State.echoed_events : s.echoed.events = s.events := rfl
@[simp] theorem State.echoed_service : s.echoed.service = s.service := rfl
@[simp] theorem State.echoed_freeCount : s.echoed.freeCount = s.freeCount := rfl
@[simp] theorem State.echoed_pending : s.echoed.pending = s.pending := rfl
@[simp] theorem State.echoed_echoes : s.echoed.echoes = [] := rfl
@[simp] theorem ChannelRecord.followed_cfg (r : ChannelRecord) : r.followed.cfg = r.cfg := rfl
@[simp] theorem ChannelRecord.followed_state (r : ChannelRecord) : r.followed.state = r.state := rfl
@[simp] theorem ChannelRecord.followed_raw (r : ChannelRecord) : r.followed.raw = r.raw := rfl
@[simp] theorem ChannelRecord.followed_eff (r : ChannelRecord) : r.followed.eff = r.eff := rfl
@[simp] theorem ChannelRecord.followed_duty (r : ChannelRecord) : r.followed.duty = r.duty := rfl
@[simp] theorem ChannelRecord.followed_booking (r : ChannelRecord) : r.followed.booking = r.booking := rfl
@[simp] theorem ChannelRecord.followed_idClass (r : ChannelRecord) : r.followed.idClass = r.idClass := rfl
@[simp] theorem ChannelRecord.followed_idDue (r : ChannelRecord) : r.followed.idDue = r.idDue := rfl
@[simp] theorem ChannelRecord.followed_faults (r : ChannelRecord) : r.followed.faults = r.faults := rfl
@[simp] theorem ChannelRecord.followed_active (r : ChannelRecord) : r.followed.active = r.active := rfl
@[simp] theorem ChannelRecord.followed_retryCount (r : ChannelRecord) : r.followed.retryCount = r.retryCount := rfl
@[simp] theorem ChannelRecord.followed_retry (r : ChannelRecord) : r.followed.retry = r.retry := rfl
@[simp] theorem ChannelRecord.followed_throttled (r : ChannelRecord) : r.followed.throttled = r.throttled := rfl
@[simp] theorem ChannelRecord.followed_hold (r : ChannelRecord) : r.followed.hold = r.hold := rfl
@[simp] theorem ChannelRecord.followed_cleanRun (r : ChannelRecord) : r.followed.cleanRun = r.cleanRun := rfl
@[simp] theorem ChannelRecord.followed_override (r : ChannelRecord) : r.followed.override = r.override := rfl
@[simp] theorem ChannelRecord.followed_causes (r : ChannelRecord) : r.followed.causes = r.causes := rfl
@[simp] theorem ChannelRecord.followed_events (r : ChannelRecord) : r.followed.events = r.events := rfl
@[simp] theorem ChannelRecord.followed_prot (r : ChannelRecord) : r.followed.prot = r.prot := rfl
@[simp] theorem ChannelRecord.followed_start (r : ChannelRecord) : r.followed.start = r.start := rfl
@[simp] theorem ChannelRecord.followed_span (r : ChannelRecord) : r.followed.span = r.span := rfl
@[simp] theorem ChannelRecord.followed_pwmPos (r : ChannelRecord) : r.followed.pwmPos = r.pwmPos := rfl
@[simp] theorem ChannelRecord.followed_phase (r : ChannelRecord) : r.followed.phase = r.phase := rfl
@[simp] theorem ChannelRecord.followed_autoOff (r : ChannelRecord) : r.followed.autoOff = r.autoOff := rfl

end Sys2Proof.Machine
end

