-- ==== Sys2Proof/Laws/Queue.lean ====
section
/-! SUPPORT. Queue.lean: everything that handing a frame to the transmit queue can do (R157, R160, R165). -/

namespace Sys2Proof.Machine

variable {s t : State}

/-- A queue with a STATUS splits at the newest one. -/
theorem displaceStatus_eq_some {q q' : List TxEntry} (h : displaceStatus q = some q') :
    ∃ xs e zs, q = xs ++ e :: zs ∧ e.frame.isStatus = true ∧ (∀ z ∈ zs, z.frame.isStatus = false) ∧ q' = xs ++ zs := by
  unfold displaceStatus at h
  split at h
  · next hq =>
    obtain ⟨x, hx, hs⟩ := List.any_eq_true.1 hq
    obtain ⟨e, l₁, l₂, h₁, h₂, h₃, h₄⟩ := List.exists_of_eraseP (p := fun e => e.frame.isStatus) (l := q.reverse)
      (List.mem_reverse.2 hx) hs
    refine ⟨l₂.reverse, e, l₁.reverse, ?_, h₂, ?_, ?_⟩
    · have := congrArg List.reverse h₃
      simpa using this
    · intro z hz
      have := h₁ z (List.mem_reverse.1 hz)
      simpa using this
    · rw [h₄] at h
      have := Option.some.inj h
      simp [← this]
  · cases h

/-- R160: what a frame taken by the queue makes of it: a DRAW takes the queued DRAW's entry, a frame with room joins the
end, and a frame without room takes the newest STATUS's entry. -/
theorem offerTo_cases {f : TxFrame} {q q' : List TxEntry} (h : offerTo f q = some q') :
    (f.isDraw = true ∧ q' = (q.filter fun e => !e.frame.isDraw) ++ [⟨f, 0, none⟩])
      ∨ (f.isDraw = false ∧ hasRoom f q = true ∧ q' = q ++ [⟨f, 0, none⟩])
      ∨ (f.isDraw = false ∧ f.isStatus = false ∧ hasRoom f q = false
          ∧ ∃ xs e zs, q = xs ++ e :: zs ∧ e.frame.isStatus = true ∧ (∀ z ∈ zs, z.frame.isStatus = false)
            ∧ q' = xs ++ zs ++ [⟨f, 0, none⟩]) := by
  unfold offerTo at h
  split at h
  · next hd => exact .inl ⟨hd, (Option.some.inj h).symm⟩
  · next hd =>
    have hd : f.isDraw = false := by simpa using hd
    split at h
    · next hr => exact .inr (.inl ⟨hd, hr, (Option.some.inj h).symm⟩)
    · next hr =>
      have hr : hasRoom f q = false := by simpa using hr
      split at h
      · cases h
      · next hs =>
        obtain ⟨q₁, h₁, h₂⟩ := Option.map_eq_some_iff.1 h
        obtain ⟨xs, e, zs, a, b, c, d⟩ := displaceStatus_eq_some h₁
        exact .inr (.inr ⟨hd, by simpa using hs, hr, xs, e, zs, a, b, c, by rw [← h₂, d]⟩)

/-- R157, R160: a frame taken changes the transmit queue alone. -/
theorem State.offer_eq_some {f : TxFrame} (h : s.offer f = some t) :
    s.discards f = false ∧ ∃ q, offerTo f s.txQueue = some q ∧ t = s.setQueue q := by
  unfold State.offer at h
  split at h
  · cases h
  · next hd =>
    obtain ⟨q, hq, e⟩ := Option.map_eq_some_iff.1 h
    exact ⟨by simpa using hd, q, hq, e.symm⟩

/-- A frame handed to the queue changes the transmit queue alone. -/
theorem State.send_eq (f : TxFrame) (s : State) : ∃ q, s.send f = s.setQueue q := by
  unfold State.send
  cases h : s.offer f with
  | none => exact ⟨s.txQueue, rfl⟩
  | some t =>
    obtain ⟨_, q, _, e⟩ := State.offer_eq_some h
    exact ⟨q, e⟩

/-- A status request changes the transmit queue alone. -/
theorem State.requestStatus_eq (c : Channel) (s : State) : ∃ q, s.requestStatus c = s.setQueue q := by
  unfold State.requestStatus
  split
  · exact ⟨s.txQueue, rfl⟩
  · exact State.send_eq _ _

@[simp] theorem State.send_chan (f : TxFrame) (s : State) (c : Channel) : (s.send f).chan c = s.chan c := by
  obtain ⟨q, h⟩ := State.send_eq f s
  rw [h, State.setQueue_chan]

@[simp] theorem State.requestStatus_chan (c d : Channel) (s : State) : (s.requestStatus c).chan d = s.chan d := by
  obtain ⟨q, h⟩ := State.requestStatus_eq c s
  rw [h, State.setQueue_chan]

@[simp] theorem State.send_sequencer (f : TxFrame) (s : State) : (s.send f).sequencer = s.sequencer := by
  obtain ⟨q, h⟩ := State.send_eq f s
  rw [h, State.setQueue_sequencer]

@[simp] theorem State.requestStatus_sequencer (c : Channel) (s : State) :
    (s.requestStatus c).sequencer = s.sequencer := by
  obtain ⟨q, h⟩ := State.requestStatus_eq c s
  rw [h, State.setQueue_sequencer]

@[simp] theorem State.send_mode (f : TxFrame) (s : State) : (s.send f).mode = s.mode := by
  obtain ⟨q, h⟩ := State.send_eq f s
  rw [h, State.setQueue_mode]

@[simp] theorem State.requestStatus_mode (c : Channel) (s : State) : (s.requestStatus c).mode = s.mode := by
  obtain ⟨q, h⟩ := State.requestStatus_eq c s
  rw [h, State.setQueue_mode]

@[simp] theorem State.send_bind (f : TxFrame) (s : State) : (s.send f).bind = s.bind := by
  obtain ⟨q, h⟩ := State.send_eq f s
  rw [h, State.setQueue_bind]

@[simp] theorem State.requestStatus_bind (c : Channel) (s : State) : (s.requestStatus c).bind = s.bind := by
  obtain ⟨q, h⟩ := State.requestStatus_eq c s
  rw [h, State.setQueue_bind]

end Sys2Proof.Machine
end

