-- ==== Sys2Proof/Laws/Enter.lean ====
section
/-! SUPPORT. Enter.lean: what an entry to a channel state does (R9, R79, R82, R165), and that the operations built on
entries write nothing but what channel activity writes. -/

namespace Sys2Proof.Machine

variable {s t u : State}

/-! ### Activity -/

/-- `t` differs from `s` in what channel activity writes alone. -/
def State.Acts (s t : State) : Prop := s.active t = t

/-- Doing nothing is activity. -/
theorem State.Acts.refl (s : State) : s.Acts s := rfl

/-- One activity after another. -/
theorem State.Acts.trans (h : s.Acts t) (k : t.Acts u) : s.Acts u := by
  unfold State.Acts State.active at *
  rw [← k, ← h]

/-- A change of a record. -/
theorem State.acts_setChan (s : State) (c : Channel) (r : ChannelRecord) : s.Acts (s.setChan c r) := rfl

/-- A change of a record. -/
theorem State.acts_modChan (s : State) (c : Channel) (f : ChannelRecord → ChannelRecord) : s.Acts (s.modChan c f) := rfl

/-- A change of the transmit queue. -/
theorem State.acts_setQueue (s : State) (q : List TxEntry) : s.Acts (s.setQueue q) := rfl

/-- A change of the Intent List's entries. -/
theorem State.acts_setEntries (s : State) (es : List IntentEntry) : s.Acts (s.setEntries es) := rfl

/-- A change of the bindings' records. -/
theorem State.acts_setBindings (s : State) (bs : List Binding) : s.Acts (s.setBindings bs) := rfl

/-- A change of the slots and their queue. -/
theorem State.acts_sequencer (s : State) (q : StartSequencer) : s.Acts { s with sequencer := q } := rfl

/-- A frame handed to the queue. -/
theorem State.acts_send (f : TxFrame) (s : State) : s.Acts (s.send f) := by
  obtain ⟨q, h⟩ := State.send_eq f s
  rw [h]
  exact s.acts_setQueue q

/-- A status request. -/
theorem State.acts_requestStatus (c : Channel) (s : State) : s.Acts (s.requestStatus c) := by
  obtain ⟨q, h⟩ := State.requestStatus_eq c s
  rw [h]
  exact s.acts_setQueue q

/-- Claims given up. -/
theorem State.acts_dropClaims (c : Channel) (s : State) : s.Acts (s.dropClaims c) := rfl

/-- An entry to a channel state. -/
theorem State.acts_enter (c : Channel) (f : ChannelRecord → ChannelRecord) (s : State) : s.Acts (s.enter c f) := by
  unfold State.enter
  have h : s.Acts ((s.modChan c f).dropClaims c) := (s.acts_modChan c f).trans (State.acts_dropClaims c _)
  dsimp only
  split
  · exact h
  · exact h.trans (State.acts_requestStatus c _)

/-- A fold of activities. -/
theorem State.acts_foldl {α : Type} (f : State → α → State) (h : ∀ (s : State) a, s.Acts (f s a)) (l : List α) :
    ∀ s : State, s.Acts (l.foldl f s) := by
  induction l with
  | nil => exact State.Acts.refl
  | cons a l ih => exact fun s => (h s a).trans (ih _)

/-! ### Entries -/

@[simp] theorem State.dropClaims_chan (c d : Channel) (s : State) : (s.dropClaims c).chan d = s.chan d := rfl

/-- The record after an entry. -/
@[simp] theorem State.enter_chan_self (c : Channel) (f : ChannelRecord → ChannelRecord) (s : State) :
    (s.enter c f).chan c = f (s.chan c) := by
  unfold State.enter
  dsimp only
  split <;> simp

/-- The other records. -/
theorem State.enter_chan_ne {c d : Channel} (h : d ≠ c) (f : ChannelRecord → ChannelRecord) (s : State) :
    (s.enter c f).chan d = s.chan d := by
  unfold State.enter
  dsimp only
  split <;> simp [State.modChan_chan_ne _ h]

/-- The slots and the slot queue after an entry. -/
theorem State.enter_sequencer (c : Channel) (f : ChannelRecord → ChannelRecord) (s : State) :
    (s.enter c f).sequencer = ((s.modChan c f).dropClaims c).sequencer := by
  unfold State.enter
  dsimp only
  split <;> simp

/-- An entry takes no channel into the slot queue. -/
theorem State.enter_noQueue (c : Channel) (f : ChannelRecord → ChannelRecord) (h : s.sequencer.queue = []) :
    (s.enter c f).sequencer.queue = [] := by
  rw [State.enter_sequencer]
  simp only [State.dropClaims, State.modChan_sequencer, h, List.filter_nil]
  split <;> rfl

@[simp] theorem State.enter_mode (c : Channel) (f : ChannelRecord → ChannelRecord) (s : State) :
    (s.enter c f).mode = s.mode := by
  unfold State.enter
  dsimp only
  split
  · rfl
  · rw [State.requestStatus_mode]
    rfl

@[simp] theorem State.enter_bind (c : Channel) (f : ChannelRecord → ChannelRecord) (s : State) :
    (s.enter c f).bind = s.bind := by
  unfold State.enter
  dsimp only
  split
  · rfl
  · rw [State.requestStatus_bind]
    rfl

/-! ### Faults and starts -/

/-- R119 to R122, R127: what taking a fault kind can do at its channel's record. -/
theorem State.takeFault_chan_self (c : Channel) (k : FaultKind) (s : State) :
    let r := s.chan c
    let q := (s.takeFault c k).chan c
    q = r ∨ q = r.recordFault k ∨ (r.takesFault k = true ∧ r.cfg.actionFor k = .latch ∧ q = r.latch k)
      ∨ (r.takesFault k = true ∧ r.cfg.actionFor k = .retry ∧ q = r.retryStop k) := by
  dsimp only
  unfold State.takeFault
  dsimp only
  split
  · simp
  · split
    · next h => cases e : (s.chan c).cfg.actionFor k <;> simp [h]
    · simp

/-- A fault taken at one channel leaves the other records. -/
theorem State.takeFault_chan_ne {c d : Channel} (h : d ≠ c) (k : FaultKind) (s : State) :
    (s.takeFault c k).chan d = s.chan d := by
  unfold State.takeFault
  dsimp only
  split
  · simp [State.modChan_chan_ne _ h]
  · split
    · cases (s.chan c).cfg.actionFor k <;> simp [State.enter_chan_ne h, State.modChan_chan_ne _ h]
    · rfl

/-- A fault taken. -/
theorem State.acts_takeFault (c : Channel) (k : FaultKind) (s : State) : s.Acts (s.takeFault c k) := by
  unfold State.takeFault
  dsimp only
  split
  · exact (s.acts_modChan c _).trans (State.acts_requestStatus c _)
  · split
    · cases (s.chan c).cfg.actionFor k
      · exact (State.acts_enter c _ s).trans (State.acts_requestStatus c _)
      · exact (State.acts_enter c _ s).trans (State.acts_requestStatus c _)
      · exact (s.acts_modChan c _).trans (State.acts_requestStatus c _)
      · exact State.Acts.refl s
    · exact State.Acts.refl s

/-- A start. -/
theorem State.acts_startChannel (c : Channel) (s : State) : s.Acts (s.startChannel c) := by
  unfold State.startChannel
  dsimp only
  split
  · exact (State.acts_enter c _ s).trans (State.acts_takeFault c _ _)
  · exact State.acts_enter c _ s

/-- R85: the record of a start over a NORMAL switch. -/
theorem State.startChannel_chan_self {c : Channel} (h : (s.chan c).prot.hot = false) :
    (s.startChannel c).chan c = (s.chan c).toStarting := by
  have : ((s.chan c).toStarting).prot.hot = false := h
  simp [State.startChannel, this]

/-- A start leaves the other records. -/
theorem State.startChannel_chan_ne {c d : Channel} (h : d ≠ c) (s : State) : (s.startChannel c).chan d = s.chan d := by
  unfold State.startChannel
  dsimp only
  split
  · rw [State.takeFault_chan_ne h, State.enter_chan_ne h]
  · rw [State.enter_chan_ne h]

/-- Slots handed on. -/
theorem acts_handSlotsFor (n : Nat) : ∀ s : State, s.Acts (handSlotsFor n s) := by
  induction n with
  | zero => exact State.Acts.refl
  | succ n ih =>
    intro s
    unfold handSlotsFor
    split
    · exact State.Acts.refl s
    · split
      · exact State.Acts.refl s
      · exact ((s.acts_sequencer _).trans (State.acts_startChannel _ _)).trans (ih _)

/-- Slots handed on. -/
theorem State.acts_handSlots (s : State) : s.Acts s.handSlots := acts_handSlotsFor 20 s

/-- A slot freed and handed on. -/
theorem State.acts_freeSlot (c : Channel) (s : State) : s.Acts (s.freeSlot c) :=
  (s.acts_sequencer _).trans (State.acts_handSlots _)

/-- A fault handed. -/
theorem State.acts_handFault (c : Channel) (k : FaultKind) (s : State) : s.Acts (s.handFault c k) := by
  unfold State.handFault
  split
  · exact (State.acts_freeSlot c s).trans (State.acts_takeFault c k _)
  · exact State.acts_takeFault c k s

/-- An admission. -/
theorem State.acts_admit (c : Channel) (s : State) : s.Acts (s.grantAdmission c) := by
  unfold State.grantAdmission
  dsimp only
  split
  · exact (State.acts_enter c _ s).trans (State.acts_takeFault c _ _)
  · exact ((State.acts_enter c _ s).trans (State.acts_sequencer _ _)).trans (State.acts_handSlots _)

/-- An announcement: the channel waits in PENDING, or in DEFERRED where its INTENT was refused. -/
theorem State.announce_chan_self (c : Channel) (s : State) :
    ((s.announce c).chan c = (s.chan c).idle .pending)
      ∨ ((s.announce c).chan c = ((s.chan c).idle .pending).idle .deferred) := by
  unfold State.announce
  dsimp only
  split
  · next h =>
    obtain ⟨_, q, _, e⟩ := State.offer_eq_some h
    simp [e]
  · simp

/-- An announcement leaves the other records. -/
theorem State.announce_chan_ne {c d : Channel} (h : d ≠ c) (s : State) : (s.announce c).chan d = s.chan d := by
  unfold State.announce
  dsimp only
  split
  · next h' =>
    obtain ⟨_, q, _, e⟩ := State.offer_eq_some h'
    simp [e, State.enter_chan_ne h]
  · simp [State.enter_chan_ne h]

/-- An announcement. -/
theorem State.acts_announce (c : Channel) (s : State) : s.Acts (s.announce c) := by
  unfold State.announce
  dsimp only
  split
  · next h =>
    obtain ⟨_, q, _, e⟩ := State.offer_eq_some h
    rw [e]
    exact (State.acts_enter c _ s).trans (State.acts_setQueue _ q)
  · exact (State.acts_enter c _ s).trans (State.acts_enter c _ _)

/-- An announcement undone. -/
theorem State.acts_undoAnnouncement (c : Channel) (s : State) : s.Acts (s.undoAnnouncement c) := by
  unfold State.undoAnnouncement
  split
  · exact s.acts_setQueue _
  · split
    · exact (s.acts_setEntries _).trans (State.acts_send _ _)
    · exact State.Acts.refl s

/-- An announcement undone changes no record. -/
@[simp] theorem State.undoAnnouncement_chan (c d : Channel) (s : State) : (s.undoAnnouncement c).chan d = s.chan d := by
  unfold State.undoAnnouncement
  split
  · rfl
  · split <;> simp

/-! ### Requests -/

/-- A channel that begins. -/
theorem State.acts_beginRequest (c : Channel) (s : State) : s.Acts (s.beginRequest c) := by
  unfold State.beginRequest
  split <;> first
    | exact State.Acts.refl s
    | (split <;> first
        | exact State.acts_startChannel c s
        | exact State.acts_announce c s
        | exact State.acts_enter c _ s
        | exact State.Acts.refl s)

/-- A request change. -/
theorem State.acts_applyRequest (c : Channel) (s : State) : s.Acts (s.applyRequest c) := by
  unfold State.applyRequest
  dsimp only
  split
  · exact State.Acts.refl s
  · have h := s.acts_modChan c (·.withRequest (s.chan c).effectiveRequest)
    split
    · refine h.trans ?_
      unfold State.requestRise
      split
      · exact State.acts_beginRequest c _
      · exact State.Acts.refl _
    · split
      · refine h.trans ?_
        unfold State.requestFall
        split
        · exact (State.acts_undoAnnouncement c _).trans (State.acts_enter c _ _)
        · exact (State.acts_freeSlot c _).trans (State.acts_enter c _ _)
        all_goals first | exact State.acts_enter c _ _ | exact State.Acts.refl _
      · exact h

/-- A raw request handed on. -/
theorem State.acts_setRaw (c : Channel) (v : Byte) (s : State) : s.Acts (s.setRaw c v) := by
  unfold State.setRaw
  split
  · exact State.Acts.refl s
  · exact (s.acts_modChan c _).trans (State.acts_applyRequest c _)

/-- A re-evaluation. -/
theorem State.acts_reevaluate (c : Channel) (s : State) : s.Acts (s.reevaluate c) :=
  ((s.acts_setBindings _).trans (State.acts_setRaw c _ _)).trans (State.acts_handSlots _)

/-- A changed source. -/
theorem State.acts_sourceChanged (n : Byte) (s : State) : s.Acts (s.sourceChanged n) :=
  (State.acts_foldl _ (fun s c => s.acts_modChan c _) _ s).trans
    (State.acts_foldl _ (fun s c => State.acts_reevaluate c s) _ _)

/-- Every echo taken. -/
theorem State.acts_echoed (s : State) : s.Acts s.echoed := rfl

/-- Echoes taken one after another. -/
theorem acts_settleFor (n : Nat) : ∀ s : State, s.Acts (settleFor n s) := by
  induction n with
  | zero => exact State.acts_echoed
  | succ n ih =>
    intro s
    unfold settleFor
    split
    · exact s.acts_echoed
    · next c v rest _ =>
      have h : s.Acts { s with echoes := rest } := rfl
      exact ((h.trans (State.acts_modChan _ _ _)).trans (State.acts_sourceChanged _ _)).trans (ih _)

/-- R38, R81: what follows an event writes nothing but what channel activity writes. -/
theorem State.acts_settle (s : State) : s.Acts s.settle := (State.acts_handSlots s).trans (acts_settleFor _ _)

end Sys2Proof.Machine
end

