-- ==== Sys2Proof/Laws/Settle.lean ====
section
/-! SUPPORT. Settle.lean: what follows an event: nothing but the echoes taken, where no binding follows an echo and no
channel waits for a slot (R38, R81). -/

namespace Sys2Proof.Machine

variable {s : State}

/-- With no channel waiting there is no slot to hand on. -/
theorem handSlotsFor_of_noQueue (n : Nat) (h : s.sequencer.queue = []) : handSlotsFor n s = s := by
  cases n <;> simp [handSlotsFor, h]

/-- With no channel waiting there is no slot to hand on. -/
theorem State.handSlots_of_noQueue (h : s.sequencer.queue = []) : s.handSlots = s := handSlotsFor_of_noQueue _ h

/-- With no channel waiting a freed slot stays free, and no record changes. -/
theorem State.freeSlot_chan (h : s.sequencer.queue = []) (c d : Channel) : (s.freeSlot c).chan d = s.chan d := by
  unfold State.freeSlot
  rw [State.handSlots_of_noQueue]
  · rfl
  · exact h

/-- With no channel waiting, a fault handed does at the records what the fault taken does. -/
theorem State.handFault_eq (h : s.sequencer.queue = []) (c : Channel) (k : FaultKind) :
    ∃ q, s.handFault c k = ({ s with sequencer := q } : State).takeFault c k := by
  unfold State.handFault
  split
  · unfold State.freeSlot
    rw [State.handSlots_of_noQueue]
    · exact ⟨_, rfl⟩
    · exact h
  · exact ⟨s.sequencer, rfl⟩

/-- An echo that no binding follows has no target. -/
theorem State.targetsOf_echo (h : ∀ b ∈ s.bind.bindings, b.source.toNat < 232) (c : Channel) :
    s.targetsOf (echoSource c) = [] := by
  simp only [State.targetsOf, List.filter_eq_nil_iff]
  intro d _ hd
  obtain ⟨b, hb, e⟩ := List.any_eq_true.1 hd
  have e1 : b.source = echoSource c := by simpa using (Bool.and_eq_true_iff.1 e).1
  have := h b hb
  rw [e1] at this
  simp only [echoSource, BitVec.toNat_ofNat] at this
  omega

/-- An echo change that no binding follows is taken and nothing else happens. -/
theorem State.takeEcho_of_noFollower (h : ∀ b ∈ s.bind.bindings, b.source.toNat < 232) (c : Channel) (v : Byte) :
    s.takeEcho c v = s.modChan c fun r => { r with echoTaken := v } := by
  have : (s.modChan c fun r => { r with echoTaken := v }).targetsOf (echoSource c) = [] :=
    State.targetsOf_echo (s := s.modChan c _) (by simpa using h) c
  simp [State.takeEcho, State.sourceChanged, this]

/-- The echo does not depend on what was taken of it. -/
@[simp] theorem ChannelRecord.followed_echo (r : ChannelRecord) : r.followed.echo = r.echo := rfl

/-- Taking an echo twice is taking it once. -/
@[simp] theorem ChannelRecord.followed_followed (r : ChannelRecord) : r.followed.followed = r.followed := rfl

/-- The record of a channel once every echo is taken. -/
@[simp] theorem State.echoed_chan (s : State) (c : Channel) : s.echoed.chan c = (s.chan c).followed := by
  simp [State.echoed, State.chan]

/-- Taking every echo twice is taking it once. -/
@[simp] theorem State.echoed_echoed (s : State) : s.echoed.echoed = s.echoed := by
  apply State.ext_chan
  · intro d
    simp
  · rfl

/-- Whatever was taken of one echo, and whichever changes wait, every echo taken leaves the same state. -/
theorem State.echoed_takeOne (s : State) (l : List (Channel × Byte)) (c : Channel) (v : Byte) :
    ({ s with echoes := l }.modChan c fun r => { r with echoTaken := v }).echoed = s.echoed := by
  apply State.ext_chan
  · intro d
    rw [State.echoed_chan, State.echoed_chan]
    by_cases h : d = c
    · rw [h, State.modChan_chan_self]
      rfl
    · rw [State.modChan_chan_ne _ h]
      rfl
  · rfl

/-- With no follower the echo changes are taken, and nothing else happens. -/
theorem settleFor_of_noFollower (n : Nat) :
    ∀ s : State, (∀ b ∈ s.bind.bindings, b.source.toNat < 232) → settleFor n s = s.echoed := by
  induction n with
  | zero => intro s _; rfl
  | succ n ih =>
    intro s hb
    unfold settleFor
    split
    · rfl
    · next c v rest _ =>
      have h : ∀ b ∈ ({ s with echoes := rest } : State).bind.bindings, b.source.toNat < 232 := hb
      rw [State.takeEcho_of_noFollower h, ih _ (by simpa using hb), State.echoed_takeOne]

/-- R38, R81: in a state in which nothing follows, an event is followed by the echoes taken and by nothing else. -/
theorem State.Plain.settle (h : s.Plain) : s.settle = s.echoed := by
  rw [State.settle, State.handSlots_of_noQueue h.noQueue]
  exact settleFor_of_noFollower _ _ h.noFollower

/-- Once an event has ended no echo change waits (log 13). -/
theorem settleFor_echoes (n : Nat) : ∀ s : State, (settleFor n s).echoes = [] := by
  induction n with
  | zero => intro s; rfl
  | succ n ih =>
    intro s
    unfold settleFor
    split
    · rfl
    · exact ih _

/-- Once an event has ended no echo change waits (log 13). -/
@[simp] theorem State.settle_echoes (s : State) : s.settle.echoes = [] := settleFor_echoes _ _

/-- Every echo taken leaves every other field. -/
theorem State.echoed_eq (s : State) :
    s.echoed = { s with channels := s.channels.map (·.followed), echoes := [] } := rfl

end Sys2Proof.Machine
end

