-- ==== Sys2Proof/Laws/Line.lean ====
section
/-! SUPPORT. Line.lean: what becomes of a received frame (R156, R157, R159) and of a service request (R167). -/

namespace Sys2Proof.Machine

variable {s : State}

/-- R156: in CONFIGURING a frame is dropped. -/
theorem State.receive_configuring (st : Station) (take : State → State) (h : s.mode = .configuring) :
    s.receive st take = s := by simp [State.receive, h]

/-- R158: a controller in bus-off receives no frame. -/
theorem State.receive_busOff (st : Station) (take : State → State) (h : s.line.busOff = true) :
    s.receive st take = s := by simp [State.receive, h]

/-- R156, R157: a frame of the own station number is a clash frame. -/
theorem State.receive_own (take : State → State) (h : s.mode ≠ .configuring) (b : s.line.busOff = false) :
    s.receive s.own take = s.heard.clashFrame := by simp [State.receive, h, b]

/-- R23, R56: in LISTENING only an INTENT is held back. -/
theorem State.mayOffer_listening (h : s.mode = .listening) (f : TxFrame) : s.mayOffer f = !f.isIntent := by
  simp [State.mayOffer, h]

/-- R46, R157: in CLASHED only a DRAW is held back. -/
theorem State.mayOffer_clashed (h : s.mode = .clashed) (f : TxFrame) : s.mayOffer f = !f.isDraw := by
  simp [State.mayOffer, h]

/-- R161: in the other part modes every frame may be offered. -/
theorem State.mayOffer_other (h : s.mode ≠ .listening) (k : s.mode ≠ .clashed) (f : TxFrame) :
    s.mayOffer f = true := by
  simp [State.mayOffer, h, k]

/-- R156, R159: any other frame is heard and handed on. -/
theorem State.receive_other {st : Station} (take : State → State) (h : s.mode ≠ .configuring)
    (b : s.line.busOff = false) (o : st ≠ s.own) : s.receive st take = take s.heardFrame := by
  have : s.heard.endIsolation = s.heardFrame := by
    unfold State.endIsolation State.heardFrame
    by_cases i : s.mode = .isolated
    · have : s.heard.mode = .isolated := i
      rw [if_pos this, if_pos i]
      simp only [State.holdBack, State.txQueue]
      rw [show (fun e : TxEntry => _) = fun e : TxEntry => if e.frame.isIntent then { e with attempt := none } else e from ?_]
      · rfl
      · funext e
        rw [State.mayOffer_listening rfl]
        cases e.frame.isIntent <;> rfl
    · have : s.heard.mode ≠ .isolated := i
      rw [if_neg this, if_neg i]
      rfl
  simp [State.receive, h, b, o, this]

/-- R157: a clash frame after the first changes nothing. -/
theorem State.clashFrame_again (h : s.line.clashMark = true) : s.clashFrame = s := by simp [State.clashFrame, h]

/-- Hearing a frame leaves these fields. -/
@[simp] theorem State.heardFrame_chan (s : State) (c : Channel) : s.heardFrame.chan c = s.chan c := by
  unfold State.heardFrame
  split <;> rfl

@[simp] theorem State.heardFrame_bind (s : State) : s.heardFrame.bind = s.bind := by
  unfold State.heardFrame
  split <;> rfl

@[simp] theorem State.heardFrame_intents (s : State) : s.heardFrame.intents = s.intents := by
  unfold State.heardFrame
  split <;> rfl

@[simp] theorem State.heardFrame_sequencer (s : State) : s.heardFrame.sequencer = s.sequencer := by
  unfold State.heardFrame
  split <;> rfl

@[simp] theorem State.heardFrame_feed (s : State) : s.heardFrame.feed = s.feed := by
  unfold State.heardFrame
  split <;> rfl

@[simp] theorem State.heardFrame_events (s : State) : s.heardFrame.events = s.events := by
  unfold State.heardFrame
  split <;> rfl

@[simp] theorem State.heardFrame_service (s : State) : s.heardFrame.service = s.service := by
  unfold State.heardFrame
  split <;> rfl

@[simp] theorem State.heardFrame_budget (s : State) : s.heardFrame.budget = s.budget := by
  unfold State.heardFrame
  split <;> rfl

/-- Hearing a frame changes attempts alone in the transmit queue. -/
theorem State.heardFrame_frames (s : State) :
    s.heardFrame.txQueue.map (·.frame) = s.txQueue.map (·.frame) := by
  unfold State.heardFrame
  split
  · simp only [State.txQueue, List.map_map]
    congr 1
    funext e
    simp only [Function.comp]
    split <;> rfl
  · rfl

@[simp] theorem State.heardFrame_echoes (s : State) : s.heardFrame.echoes = s.echoes := by
  unfold State.heardFrame
  split <;> rfl

@[simp] theorem State.heardFrame_own (s : State) : s.heardFrame.own = s.own := by
  unfold State.heardFrame
  split <;> rfl

/-- R159: the part mode once a frame is heard. -/
theorem State.heardFrame_mode (s : State) :
    s.heardFrame.mode = if s.mode = .isolated then .listening else s.mode := by
  unfold State.heardFrame
  split <;> rfl

/-- A frame heard gives nothing a follower. -/
theorem State.Plain.heardFrame (h : s.Plain) : s.heardFrame.Plain :=
  ⟨by rw [State.heardFrame_bind]; exact h.noFollower, by rw [State.heardFrame_sequencer]; exact h.noQueue⟩

/-! ### Service requests -/

variable {st : Station} {byte0 : Byte} {inLimp rejected : Bool} {run : State → State}

/-- R167: a station outside the mask is ignored. -/
theorem State.serve_masked (h : inMask s.service.mask st = false) : s.serve st byte0 inLimp rejected run = s := by
  simp [State.serve, h]

/-- R167: BUSY while a request is in progress. -/
theorem State.serve_busy (h : inMask s.service.mask st = true) (q : s.service.request.isSome = true) :
    s.serve st byte0 inLimp rejected run = s.answer st byte0 resultBusy := by
  simp [State.serve, h, q]

/-- R167: REJECTED. -/
theorem State.serve_rejected (h : inMask s.service.mask st = true) (q : s.service.request.isSome = false)
    (r : (rejected || (s.mode == .limp && !inLimp)) = true) :
    s.serve st byte0 inLimp rejected run = s.answer st byte0 resultRejected := by
  simp [State.serve, h, q, r]

/-- R167: carried out. -/
theorem State.serve_run (h : inMask s.service.mask st = true) (q : s.service.request.isSome = false)
    (r : (rejected || (s.mode == .limp && !inLimp)) = false) :
    s.serve st byte0 inLimp rejected run = run s := by
  simp [State.serve, h, q, r]

/-- R160, R167: a reply that has room joins the queue. -/
theorem State.answer_of_room (h : s.replyRoom) (result : Nat) :
    s.answer st byte0 result = s.withFrame (.reply st (shortReply byte0 result) false) := by
  have h1 : otherCount s.txQueue < 5 := by
    refine lt_of_le_of_lt (le_of_eq ?_) h.1
    unfold otherCount State.queued State.txQueue
    congr 1
  have h2 : statusReplyCount s.txQueue < 4 := by
    refine lt_of_le_of_lt (le_of_eq ?_) h.2
    unfold statusReplyCount State.queued State.txQueue
    congr 1
    apply List.filter_congr
    intro e _
    cases e.frame <;> rfl
  have hr : hasRoom (.reply st (shortReply byte0 result) false) s.txQueue = true := by
    simp [hasRoom, Config.otherEntries, Config.statusReplyEntries, h1, h2]
  have hd : s.discards (.reply st (shortReply byte0 result) false) = false := by
    simp [State.discards, TxFrame.kind, TxFrame.isDraw]
  have : TxFrame.isDraw (.reply st (shortReply byte0 result) false) = false := rfl
  simp only [State.answer, State.send, State.offer, hd, offerTo, hr, this]
  rfl

end Sys2Proof.Machine
end

