-- ==== Sys2Proof/WellFormed.lean ====
section
/-! DEFINITION. WellFormed.lean: the operand ranges the rules give the commands. Ranges that a type already keeps
(a channel, a station, a frame field) need no check. -/

namespace Sys2Proof

/-- The operands lie in the ranges of the rules that name them. -/
def Instr.wellFormed : Instr → Bool
  /- R174: the read brings 848 bytes. -/
  | .configurationReadEnd image => image.length == 848
  /- R133: whole numbers of 0.1 V from 0 to 1023. -/
  | .feedMeasurement _ volts => volts ≤ 1023
  | .ksupMeasurement volts => volts ≤ 1023
  /- R101: whole dA from 0 to 1023. -/
  | .currentSample _ current _ => current ≤ 1023
  /- R27, R181: one to four pairs. -/
  | .signal _ entries => 1 ≤ entries.length && entries.length ≤ 4
  /- Every other operand's range is kept by its type. -/
  | .resetRelease _ | .serviceRestart _ | .bandFall | .bandRise | .dieTemperatureMeasurement _ | .pwmPeriodStart _
  | .update _ | .stall _ | .openLoad _ | .retryTimerExpiry _ | .cleanRunTimerExpiry _ | .wiredInputPinChange _ _
  | .debounceExpiry _ | .ageingStep | .draw _ _ _ _ _ | .peerEntryStale _ | .peerEntryRemoval _ | .intent _ _ _ _ _
  | .withdraw _ _ | .overflowTimerExpiry | .peerIntentAgeExpiry _ _ | .otherFrameReceived _ | .silenceTimeout
  | .busOff | .busOffRecovery | .listenExpiry | .holdExpiry _ | .budgetRound | .windowEnd _ | .phaseTimerExpiry _
  | .autoOffExpiry _ | .overrideExpiry _ | .transmissionStart | .transmissionCompletion | .transmissionFailure
  | .queueExpiry _ | .statusRoll | .serviceReplyQueued | .replyListDiscard | .clearFault _ _ | .clearEvents _ _ _
  | .readChannel _ _ | .readPeers _ | .readEvents _ | .override _ _ _ _ | .restart _ | .unknownCommand _ _ => true

end Sys2Proof
end

