-- ==== Sys2Proof/Tests/Slice0.lean ====
section
/-! SUPPORT. Slice0.lean: the tests of the model. Expected values come from the spec's worked figures, named at each test. A
theorem `witness_…` shows a state and operands that meet the hypotheses of the statement it names. -/

set_option Elab.async false

namespace Sys2Proof.Tests

open Sys2Proof.Machine

/-! ### Well-formed commands -/

theorem test_wellFormed_image : (Instr.configurationReadEnd []).wellFormed = false := by decide
theorem test_wellFormed_feed : (Instr.feedMeasurement 0 1024).wellFormed = false := by decide
theorem test_wellFormed_ksup : (Instr.ksupMeasurement 1024).wellFormed = false := by decide
theorem test_wellFormed_current : (Instr.currentSample 0 1024 20).wellFormed = false := by decide
theorem test_wellFormed_noPair : (Instr.signal 1 []).wellFormed = false := by decide
theorem test_wellFormed_fivePairs : (Instr.signal 1 (List.replicate 5 (0, 0))).wellFormed = false := by decide
theorem test_wellFormed_fourPairs : (Instr.signal 1 (List.replicate 4 (0, 0))).wellFormed = true := by decide

/-! ### Frames (chapter 12) -/

/-- Section 12.2: INTENT from station 7, channel 9, tier 2, booking 200, window 10, written out bit by bit. -/
theorem test_decode_intent :
    commandOfFrame 3 ⟨0b00001110000#11, [0b00001001#8, 0b00000010#8, 0#8, 0b11001000#8, 0b00001010#8]⟩
      = .intent 7 9 2 200 10 := by decide

/-- Section 12.2: WITHDRAW from station 7 for channel 9. -/
theorem test_decode_withdraw : commandOfFrame 3 ⟨0b00001110000#11, [0b10001001#8]⟩ = .withdraw 7 9 := by decide

/-- Section 12.2: DRAW from station 1: band 3, bookings 400, 300, 500, 0. -/
theorem test_decode_draw :
    commandOfFrame 3 ⟨0b00100010000#11, [0b01100001#8, 0b10010000#8, 1#8, 44#8, 1#8, 244#8, 0#8, 0#8]⟩
      = .draw 1 (BitVec.ofNat 16 (3 * 8192 + 400)) 300 500 0 := by decide

/-- Section 12.2: SIGNAL 40 = 200 from station 7; a frame bearing the own number is no signal. -/
theorem test_decode_signal :
    commandOfFrame 3 ⟨0b01001110000#11, [40#8, 200#8]⟩ = .signal 7 [(40, 200)]
      ∧ commandOfFrame 7 ⟨0b01001110000#11, [40#8, 200#8]⟩ = .otherFrameReceived 7 := by decide

/-- Section 12.3: OVERRIDE from station 12 to station 3; an unknown code; a request to another station. -/
theorem test_decode_service :
    commandOfFrame 3 ⟨0b01111000011#11, [6#8, 5#8, 255#8, 200#8]⟩ = .override 12 5 255 200
      ∧ commandOfFrame 3 ⟨0b01111000011#11, [9#8]⟩ = .unknownCommand 12 9
      ∧ commandOfFrame 4 ⟨0b01111000011#11, [9#8]⟩ = .otherFrameReceived 12 := by decide

/-- No row of the table gives bits. -/
theorem test_decodeTableWord : decodeTableWord 8 1 = none := by decide

/-- R174: the check value of this CRC for the nine digits is 29B1 hex. -/
theorem test_crc : crc16 [0x31, 0x32, 0x33, 0x34, 0x35, 0x36, 0x37, 0x38, 0x39] = 0x29B1#16 := by decide +kernel

/-! ### States for the tests -/

/-- Static fields in the ranges of R2. -/
def fields : ChannelConfig :=
  { ChannelConfig.blank with
    tier := 2, accepted := ⟨true, true, true⟩, nominal := 120, iTrip := 200, heatExp := 8, shortThreshold := 600
    openThreshold := 10, stallThreshold := 200, stallTime := 5, inrushWindow := 5, shortMode := .retry
    overloadMode := .latch, startfailMode := .retry, stallMode := .retry, openMode := .report, retryTime := 5
    retryLimit := 2, onCount := 1, offCount := 1, autoOffTime := 60, minDuty := 40, throttleable := true }

/-- A channel in OFF with those fields, its heat model running. -/
def idleRecord : ChannelRecord :=
  { ChannelRecord.reset 0 .empty with
    cfg := fields, prot := { Protection.reset 0 with update := some 10, cool := true } }

/-- The part of station 3 in RUNNING, with an A_cfg of 3000 dA. -/
def part : State :=
  { State.reset with
    loader := ⟨.running, 3, some .cold, some .memory⟩
    channels := Vector.replicate 20 idleRecord
    bind := ⟨[], [], some 10, none⟩
    budget := ⟨some ⟨3000, 70, 40, 100, 2, Vector.replicate 4 600⟩, some 100, some .charging, some .charging, some 3000,
      false⟩
    feed := ⟨Vector.replicate 4 (some .inRange), 278, some ⟨270, 240, 200⟩, some .charging, 0, 0, .normal⟩
    line := ⟨some 0, false, false, none, false, []⟩
    events := ⟨0, BitVec.allOnes 11, BitVec.allOnes 20, 0, some 50⟩
    service := ⟨BitVec.allOnes 16, none, false⟩ }

/-- The state after a command that completes. -/
def after (i : Instr) (s : State) : State :=
  match exec i s with
  | .next t => t
  | .fault _ | .refused _ => s

/-- A channel's record changed, with no echo change left waiting. -/
def with_ (c : Channel) (f : ChannelRecord → ChannelRecord) (s : State) : State := { s.modChan c f with echoes := [] }

/-- A record that asks for a level. -/
def asking (v : Byte) (r : ChannelRecord) : ChannelRecord :=
  { r with raw := v, eff := v, duty := r.cfg.dutyFor v }

/-- A record that runs in ON at a level. -/
def running (v : Byte) (r : ChannelRecord) : ChannelRecord :=
  let r := asking v r
  { r with
    state := .on, booking := r.cfg.bookingFor r.duty false, cleanRun := some 0, span := 255, echoTaken := r.duty
    prot := { r.prot with sinceOn := 10 } }

/-- A record that runs a start whose record is `u`. -/
def starting (v : Byte) (u : StartRecord) (r : ChannelRecord) : ChannelRecord :=
  let r := asking v r
  { r with
    state := .starting, booking := r.cfg.bookingFor r.duty false, start := some u, span := 255, echoTaken := r.duty }

/-- CH9 in ON at 255. -/
def on9 : State := with_ 9 (running 255) part

/-- A start record of window 2 with two periods run. -/
def start2 : StartRecord := ⟨2, 10, 2, 191, [], 10, [0, 0], [], false, false⟩

/-- CH9 in STARTING. -/
def starting9 : State := with_ 9 (starting 255 start2) part

/-- CH9 in COOLDOWN with its timer at its end. -/
def cooldown9 : State :=
  with_ 9 (fun r => { asking 255 r with state := .cooldown, active := some .short, retryCount := 1, retry := some 0 }) part

/-- CH9 in CYCLING, at the end of its on-phase. -/
def cycling9 : State :=
  with_ 9 (fun r => { running 255 r with
    cfg := { r.cfg with dutyMode := .slowCycle }, state := .cycling, throttled := true, booking := 60
    phase := some ⟨true, 0⟩ }) part

/-- A SWITCH binding of signal 40 at CH9. -/
def switch9 : Binding := ⟨0, 40, 9, .switch, 100, 0xFFFF#16, 0, .off, false, 0, 0⟩

/-- The part watching signal 40 for CH9. -/
def watching : State := { part with bind := ⟨[switch9], [⟨40, 0, none, 0, false⟩], some 10, none⟩ }

/-- An image of 848 bytes with a good CRC over this body. -/
def sealed (body : List Byte) : List Byte :=
  let c := crc16 body
  c.extractLsb' 8 8 :: c.setWidth 8 :: body

/-- The same with byte 0 spoilt. -/
def broken (body : List Byte) : List Byte :=
  let c := crc16 body
  ~~~c.extractLsb' 8 8 :: c.setWidth 8 :: body

/-- A body of version 1 with every other byte 0, and some bytes set. -/
def body (sets : List (Nat × Byte)) : List Byte :=
  sets.foldl (fun l p => l.set (p.1 - 2) p.2) (1#8 :: List.replicate 845 0#8)

/-- Section 2.9: the echo records 3, 4 and 7, which chain CH7 to CH6 to CH5 to CH4. -/
def chained : List (Nat × Byte) :=
  [(616, 0x80), (617, 236), (618, 5), (624, 0x80), (625, 237), (626, 6), (648, 0x80), (649, 238), (650, 7)]

/-- The bytes of an image with a good CRC, version 1 and those records. -/
def goodImage : List Byte := sealed (body chained)

/-- The part waiting for its read. -/
def waiting : State := after (.feedMeasurement 0 275) (after (.resetRelease 5) State.reset)

theorem plainOf {s : State} (h : (s.bind.bindings.all fun b => decide (b.source.toNat < 232)) = true)
    (q : s.sequencer.queue = []) : s.Plain :=
  ⟨fun b hb => by simpa using List.all_eq_true.1 h b hb, q⟩

theorem unbegunOf {s : State} (h : ∀ c, (s.chan c).Unbegun) (b : s.bind.bindings = []) (q : s.sequencer.queue = []) :
    s.Unbegun := ⟨h, b, q⟩

/-! ### Commands and the queue -/

/-- CH9 with five timers one millisecond before their ends. -/
def timed9 : ChannelRecord := { cycling9.chan 9 with
  autoOff := some 1, override := some ⟨255, 1⟩, phase := some ⟨true, 1⟩, cleanRun := some 9999
  prot := { idleRecord.prot with update := some 1 } }

/-- CH8 with its window and its retry timer one millisecond before their ends. -/
def timed8 : ChannelRecord := { starting 255 { start2 with left := 1 } idleRecord with retry := some 1 }

/-- The part with one timer of each kind one millisecond before its end; CH7 in the last millisecond of a period. -/
def timed : State := { with_ 9 (fun _ => timed9) (with_ 8 (fun _ => timed8) (with_ 7 (fun r => { running 255 r with pwmPos := 4 }) part)) with
  wired := part.wired.set 0 ⟨true, false, some 1⟩
  bind := ⟨[], [], some 1, none⟩
  peers := [⟨1, ⟨400, 300, 500, 0⟩, .charging, 349, false⟩, ⟨2, ⟨0, 0, 0, 0⟩, .low, 999, true⟩]
  intents := ⟨[⟨3, 9, 1, 60, 2, 39, 0, some 1⟩, ⟨1, 4, 1, 60, 2, 499, 0, none⟩], some 1⟩
  line := ⟨some 499, false, false, some 1, true,
    [⟨.intent 4 1 60 2, 199, none⟩, ⟨.reply 12 [1, 0] true, 499, none⟩, ⟨.status 4, 999, none⟩]⟩
  service := { part.service with request := some ⟨12, [], 499, false⟩ }
  budget := { part.budget with round := some 1 }
  events := { part.events with roll := some 1 } }

/-- CH9 in ON with both detectors at their counts, and the band timers at theirs. -/
def counted : State :=
  { with_ 9 (fun r => { running 255 r with prot := { r.prot with stallTimer := 50, openTimer := 50 } }) part with
    feed := { part.feed with fall := 20, rise := 500 } }

/-- BAND_RISE waits in front of BAND_FALL; a restart is owed; four counts stand; a reply waits with room; a STATUS may be
offered; nothing is due, and every timer named stands one millisecond before its end. -/
theorem witness_StepTakesTheFrontCommand :
    ({ part with pending := [.bandRise, .bandFall] } : State).pending = .bandRise :: [.bandFall] ∧ part.pending = []
      ∧ ({ part.service with restartDue := true } : ServiceUnit).restartDue = true
      ∧ (⟨12, [[1]], 0, false⟩ : ServiceRequest).replies = [1] :: []
      ∧ otherCount part.line.queue < 5 ∧ part.line.busOff = false ∧ part.mayOffer (.status 4) = true
      ∧ timed.pending = [] ∧ timed.dueNow = [] ∧ (timed.chan 9).autoOff = some 1 ∧ (timed.chan 8).retry = some 1
      ∧ (timed.chan 7).pwmPos = 4 ∧ counted.pending = [] ∧ counted.dueNow = [.stall 9, .openLoad 9, .bandFall, .bandRise] := by
  decide +kernel

/-- The order of log 5, from the ends of section 4.1's timers. -/
theorem test_expiries_in_order :
    timed.expiries = [.queueExpiry 2, .queueExpiry 1, .queueExpiry 0, .debounceExpiry 0, .ageingStep, .pwmPeriodStart 7, .windowEnd 8, .retryTimerExpiry 8, .update 9,
      .cleanRunTimerExpiry 9, .phaseTimerExpiry 9, .autoOffExpiry 9, .overrideExpiry 9, .peerEntryStale 1,
      .peerEntryRemoval 2, .holdExpiry 9, .peerIntentAgeExpiry 1 4, .overflowTimerExpiry,
      .replyListDiscard, .silenceTimeout, .listenExpiry, .budgetRound, .statusRoll] := by decide +kernel

theorem test_step_runs_the_front :
    step { part with pending := [.ksupMeasurement 265] } = exec (.ksupMeasurement 265) part := rfl

/-- R174: a read brings 848 bytes. -/
theorem test_read_of_another_length : exec (.configurationReadEnd [1]) part = .fault .imageLength := rfl

theorem witness_CommandsKeepToTheirBlocks :
    ∃ t, exec (.wiredInputPinChange 0 true) part = .next t ∧ t.wired[(0 : WiredInput)] = ⟨true, false, some 20⟩ :=
  ⟨_, rfl, by decide +kernel⟩

/-- An idle step counts one millisecond (log 1). -/
theorem test_idle_step_counts :
    (match step part with
      | .next t => t.budget.round
      | .fault _ | .refused _ => none) = some 99 := by decide +kernel

/-! ### What every step keeps -/

theorem chan_part (c : Channel) : part.chan c = idleRecord := by simp [part, State.chan]

/-- The part with a command waiting takes a step. -/
theorem witness_EveryStepKeepsChannelsSound :
    ({ part with pending := [.busOff] } : State).Sound ∧ step { part with pending := [.busOff] } = exec .busOff part := by
  refine ⟨fun c => ?_, rfl⟩
  show (part.chan c).Sound
  rw [chan_part]
  exact ⟨by decide, by decide, by decide, by decide, by decide, by decide, by decide⟩

theorem witness_EveryStepKeepsBookingRules : part.Ruled := by
  refine ⟨fun c => ?_, by decide, fun h => absurd h (by decide)⟩
  rw [chan_part]
  exact ⟨by decide, by decide, by decide, by decide, by decide, by decide⟩

/-- CH14 and CH16 hold the slots, CH7 and CH11 wait, as section 5.7 has them at 10 ms. -/
def slotted : State :=
  let u : StartRecord := ⟨5, 30, 0, 64, [], 0, [], [], false, false⟩
  let wait := fun (r : ChannelRecord) => { asking 255 r with state := .slotwait, booking := 120 }
  { with_ 14 (starting 255 u) (with_ 16 (starting 255 u) (with_ 7 wait (with_ 11
      (fun r => { wait r with cfg := { r.cfg with tier := 3 } }) part))) with
    sequencer := ⟨some 14, some 16, [7, 11]⟩ }

theorem witness_EveryStepKeepsSlotsSound : slotted.SlotsSound :=
  ⟨by decide +kernel, by decide +kernel, by decide +kernel, by decide +kernel, by decide, by
    unfold State.before
    decide +kernel, by decide +kernel, by decide +kernel⟩

/-- A queue at all three limits of R160. -/
def fullQueue : List TxEntry :=
  [⟨.intent 1 2 61 5, 0, none⟩, ⟨.status 0, 0, none⟩, ⟨.status 1, 0, none⟩, ⟨.reply 12 [1, 0] false, 0, some ⟨0, []⟩⟩,
    ⟨.status 2, 0, none⟩, ⟨.draw .charging ⟨0, 0, 0, 0⟩, 0, none⟩]

theorem witness_EveryStepKeepsQueueLimits : (part.setQueue fullQueue).QueueSound :=
  ⟨by decide +kernel, by decide +kernel, by decide +kernel, by decide +kernel, by decide +kernel⟩

/-- Section 3.6: the Peer Table of stations 1 and 7, and the Intent List after 55 ms. -/
def coach : State :=
  { part with
    peers := [⟨1, ⟨400, 300, 500, 0⟩, .charging, 0, false⟩, ⟨7, ⟨200, 250, 300, 100⟩, .battery, 0, false⟩]
    intents := ⟨[⟨1, 4, 1, 120, 3, 43, 1, none⟩, ⟨3, 10, 1, 60, 2, 22, 0, some 18⟩, ⟨7, 9, 2, 200, 10, 0, 0, none⟩], none⟩ }

/-- CH10 in PENDING with its own entry, and CH12 with an INTENT that waits. -/
theorem witness_EveryStepKeepsTablesSound :
    let pending := fun r : ChannelRecord => { asking 255 r with state := .pending }
    (with_ 10 pending (with_ 12 pending (coach.setQueue [⟨.intent 12 2 61 5, 0, none⟩]))).TablesSound := by
  constructor <;> decide +kernel

theorem bandSound_part : part.BandSound :=
  ⟨by
    intro th h
    cases h
    decide, by decide, by decide, by decide, by
    intro _ k h
    cases h
    decide, by decide⟩

/-- An own band of CHARGING alone, and the lower band of a LIVE peer. -/
theorem witness_EveryStepKeepsBandSound :
    part.BandSound ∧ State.BandSound { coach with
      budget := { part.budget with worst := some .battery, allowance := some 2100 } } := by
  refine ⟨bandSound_part, ?_, by decide, by decide, by decide, ?_, by decide⟩
  · intro th h
    cases h
    decide
  · intro _ k h
    cases h
    decide

theorem witness_EveryStepKeepsHeatInRange : ∀ c, (part.chan c).HeatSound := by
  intro c
  rw [chan_part]
  exact ⟨by decide, by decide⟩

/-! ### Start-up (chapter 11) -/

/-- R172 and section 11.6: station 5, the reset kind still undecided. -/
theorem test_reset_release :
    (after (.resetRelease 5) on9).loader = ⟨.configuring, 5, none, none⟩
      ∧ ((after (.resetRelease 5) on9).chan 9).state = .off := by decide +kernel

/-- R179, R24: a service restart keeps θ and the fault record. -/
theorem test_service_restart :
    let s := with_ 9 (fun r => { r with faults := { r.faults with short := true }, prot := { r.prot with theta := 77 } }) on9
    let t := after (.serviceRestart 5) s
    t.loader.resetKind = some .serviceRestart ∧ (t.chan 9).prot.theta = 77 ∧ (t.chan 9).faults.short = true
      ∧ (t.chan 9).state = .off := by decide +kernel

/-- Section 11.6: a first measurement of 27.5 V makes the reset warm. -/
theorem test_reset_kind : waiting.loader.resetKind = some .warm := by decide +kernel

/-- R174: bytes 0 and 1 hold the CRC of the others. -/
theorem crcGood_sealed (l : List Byte) : imageCrcGood (sealed l) = true := by
  have h := (crc16 l).isLt
  simp only [imageCrcGood, imageWord, imageByte, sealed, List.drop_succ_cons, List.drop_zero, beq_iff_eq]
  simp [Nat.shiftRight_eq_div_pow]
  omega

/-- R174: another byte 0 fails the CRC test. -/
theorem crcBad_broken (l : List Byte) : imageCrcGood (broken l) = false := by
  have h := (crc16 l).isLt
  simp only [imageCrcGood, imageWord, imageByte, broken, List.drop_succ_cons, List.drop_zero, beq_eq_false_iff_ne, ne_eq]
  simp [Nat.shiftRight_eq_div_pow]
  omega

/-- R174: neither all ones nor all zeros where the version byte is between. -/
theorem present_of (a b v : Byte) (l : List Byte) (h : v ≠ 255) (h' : v ≠ 0) : imageMissing (a :: b :: v :: l) = false := by
  simp only [imageMissing, List.all_cons, Bool.or_eq_false_iff, Bool.and_eq_false_iff, beq_eq_false_iff_ne]
  exact ⟨.inr (.inr (.inl h)), .inr (.inr (.inl h'))⟩

/-- R174: the second test fails. -/
theorem verdict_crc (l : List Byte) (h : imageMissing l = false) (c : imageCrcGood l = false) : imageVerdict l = .crc := by
  simp [imageVerdict, h, c]

/-- R174: the third test fails. -/
theorem verdict_version (l : List Byte) (h : imageMissing l = false) (c : imageCrcGood l = true) (v : imageByte l 2 ≠ 1) :
    imageVerdict l = .version := by
  simp [imageVerdict, h, c, v]

/-- The good image passes the three tests. -/
theorem verdict_good : imageVerdict goodImage = .memory := by
  have e : body chained = 1#8 :: (body chained).tail := by decide +kernel
  have h : imageMissing goodImage = false := by
    unfold goodImage sealed
    rw [e]
    exact present_of _ _ 1#8 _ (by decide) (by decide)
  have v : imageByte goodImage 2 = 1 := by
    unfold goodImage sealed
    rw [e]
    rfl
  have c : imageCrcGood goodImage = true := crcGood_sealed _
  simp [imageVerdict, h, c, v]

/-- An image of each verdict: all ones, all zeros, a bad CRC, another version, and a good one. -/
theorem witness_ReadEndJudgesTheImage :
    imageVerdict (List.replicate 848 255#8) = .missing ∧ imageVerdict (List.replicate 848 0#8) = .missing
      ∧ imageVerdict (broken (body [])) = .crc ∧ imageVerdict (sealed (7#8 :: List.replicate 845 0#8)) = .version
      ∧ imageVerdict goodImage = .memory ∧ waiting.mode = .configuring ∧ part.mode ≠ .configuring := by
  refine ⟨by decide +kernel, by decide +kernel, ?_, ?_, ?_, by decide +kernel, by decide⟩
  · exact verdict_crc _ (present_of _ _ 1#8 _ (by decide) (by decide)) (crcBad_broken _)
  · exact verdict_version _ (present_of _ _ 7#8 _ (by decide) (by decide)) (crcGood_sealed _) (show (7 : Nat) ≠ 1 by decide)
  · exact verdict_good

theorem length_goodImage : goodImage.length = 848 := by decide +kernel

theorem unbegun_waiting : waiting.Unbegun := by
  refine unbegunOf (fun c => ?_) (by decide +kernel) (by decide +kernel)
  unfold ChannelRecord.Unbegun
  revert c
  decide +kernel

theorem witness_FailedReadEntersLimp :
    (List.replicate 848 0#8).length = 848 ∧ waiting.mode = .configuring ∧ waiting.Unbegun
      ∧ imageVerdict (List.replicate 848 0#8) ≠ .memory :=
  ⟨by decide +kernel, by decide +kernel, unbegun_waiting, by decide +kernel⟩

theorem ruledOf {s : State}
    (h : ∀ c, let r := s.chan c
      r.eff = r.effectiveRequest ∧ r.duty = r.cfg.dutyFor r.eff
        ∧ (r.state.books → r.booking = r.cfg.bookingFor r.duty r.throttled)
        ∧ (r.state.books = false → r.booking = 0 ∧ r.throttled = false) ∧ r.retryCount ≤ r.cfg.retryLimit + 1
        ∧ (r.cfg.retryLimit < r.retryCount → r.state = .latched))
    (q : s.sequencer.queue = []) (m : s.mode = .configuring → s.Unbegun) : s.Ruled :=
  ⟨fun c => ⟨(h c).1, (h c).2.1, (h c).2.2.1, (h c).2.2.2.1, (h c).2.2.2.2.1, (h c).2.2.2.2.2⟩, by simp [q], m⟩

theorem witness_PassedReadEntersListening :
    goodImage.length = 848 ∧ waiting.mode = .configuring ∧ waiting.Ruled ∧ waiting.Unbegun ∧ waiting.peers = []
      ∧ imageVerdict goodImage = .memory :=
  ⟨length_goodImage, by decide +kernel, ruledOf (by decide +kernel) (by decide +kernel) fun _ => unbegun_waiting,
    unbegun_waiting, by decide +kernel, verdict_good⟩

/-- R24 and R178: after a warm reset LIMP begins with θ at 5000, and follows its inputs. -/
theorem test_limp :
    let t := after (.configurationReadEnd (List.replicate 848 0#8)) waiting
    t.mode = .limp ∧ (t.chan 0).prot.theta = 5000 ∧ t.loader.source = some .missing ∧ t.eventSet .limp = true := by
  decide +kernel

/-- Section 11.6: t_b written equal to t_c becomes t_c − 1. -/
theorem test_thresholds : clampThresholds 270 270 200 = ⟨270, 269, 200⟩ := by decide

/-- Section 2.9: the records kept of the worked example: 3, 4, 7 and 15. -/
theorem test_follow_check :
    let b := fun i source target => (⟨i, source, target, .switch, 1, 0, 0, .off, true, 0, 0⟩ : Binding)
    (followCheck [] [b 3 236 5, b 4 237 6, b 7 238 7, b 9 239 8, b 12 238 4, b 15 236 9, b 22 242 4]).1.map (·.index)
      = [3, 4, 7, 15] := by decide +kernel

/-- Section 2.9: records 3, 4 and 7 make a chain of three edges. -/
theorem witness_FollowChainsAreShort :
    let vs := validBindings goodImage
    vs.map (·.source) = [236, 237, 238] ∧ vs.reverse.map (·.target) = [7, 6, 5]
      ∧ vs.reverse.IsChain (fun a b => a.source.toNat = 232 + b.target.val) := by decide +kernel

/-- Records of defined codes: 0 on a link signal, 1 on its own target's echo, and of `chained` 3. -/
theorem witness_FollowChainsAreShort_kept :
    let image := body ([(590, 0x80), (591, 40), (592, 4), (598, 0x80), (599, 236), (600, 4)].map fun p => (p.1 + 2, p.2))
    let byte := fun i j => (([0, 0] ++ image).getD (592 + 8 * i + j) 0).toNat
    128 ≤ byte 0 0 ∧ byte 0 0 / 16 % 4 < 3 ∧ byte 0 0 % 4 < 3 ∧ byte 0 2 < 20 ∧ byte 0 1 < 232
      ∧ 128 ≤ byte 1 0 ∧ byte 1 2 < 20 ∧ 232 ≤ byte 1 1 ∧ byte 1 1 < 252
      ∧ (validBindings ([0, 0] ++ image)).map (·.index) = [0] := by decide +kernel

/-! ### Requests (chapters 1 and 2) -/

/-- Section 1.4: 61 dA at 128, and 19 dA at the minimum duty of 40. -/
theorem test_booking_pwm :
    fields.bookingFor (fields.dutyFor 128) false = 61 ∧ fields.bookingFor (fields.dutyFor 10) false = 19 := by decide

/-- Section 1.4: a heater of 160 dA throttled with n = 3, m = 1 books 107 dA, and with n = m = 1 80 dA. -/
theorem test_booking_throttled :
    let k := { fields with dutyMode := .slowCycle, nominal := 160 }
    { k with onCount := 3 }.bookingFor 255 true = 107 ∧ k.bookingFor 255 true = 80 := by decide

theorem witness_LevelsOfAChannel :
    let r := { asking 10 idleRecord with override := some ⟨200, 100⟩ }
    let q := { r with override := none, hold := true }
    r.override = some ⟨200, 100⟩ ∧ q.override = none ∧ q.hold = true ∧ { q with hold := false }.hold = false
      ∧ r.cfg.dutyMode = .pwm ∧ (cycling9.chan 9).cfg.dutyMode = .slowCycle := by decide +kernel

/-- Section 2.8, 100 ms: a wired or taken source is FRESH. -/
theorem witness_FreshBindingOutput :
    part.judgeFresh { switch9 with source := 224 } = true
      ∧ (after (.signal 7 [(40, 200)]) watching).judgeFresh switch9 = true := by decide +kernel

/-- The ways of R31: NEVER, no publisher, a publisher outside the mask, and an age one step past the time; back to FRESH at
that time; and a good image. -/
theorem witness_StaleBindingOutput :
    let at_ := fun e : SignalEntry => ({ part with bind := ⟨[], [e], some 10, none⟩ } : State)
    let timed : Binding := { switch9 with staleness := 20 }
    (at_ ⟨40, 0, none, 0, false⟩).judgeFresh switch9 = false ∧ (at_ ⟨40, 9, none, 0, true⟩).judgeFresh switch9 = false
      ∧ (at_ ⟨40, 9, some 7, 0, true⟩).judgeFresh { switch9 with mask := 2#16 } = false
      ∧ (at_ ⟨40, 9, some 7, 21, true⟩).judgeFresh timed = false
      ∧ (at_ ⟨40, 9, some 7, 20, true⟩).judgeFresh timed = true
      ∧ goodImage.length = 848 ∧ waiting.mode = .configuring ∧ waiting.Unbegun ∧ imageVerdict goodImage = .memory :=
  ⟨by decide +kernel, by decide +kernel, by decide +kernel, by decide +kernel, by decide +kernel, length_goodImage,
    by decide +kernel, unbegun_waiting, verdict_good⟩

/-- R37: the timer starts at 20 ms, and stops when the pin returns. -/
theorem test_pin_change :
    (after (.wiredInputPinChange 1 true) part).wired[(1 : WiredInput)] = ⟨true, false, some 20⟩
      ∧ (after (.wiredInputPinChange 1 false) (after (.wiredInputPinChange 1 true) part)).wired[(1 : WiredInput)]
          = ⟨false, false, none⟩ := by decide +kernel

/-- Section 11.6: W1 turns on its tier-0 channel, which starts; in LIMP W0 sets the request of CH0. -/
theorem test_debounce :
    let pinned := fun (i : WiredInput) (s : State) =>
      after (.debounceExpiry i) { s with wired := s.wired.set i ⟨true, false, some 0⟩ }
    let s := with_ 0 (fun r => { r with cfg := { r.cfg with tier := 0 } }) part
    let b := { switch9 with source := 225, target := 0, threshold := 1 }
    ((pinned 1 { s with bind := ⟨[b], [], some 10, none⟩ }).chan 0).state = .starting
      ∧ ((pinned 0 (s.setMode .limp)).chan 0).raw = 255 := by decide +kernel

theorem witness_WiredInputsAreDebounced :
    let s : State := { part with wired := part.wired.set 0 ⟨true, false, some 0⟩ }
    (part.wired[(0 : WiredInput)]).timer ≠ some 0 ∧ (s.wired[(0 : WiredInput)]).timer = some 0
      ∧ (s.setMode .limp).mode = .limp ∧ s.bind.bindings = [] ∧ s.mode ≠ .limp ∧ s.Plain ∧ (s.setMode .limp).Plain
      ∧ (s.wired[(0 : WiredInput)]).pin = true ∧ (s.chan 0).state = .off ∧ (s.chan 0).override = none
      ∧ (s.chan 0).hold = false ∧ (s.chan 0).eff = (s.chan 0).raw ∧ (s.chan 0).raw = 0
      ∧ (limpConfig 0).tier = 0 ∧ ((with_ 0 (running 255) s).chan 0).eff = ((with_ 0 (running 255) s).chan 0).raw :=
  ⟨by decide +kernel, by decide +kernel, by decide +kernel, by decide +kernel, by decide +kernel,
    plainOf (by decide +kernel) (by decide +kernel), plainOf (by decide +kernel) (by decide +kernel), by decide +kernel⟩

theorem witness_AgeingStepResult : watching.bind.ageing ≠ none := by decide

/-- R29: a taken entry ages, a NEVER entry does not, and the age stops at 256. -/
theorem test_ageing :
    let s := { part with bind := ⟨[], [⟨17, 0, none, 0, false⟩, ⟨40, 9, some 7, 50, true⟩, ⟨41, 9, some 7, 256, true⟩],
      some 1, none⟩ }
    (after .ageingStep s).bind.table.map (·.age) = [0, 51, 256] := by decide +kernel

/-- A second SWITCH binding at CH9, on signal 41, whose view is FRESH at 200. -/
def watchingTwo : State :=
  let also : Binding := { switch9 with index := 1, source := 41, mode := .level, fresh := true, held := 200, present := 200 }
  { with_ 9 (running 200) part with
    bind := ⟨[switch9, also], [⟨40, 0, none, 0, false⟩, ⟨41, 200, some 7, 0, true⟩], some 10, none⟩ }

/-- R34, R27: the larger of two outputs asks; of two pairs of one frame the later one stands. -/
theorem test_signal_largest :
    let raw := fun pairs => ((after (.signal 7 pairs) watchingTwo).chan 9).raw
    raw [(40, 100)] = 255 ∧ raw [(40, 99)] = 200 ∧ raw [(40, 100), (40, 99)] = 200 ∧ raw [(41, 7)] = 7 := by decide +kernel

theorem witness_SignalTaken :
    (watching.setMode .limp).mode = .limp ∧ (watching.setMode .limp).Plain ∧ watchingTwo.Plain
      ∧ switch9 ∈ watchingTwo.bind.bindings ∧ watchingTwo.mode ≠ .limp ∧ watching.mode ≠ .configuring
      ∧ watching.mode ≠ .limp ∧ watching.line.busOff = false ∧ (7 : Station) ≠ watching.own
      ∧ (∃ e ∈ watching.bind.table, e.signal = 40) ∧ (∃ b ∈ watching.bind.bindings, b.source = 40
        ∧ b.mask.getLsbD 7 = true) ∧ (∀ e ∈ watching.bind.table, e.signal ≠ 41)
      ∧ (∀ b ∈ (watching.setBindings [{ switch9 with mask := 2#16 }]).bind.bindings, b.source = 40 →
          b.mask.getLsbD 7 = false) :=
  ⟨by decide +kernel, plainOf (by decide +kernel) (by decide +kernel), plainOf (by decide +kernel) (by decide +kernel),
    by decide +kernel⟩

/-- Section 2.8, 170 ms: a station in no mask raises FOREIGN_PUBLISHER and the value stands. -/
theorem test_signal_foreign :
    let t := after (.signal 4 [(40, 255)]) (watching.setBindings [{ switch9 with mask := 130#16 }])
    t.eventSet .foreignPublisher = true ∧ t.bind.foreign = some (40, 4) ∧ t.bind.table = watching.bind.table := by
  decide +kernel

/-- Section 1.9: the rise to 128 announces an INTENT with booking 61 and window 5. -/
theorem test_signal_rise :
    let s := watching.setBindings [{ switch9 with mode := .level }]
    let t := after (.signal 2 [(40, 128)]) s
    (t.chan 9).state = .pending ∧ (t.chan 9).duty = 128
      ∧ t.line.queue.map (·.frame) = [.status 9, .intent 9 2 61 5] := by decide +kernel

/-- R13, R16: the fall to 99 withdraws the announced request of a PENDING channel. -/
def announced : State :=
  { with_ 9 (fun r => { asking 255 r with state := .pending }) watching with
    intents := ⟨[⟨3, 9, 2, 120, 5, 0, 0, some 12⟩], none⟩ }

theorem test_signal_fall :
    let t := after (.signal 2 [(40, 99)]) announced
    (t.chan 9).state = .off ∧ t.intents.entries = [] ∧ t.line.queue.map (·.frame) = [.withdraw 9, .status 9] := by
  decide +kernel

/-- R12: a full reserve refuses the INTENT, and the channel waits in DEFERRED. -/
theorem test_signal_refused :
    let full := watching.setQueue ((List.range 5).map fun _ => ⟨.withdraw 4, 0, none⟩)
    5 ≤ full.queued (fun x => x.frame.kind != 1) ∧ full.queued (fun x => x.frame.kind == 5) = 0
      ∧ ((after (.signal 2 [(40, 128)]) full).chan 9).state = .deferred := by decide +kernel

/-- R115: a start over a HOT switch is stopped at its entry, and its echo has been handed on in both directions (R38). -/
theorem test_signal_hot :
    let s := with_ 9 (fun r => { r with cfg := { r.cfg with tier := 0 }, prot := { r.prot with hot := true } }) watching
    let t := after (.signal 2 [(40, 128)]) s
    (t.chan 9).state = .cooldown ∧ (t.chan 9).active = some .thermal ∧ (t.chan 9).retryCount = 1 ∧ t.echoes = []
      ∧ (s.startChannel 9).echoes = [] ∧ (((with_ 9 (asking 255) s).startChannel 9).echoes = [(9, 255), (9, 0)]) := by
  decide +kernel

/-- R56, log 39: an INTENT that waits is not offered in LISTENING, and a STATUS behind it is; R158: a frame that a controller
in bus-off does not receive leaves the loss standing. -/
theorem test_listening_holds_intents :
    let s := (part.setQueue [⟨.intent 9 2 61 5, 0, none⟩, ⟨.status 4, 0, none⟩]).setMode .listening
    let off : State := { part with line := { part.line with busOff := true, lineLoss := true } }
    (after .transmissionStart s).line.queue.map (·.attempt.isSome) = [false, true]
      ∧ after (.otherFrameReceived 7) off = off := by decide +kernel

/-- A rise to the threshold in tier 0, over a NORMAL and a HOT switch, in tier 2 while RUNNING, LISTENING and with no room; a
fall to one below it in PENDING, in ON and held. -/
theorem witness_SwitchSignalActs :
    watching.line.busOff = false ∧ watching.Plain ∧ announced.Plain ∧ watchingTwo.Plain
      ∧ watching.bind.bindings = [switch9] ∧ watching.bind.table = [⟨40, 0, none, 0, false⟩]
      ∧ switch9 ∈ watchingTwo.bind.bindings ∧ (∀ x ∈ watchingTwo.bind.bindings, x.source = 40 → x = switch9)
      ∧ (watchingTwo.bind.bindings.filter fun x => x.target == 9 && x.source != 40).map
          (fun x => (watchingTwo.evaluate x).present) = [200]
      ∧ (watchingTwo.chan 9).raw ≠ 0 ∧ (watchingTwo.chan 9).eff = (watchingTwo.chan 9).effectiveRequest
      ∧ switch9.threshold.toNat ≤ (100#8).toNat ∧ (99#8).toNat < switch9.threshold.toNat
      ∧ (watching.chan 9).state = .off ∧ (watching.chan 9).raw = 0 ∧ (watching.chan 9).prot.hot = false
      ∧ (watching.chan 9).cfg.tier ≠ 0 ∧ watching.mode = .running ∧ watching.line.queue = []
      ∧ ((with_ 9 (fun r => { r with cfg := { r.cfg with tier := 0 } }) watching).chan 9).cfg.tier = 0
      ∧ (watching.setMode .listening).mode ≠ .running
      ∧ (announced.chan 9).state = .pending ∧ (announced.chan 9).raw ≠ 0 ∧ (announced.chan 9).hold = false
      ∧ (announced.chan 9).eff = (announced.chan 9).effectiveRequest
      ∧ announced.queued (fun x => x.frame.kind != 1) < 5
      ∧ (let held := (with_ 9 (fun r => { r with hold := true, eff := 0, duty := 0, state := .off }) watching).chan 9
         held.hold = true ∧ held.eff = held.effectiveRequest) :=
  ⟨by decide +kernel, plainOf (by decide +kernel) (by decide +kernel), plainOf (by decide +kernel) (by decide +kernel),
    plainOf (by decide +kernel) (by decide +kernel), by decide +kernel⟩

/-! ### Peers and intents (chapter 3) -/

/-- Section 3.6, 147 ms: the second report of station 1 removes its intent and resets its entry. -/
theorem test_draw :
    let t := after (.draw 1 (BitVec.ofNat 16 (3 * 8192 + 400)) 300 500 0) coach
    t.intents.entries.map (·.station) = [3, 7]
      ∧ t.peers.head? = some ⟨1, ⟨400, 300, 500, 0⟩, .charging, 0, false⟩ := by decide +kernel

/-- Codes 3 and 4 of the band field. -/
theorem witness_DrawTaken :
    coach.Plain ∧ coach.line.busOff = false ∧ coach.mode ≠ .configuring ∧ (7 : Station) ≠ coach.own ∧ (coach.peers.Pairwise fun a b => a.station < b.station)
      ∧ Band.ofCode ((32767#16).toNat / 8192) = some .charging ∧ Band.ofCode ((32768#16).toNat / 8192) = none :=
  ⟨plainOf (by decide +kernel) (by decide +kernel), by decide +kernel⟩

/-- A drop to BATTERY by a report, a report that changes nothing, and a LIVE entry that turns STALE. -/
theorem witness_PeerBandSetsTheAllowance :
    part.Plain ∧ part.BandSound ∧ part.line.busOff = false ∧ part.mode ≠ .configuring ∧ (7 : Station) ≠ part.own
      ∧ part.budget.config = some ⟨3000, 70, 40, 100, 2, Vector.replicate 4 600⟩
      ∧ part.budget.ownBand = some .charging ∧ part.budget.worst = some .charging ∧ part.mode ≠ .clashed
      ∧ part.mode ≠ .limp ∧ Band.ofCode ((16384#16).toNat / 8192) = some .battery
      ∧ Band.ofCode ((32767#16).toNat / 8192) = some .charging :=
  ⟨plainOf (by decide +kernel) (by decide +kernel), bandSound_part, by decide +kernel⟩

/-- R60: the table's allowances for 3000, 70 and 40. -/
theorem test_draw_allowance :
    (after (.draw 7 16384 0 0 0) part).budget.allowance = some 2100
      ∧ (after (.draw 7 8192 0 0 0) part).budget.allowance = some 1200
      ∧ (after (.draw 7 16384 0 0 0) part).eventSet .bandDrop = true := by decide +kernel

/-- The coach with station 7's entry at an age. -/
def aged (age : Nat) (stale : Bool) : State :=
  { coach with peers := [⟨1, ⟨400, 300, 500, 0⟩, .charging, 0, false⟩, ⟨7, ⟨200, 250, 300, 100⟩, .battery, age, stale⟩] }

/-- Section 3.7, 430 ms: station 7 turns STALE, and keeps its bookings; after a report taken first its entry is LIVE at age 0
and stays so (R45). -/
theorem test_peer_stale :
    (after (.peerEntryStale 7) (aged 350 false)).peers.getLast?
        = some ⟨7, ⟨200, 250, 300, 100⟩, .battery, 350, true⟩
      ∧ (after (.peerEntryStale 7) (after (.draw 7 16584 250 300 100) (aged 350 false))).peers.getLast?
        = some ⟨7, ⟨200, 250, 300, 100⟩, .battery, 0, false⟩ := by decide +kernel

/-- Section 3.7: removed at 1080 ms, and held at 2147 ms while ISOLATED. -/
theorem test_peer_removal :
    let s := aged 1000 true
    (after (.peerEntryRemoval 7) s).peers.map (·.station) = [1]
      ∧ (after (.peerEntryRemoval 7) (s.setMode .isolated)).peers.map (·.age) = [0, 1000] := by decide +kernel

/-- Both modes of PEER_ENTRY_REMOVAL. -/
theorem witness_PeerEntriesAgeOut : coach.mode ≠ .isolated ∧ (coach.setMode .isolated).mode = .isolated := by decide

/-- A list of 24 entries of station 2. -/
def crowd : List IntentEntry := (List.finRange 24).map fun i => ⟨2, ⟨i.val, by omega⟩, 1, 10, 2, 0, 0, none⟩

/-- Tiers 1 and 3 with room and in place of an entry; a full list; tiers 0 and 4. -/
theorem witness_IntentTaken :
    let old := fun e : IntentEntry => e.station == (7 : Station) && e.channel.val == (9#5).toNat
    coach.mode ≠ .configuring ∧ (coach.mode ≠ .limp ∧ (coach.setMode .limp).mode = .limp) ∧ (coach.line.busOff = false ∧ (7 : Station) ≠ coach.own) ∧ coach.Plain
      ∧ (1 : Tier).val = (1#8).toNat ∧ (3 : Tier).val = (3#8).toNat ∧ coach.intents.entries.any old = true
      ∧ (crowd.take 23).length < 24 ∧ crowd.any old = false ∧ 24 ≤ crowd.length ∧ (0#8).toNat = 0 ∧ 3 < (4#8).toNat :=
  ⟨by decide +kernel, by decide +kernel, by decide +kernel, plainOf (by decide +kernel) (by decide +kernel),
    by decide +kernel⟩

/-- R50: a replacement goes to the end of line order. -/
theorem test_intent_replaces :
    (after (.intent 1 4 2 500 7) coach).intents.entries.getLast? = some ⟨1, 4, 2, 500, 7, 0, 0, none⟩
      ∧ (after (.intent 1 4 2 500 7) coach).intents.entries.length = 3 := by decide +kernel

/-- R55: a full list is an onset of 500 ms. -/
theorem test_intent_overflow :
    let t := after (.intent 7 9 2 200 10) (part.setEntries crowd)
    t.intents.overflow = some 500 ∧ t.eventSet .intentOverflow = true ∧ t.intents.entries.length = 24 := by decide +kernel

theorem witness_IntentsAreRemoved :
    coach.mode ≠ .configuring ∧ coach.mode ≠ .limp ∧ coach.line.busOff = false ∧ (7 : Station) ≠ coach.own ∧ coach.Plain
      ∧ (coach.setMode .limp).mode = .limp ∧ (coach.setMode .limp).Plain
      ∧ ({ coach.intents with overflow := some 0 } : IntentList).overflow = some 0 ∧ coach.intents.overflow ≠ some 0 :=
  ⟨by decide, by decide, by decide, by decide, plainOf (by decide) (by decide), by decide,
    plainOf (by decide) (by decide), by decide⟩

/-- Section 3.6, 90 ms: station 7 withdraws. -/
theorem test_withdraw : (after (.withdraw 7 9) coach).intents.entries.map (·.station) = [1, 3] := by decide +kernel

/-- R54: a peer's entry goes at its age; an own entry has none. -/
theorem test_intent_age :
    let s := coach.setEntries (coach.intents.entries.map fun e => { e with age := 500 })
    (after (.peerIntentAgeExpiry 1 4) s).intents.entries.map (·.station) = [3, 7]
      ∧ (after (.peerIntentAgeExpiry 3 10) s).intents.entries.length = 3
      ∧ after (.peerIntentAgeExpiry 1 4) coach = coach := by decide +kernel

/-- R55: the timer stops and the entries stay. -/
theorem test_overflow_timer :
    (after .overflowTimerExpiry { part with intents := ⟨crowd, some 0⟩ }).intents = ⟨crowd, none⟩ := by decide +kernel

/-! ### Budget (chapter 4) -/

/-- Section 4.10: the part before the first round, at an allowance of 2100 dA. -/
def rounds : State :=
  let put := fun (c : Channel) (tier : Tier) (nominal : Nat) (s : State) =>
    with_ c (fun r => running 255 { r with cfg := { r.cfg with tier := tier, nominal := nominal } }) s
  let s := put 0 0 60 (put 1 0 90 (put 6 1 80 (put 16 1 120 (put 15 2 90 coach))))
  let s := with_ 12 (fun r => running 255 { r with cfg := { r.cfg with dutyMode := .slowCycle, nominal := 160 } }) s
  { s with
    intents := ⟨[], none⟩
    budget := { s.budget with ownBand := some .battery, worst := some .battery, allowance := some 2100 } }

/-- Section 4.10, first round: CH12 is throttled to 80 dA, CH15 shed, and the report carries 150, 200, 80 and 0. -/
theorem test_first_round :
    let t := after .budgetRound rounds
    ((t.chan 12).state = .cycling ∧ (t.chan 12).booking = 80) ∧ ((t.chan 15).state = .shed ∧ (t.chan 15).booking = 0)
      ∧ (t.line.queue.filter fun e => e.frame.isDraw).map (·.frame) = [.draw .battery ⟨150, 200, 80, 0⟩] := by
  decide +kernel

/-- Section 4.11: at CRANK the extra round sheds CH16 and CH6, and tier 0 runs on. -/
theorem test_crank :
    let t := after .bandFall { rounds with feed := { rounds.feed with ownBand := some .charging, ksup := 94, fall := 20 } }
    t.feed.ownBand = some .crank ∧ t.eventSet .bandDrop = true ∧ t.eventSet .safetyOverbooked = true
      ∧ (t.chan 16).state = .shed ∧ (t.chan 6).state = .shed ∧ (t.chan 0).state = .on := by decide +kernel

/-- Section 4.10: CH10 waits out its hold behind station 1's intent. -/
def holding : State :=
  let s := with_ 10 (fun r => { asking 255 r with
    state := .pending, cfg := { r.cfg with tier := 1, nominal := 60, inrushWindow := 2 } }) (after .budgetRound rounds)
  { s with
    peers := [⟨1, ⟨400, 300, 500, 0⟩, .charging, 0, false⟩, ⟨7, ⟨200, 250, 0, 0⟩, .battery, 0, false⟩]
    intents := ⟨[⟨1, 4, 1, 120, 3, 61, 1, none⟩, ⟨3, 10, 1, 60, 2, 40, 0, some 0⟩], none⟩ }

/-- Section 4.10: CH10 is admitted and books 60 dA. -/
theorem test_admission :
    let t := after (.holdExpiry 10) holding
    (t.chan 10).state = .starting ∧ (t.chan 10).booking = 60 ∧ t.sequencer.slot0 = some 10
      ∧ t.intents.entries.map (·.station) = [1] := by decide +kernel

/-- Section 4.4: an allowance 1 dA short of 1680 refuses it. -/
theorem test_refusal :
    let t := after (.holdExpiry 10) { holding with budget := { holding.budget with allowance := some 1679 } }
    (t.chan 10).state = .deferred ∧ t.line.queue.any (fun e => e.frame == .withdraw 10) = true := by decide +kernel

/-- The sums of section 4.10 meet the allowance of 1680 exactly; slots free, held by one, held by two. -/
theorem witness_HoldExpiryDecides :
    let y : IntentEntry := ⟨3, 10, 1, 60, 2, 40, 0, some 0⟩
    let x : IntentEntry := ⟨1, 4, 1, 120, 3, 61, 1, none⟩
    holding.Plain ∧ (holding.chan 10).state = .pending ∧ (holding.chan 10).prot.hot = false
      ∧ holding.intents.entries = [x] ++ y :: [] ∧ (∀ e ∈ [x], ¬(e.station = holding.own ∧ e.channel.val = 10))
      ∧ holding.tierSum 1 + 120 + 60 = 1680 ∧ holding.mode = .running
      ∧ holding.bankBooked (bankOf 10) + 60 ≤ holding.budgetConfig.feedRating[bankOf 10] ∧ y.window ≤ 2
      ∧ holding.sequencer.slot0 = none ∧ slotted.sequencer.slot0 ≠ none ∧ slotted.sequencer.slot1 ≠ none :=
  ⟨plainOf (by decide +kernel) (by decide +kernel), by decide +kernel⟩

theorem witness_RoundReportsTheBookings :
    rounds.Plain ∧ rounds.budget.round ≠ none ∧ rounds.budget.ownBand = some .battery ∧ rounds.mode = .running
      ∧ (rounds.setMode .clashed).mode = .clashed :=
  ⟨plainOf (by decide +kernel) (by decide +kernel), by decide +kernel⟩

/-- R67: 1 dA below S_0 is an onset of SAFETY_OVERBOOKED; the next round raises nothing. -/
theorem test_overbooked_onset :
    let t := after .budgetRound { rounds with budget := { rounds.budget with allowance := some 749 } }
    let cleared := after (.clearEvents 12 0xFFFF#16 0) t
    t.eventSet .safetyOverbooked = true ∧ t.budget.overbooked = true
      ∧ (after .budgetRound cleared).eventSet .safetyOverbooked = false := by decide +kernel

/-- Section 4.10: t* is 2; at an allowance 1 dA below S_0 it is 1; at S_3 there is none. -/
theorem witness_RoundShedsItsShare :
    rounds.Plain ∧ rounds.Ruled ∧ rounds.budget.round ≠ none ∧ rounds.mode = .running ∧ rounds.allowanceNow = 2100
      ∧ rounds.tierSum 0 = 750 ∧ rounds.tierSum 1 = 1500 ∧ rounds.tierSum 2 = 2550 ∧ rounds.tierSum 3 = 2650
      ∧ rounds.ownTier 2 = 250 ∧ (rounds.chan 15).cfg.tier = 2 ∧ (rounds.chan 15).state.books = true
      ∧ rounds.budget.overbooked = false :=
  ⟨plainOf (by decide +kernel) (by decide +kernel), ruledOf (by decide +kernel) (by decide +kernel) (fun h => absurd h (by decide +kernel)),
    by decide +kernel⟩

/-- CH9 SHED, CH4 throttled in CYCLING and CH2 and CH12 DEFERRED: CH4 is the candidate, the margin met exactly. -/
def waitingToRun : State :=
  let waits := fun (st : ChannelState) (r : ChannelRecord) => { asking 255 r with state := st }
  let s := with_ 4 (fun _ => cycling9.chan 9) (with_ 9 (waits .shed)
    (with_ 2 (waits .deferred) (with_ 12 (waits .deferred) part)))
  { s with budget := { s.budget with allowance := some 220 } }

/-- R73, R74, R76: the first candidate alone is restored, and both DEFERRED channels announce in channel order. -/
theorem test_round_restores :
    let t := after .budgetRound waitingToRun
    (t.chan 4).state = .on ∧ (t.chan 9).state = .shed
      ∧ (t.line.queue.filter fun e => e.frame.kind == 0).map (·.frame) = [.intent 2 2 120 5, .intent 12 2 120 5] := by
  decide +kernel

/-- A throttled and a SHED first candidate, and DEFERRED channels; the margin met exactly. -/
theorem witness_RoundRestores :
    let s := waitingToRun
    let u := with_ 4 (fun _ => idleRecord) s
    s.Plain ∧ u.Plain ∧ s.mode = .running ∧ s.budget.round ≠ none ∧ s.line.queue = []
      ∧ (∀ k, s.tierSum k ≤ s.allowanceNow) ∧ (∀ k, u.tierSum k ≤ u.allowanceNow)
      ∧ s.tierSum 3 + (120 - 60) + 100 = s.allowanceNow ∧ u.tierSum 3 + 120 + 100 = u.allowanceNow
      ∧ s.readmissionCandidate = some 4 ∧ u.readmissionCandidate = some 9
      ∧ (∀ c, (s.chan c).state = .shed → (s.chan c).throttled = false) :=
  ⟨plainOf (by decide +kernel) (by decide +kernel), plainOf (by decide +kernel) (by decide +kernel), by decide +kernel⟩

/-! ### Starting (chapter 5) -/

/-- R87: the ramps of windows 2 and 4 toward 255. -/
theorem test_ramp :
    (List.range 4).map (fun k => (fields.profileDuty 2 255 k).toNat) = [64, 127, 191, 255]
      ∧ (List.range 8).map (fun k => (fields.profileDuty 4 255 k).toNat) = [64, 91, 118, 145, 173, 200, 227, 255] := by
  decide

theorem test_period_start :
    let s := with_ 9 (fun r => { r with pwmPos := 5 }) starting9
    ((after (.pwmPeriodStart 9) s).chan 9).span = 255
      ∧ ((after (.pwmPeriodStart 9) s).chan 9).start = some { start2 with period := 3, profile := 255 }
      ∧ after (.pwmPeriodStart 9) starting9 = starting9 := by decide +kernel

/-- A period that has run 5 ms, in STARTING and in ON, and one that has run less. -/
theorem witness_PeriodStartSetsTheSpan :
    (5 : Nat) ≤ ({ starting9.chan 9 with pwmPos := 5 } : ChannelRecord).pwmPos ∧ (starting9.chan 9).pwmPos < 5 ∧ (starting9.chan 9).state = .starting ∧ (starting9.chan 9).start = some start2 ∧ (on9.chan 9).state = .on
      ∧ (part.chan 9).state ≠ .starting ∧ (part.chan 9).state ≠ .on := by decide +kernel

/-- Section 5.8: the lamp of CH2. -/
def lamp : State :=
  with_ 2 (fun r => starting 255 ⟨4, 0, 7, 255, [], 40, [310, 250], [43, 43, 42, 42, 19, 41, 41, 41, 40, 40], false, false⟩
    { r with cfg := { r.cfg with accepted := ⟨true, false, false⟩, nominal := 40, inrushWindow := 4 } }) part

/-- Section 5.8: the lamp is a FILAMENT and runs in ON. -/
theorem test_window_end_lamp :
    let t := after (.windowEnd 2) lamp
    (t.chan 2).idClass = .filament ∧ (t.chan 2).idDue = false ∧ (t.chan 2).state = .on ∧ (t.chan 2).booking = 40 := by
  decide +kernel

/-- Section 5.9: the frozen hatch: six limited periods of six are a STARTFAIL, with RETRY. -/
def frozen : State :=
  with_ 17 (starting 255 ⟨3, 0, 5, 255, [0, 1, 2, 3, 4, 5], 30, [520, 0], [520, 0, 0, 0, 0, 520, 0, 0, 0, 0], false, false⟩) part

theorem test_window_end_frozen :
    let t := after (.windowEnd 17) frozen
    (t.chan 17).state = .cooldown ∧ (t.chan 17).retryCount = 1 ∧ (t.chan 17).idClass = .unknown
      ∧ (t.chan 17).faults.startfail = true := by decide +kernel

/-- Section 5.9, second start: 240 over 92 is a MOTOR. -/
theorem test_classify : classify 280 39 10 = .filament ∧ classify 240 92 20 = .motor ∧ classify 39 39 10 = .resistive
    ∧ classify 0 9 10 = .openLoad ∧ classify 0 0 0 = .resistive := by decide

/-- R98: the lamp whose window end comes before its last sample, which is 40 dA. -/
def early : State :=
  with_ 2 (fun r => { r with
    pwmPos := 5, start := some ⟨4, 0, 7, 255, [], 39, [310, 250], [41, 43, 43, 42, 42, 19, 41, 41, 41, 40], false, false⟩ }) lamp

/-- R98, log 41: the window end waits for that sample, and the start ends with it as in the other order. -/
theorem test_window_end_first :
    let t := after (.windowEnd 2) early
    let u := after (.currentSample 2 40 20) t
    (t.chan 2).state = .starting ∧ (t.chan 2).start.map (·.ending) = some true ∧ (u.chan 2).state = .on
      ∧ (u.chan 2).idClass = .filament ∧ (u.chan 2).start = none
      ∧ ((after (.windowEnd 2) (after (.currentSample 2 40 20) (with_ 2 (fun r => { r with pwmPos := 4 }) early))).chan 2).idClass
          = .filament := by decide +kernel

/-- R81: CH14's window ends, and CH7 at the head of the queue takes slot 0 and starts. -/
def ending14 : State := with_ 14 (fun r => { r with start := some ⟨5, 0, 9, 255, [], 50, [0, 0], List.replicate 10 40, false, false⟩ }) slotted

theorem test_slot_handed_on :
    let t := after (.windowEnd 14) ending14
    t.sequencer = ⟨some 7, some 16, [11]⟩ ∧ (t.chan 7).state = .starting ∧ (t.chan 7).booking = 120 := by decide +kernel

theorem slotsSound_ending14 : ending14.SlotsSound :=
  ⟨by decide +kernel, by decide +kernel, by decide +kernel, by decide +kernel, by decide, by
    unfold State.before
    decide +kernel, by decide +kernel, by decide +kernel⟩

/-- A window that still runs, a window end before the last sample, the wait for it, and a freed slot with a queue. -/
theorem witness_WindowEndIdentifies_waits :
    let w := after (.windowEnd 2) early
    w.Plain ∧ ending14.SlotsSound ∧ start2.left ≠ 0 ∧ (early.chan 2).start.map (·.left) = some 0
      ∧ (early.chan 2).start.map (fun u => (u.samples + 1, u.ending)) = some (4 * 10, false)
      ∧ (w.chan 2).start.map (fun u => (u.samples + 1, u.ending)) = some (4 * 10, true)
      ∧ (w.chan 2).prot.shortMark = false ∧ (w.chan 2).prot.hot = false
      ∧ (∀ b ∈ ending14.bind.bindings, b.source.toNat < 232)
      ∧ ending14.sequencer.queue = 7 :: [11] ∧ (ending14.chan 7).prot.hot = false
      ∧ ending14.sequencer.slot0 = some 14 ∧ (ending14.chan 14).start.map (fun u => (u.left, u.samples)) = some (0, 50) :=
  ⟨plainOf (by decide +kernel) (by decide +kernel), slotsSound_ending14, by decide +kernel⟩

/-- A lamp, a STARTFAIL of four periods among eight, and a class below the open threshold. -/
theorem witness_WindowEndIdentifies :
    lamp.Plain ∧ frozen.Plain ∧ (lamp.chan 2).state = .starting ∧ (lamp.chan 2).start.isSome = true
      ∧ (lamp.chan 2).idDue = true ∧ (frozen.chan 17).start.isSome = true
      ∧ 4 ≤ (([0, 1, 2, 3, 4, 5] : List Nat).filter fun p => 2 * 3 ≤ p + 8).length
      ∧ (frozen.chan 17).cfg.startfailMode = .retry ∧ (frozen.chan 17).retryCount < (frozen.chan 17).cfg.retryLimit
      ∧ (starting9.chan 9).start = some start2 ∧ 0 < (starting9.chan 9).cfg.openThreshold
      ∧ (starting9.chan 9).cfg.openMode = .report :=
  ⟨plainOf (by decide +kernel) (by decide +kernel), plainOf (by decide +kernel) (by decide +kernel), by decide +kernel⟩

/-! ### Protection and faults (chapters 6 and 7) -/

/-- Section 7.7: the second sample at 1023 is a SHORT: COOLDOWN for 500 ms with a count of 1. -/
theorem test_short :
    let t := after (.currentSample 9 1023 20) (after (.currentSample 9 1023 20) on9)
    (t.chan 9).state = .cooldown ∧ (t.chan 9).retry = some 500 ∧ (t.chan 9).retryCount = 1
      ∧ (t.chan 9).faults.short = true ∧ (t.chan 9).booking = 0 := by decide +kernel

/-- Section 7.9: THERMAL at 171 °C, and the recovery at 149 °C that completes the exit. -/
theorem test_thermal_in_cooldown :
    let t := after (.currentSample 9 0 171) cooldown9
    (t.chan 9).state = .cooldown ∧ (t.chan 9).faults.thermal = true ∧ (t.chan 9).retryCount = 1
      ∧ ((after (.currentSample 9 0 149) t).chan 9).state = .pending := by decide +kernel

/-- R88, R101, R109: a sample above the limit opens the switch, so that the next of that period reads 0 and is no second at the
short threshold; the last sample of a period opens nothing. -/
theorem test_limit :
    let t := after (.currentSample 9 700 20) (with_ 9 (fun r => { r with cfg := { r.cfg with shortThreshold := 650 } }) starting9)
    let u := after (.currentSample 9 700 20) t
    let last := with_ 9 (fun r => { r with pwmPos := 4, start := some { start2 with samples := 14 } }) starting9
    (t.chan 9).span = 0 ∧ (u.chan 9).state = .starting ∧ (u.chan 9).prot.lastTen.drop 8 = [700, 0]
      ∧ ((after (.currentSample 9 700 20) last).chan 9).span = 255 := by decide +kernel

/-- A level at the limit and one past it; at the short threshold with and without the mark; the switch open and closed. -/
theorem witness_SamplesAreTaken :
    part.Plain ∧ (part.chan 9).prot.hot = false ∧ (20 : Int) < 170 ∧ (part.chan 9).prot.lastTen.length = 10
      ∧ (part.chan 9).conducting = false ∧ (on9.chan 9).state = .on ∧ (on9.chan 9).prot.shortMark = false
      ∧ (starting9.chan 9).state = .starting ∧ start2.samples < start2.window * 10
      ∧ min ((starting9.chan 9).cfg.shortThreshold - 1) (3 * (starting9.chan 9).cfg.iTrip) < 600
      ∧ start2.period = start2.samples / 5 ∧ start2.ending = false ∧ (on9.chan 9).start = none
      ∧ (cycling9.chan 9).state = .cycling ∧ (cycling9.chan 9).phase = some ⟨true, 0⟩ ∧ (cycling9.chan 9).start = none
      ∧ ¬(on9.chan 9).span * 5 ≤ (on9.chan 9).pwmPos * 255 :=
  ⟨plainOf (by decide +kernel) (by decide +kernel), by decide +kernel⟩

/-- R84, R86, R101: the THERMAL recovery at a sample starts CH9 of tier 0; the tick of that millisecond does not count for the
start, and its first two samples read what conducts, the third nothing. -/
theorem test_start_after_sample :
    let s := with_ 9 (fun r => { r with cfg := { r.cfg with tier := 0 }, prot := { r.prot with hot := true } }) cooldown9
    let t := after (.currentSample 9 0 149) s
    let ms := fun s => (after (.currentSample 9 300 149) s).passMs
    (t.chan 9).state = .starting ∧ (t.passMs.chan 9).start = some ⟨5, 50, 0, 64, [], 0, [], [], false, false⟩
      ∧ (t.passMs.chan 9).pwmPos = 0 ∧ ((ms (ms (ms t.passMs))).chan 9).prot.lastTen.drop 7 = [300, 300, 0]
      ∧ ((ms (ms (ms t.passMs))).chan 9).start.map (·.left) = some 47 := by decide +kernel

/-- R97, R120: CH14's SHORT in STARTING hands its slot to CH7 before CH14 leaves STARTING. -/
def shorted14 : State :=
  with_ 14 (fun r => { r with cfg := { r.cfg with shortMode := .latch }, prot := { r.prot with shortMark := true } }) slotted

theorem test_short_hands_the_slot_on :
    let t := after (.currentSample 14 700 20) shorted14
    (t.chan 14).state = .latched ∧ (t.chan 7).state = .starting ∧ t.sequencer = ⟨some 7, some 16, [11]⟩
      ∧ t.line.queue.map (·.frame) = [.status 7, .status 14] := by decide +kernel

theorem slotsSound_shorted14 : shorted14.SlotsSound := by
  constructor <;> (try unfold State.before) <;> decide +kernel

/-- A SHORT in STARTING with a channel waiting; a conducting on-phase; a wait in SLOTWAIT. -/
theorem witness_ShortAndThermalStopTheChannel_starting :
    shorted14.SlotsSound ∧ shorted14.sequencer.queue = 7 :: [11] ∧ (shorted14.chan 7).prot.hot = false
      ∧ shorted14.sequencer.slot0 = some 14 ∧ shorted14.line.queue = [] ∧ (shorted14.chan 14).state = .starting
      ∧ (∀ u, (shorted14.chan 14).start = some u → u.ending = false)
      ∧ ¬(shorted14.chan 14).span * 5 ≤ (shorted14.chan 14).pwmPos * 255 ∧ (shorted14.chan 14).prot.shortMark = true
      ∧ (cycling9.chan 9).state = .cycling ∧ (cycling9.chan 9).phase = some ⟨true, 0⟩ ∧ (slotted.chan 7).state = .slotwait
      ∧ (∀ b ∈ shorted14.bind.bindings, b.source.toNat < 232) := by
  refine ⟨slotsSound_shorted14, by decide +kernel, by decide +kernel, by decide +kernel, by decide +kernel,
    by decide +kernel, ?_, by decide +kernel⟩
  intro u h
  have e : (shorted14.chan 14).start.map (·.ending) = some false := by decide +kernel
  rw [h] at e
  exact Option.some.inj e

theorem witness_ShortAndThermalStopTheChannel :
    let s := with_ 9 (fun r => { r with prot := { r.prot with shortMark := true } }) on9
    let l := with_ 9 (fun r => { r with cfg := { r.cfg with shortMode := .latch } }) s
    s.Plain ∧ cooldown9.Plain ∧ (s.chan 9).state = .on ∧ (s.chan 9).start = none
      ∧ ¬(s.chan 9).span * 5 ≤ (s.chan 9).pwmPos * 255 ∧ (cooldown9.chan 9).state = .cooldown
      ∧ (cooldown9.chan 9).prot.lastTen.length = 10 ∧ (cooldown9.chan 9).prot.hot = false
      ∧ (s.chan 9).prot.hot = false ∧ (s.chan 9).cfg.shortThreshold ≤ 600
      ∧ (s.chan 9).prot.shortMark = true ∧ (s.chan 9).cfg.shortMode = .retry ∧ (l.chan 9).cfg.shortMode = .latch
      ∧ (s.chan 9).retryCount + 1 ≤ (s.chan 9).cfg.retryLimit ∧ (170 : Int) ≤ 170 :=
  ⟨plainOf (by decide +kernel) (by decide +kernel), plainOf (by decide +kernel) (by decide +kernel), by decide +kernel⟩

/-- Section 6.3: heating under 200 dA and the first cooling update. -/
theorem test_theta :
    [nextTheta 0 200 4, nextTheta 2500 200 4, nextTheta 9100 200 4, nextTheta 11031 0 4] = [2500, 4843, 11031, 10341] := by
  decide

/-- Section 7.8: the fifth update trips the lamp's wire, by LATCH. -/
theorem test_update_overload :
    let s := with_ 9 (fun r => { r with
      cfg := { r.cfg with iTrip := 100, heatExp := 4 }
      prot := { r.prot with theta := 9100, lastTen := List.replicate 10 200 } }) on9
    let t := after (.update 9) s
    (t.chan 9).state = .latched ∧ (t.chan 9).active = some .overload ∧ (t.chan 9).prot.theta = 11031
      ∧ (t.chan 9).prot.cool = false := by decide +kernel

theorem witness_UpdateMovesTheHeat :
    (on9.chan 9).prot.update ≠ none ∧ (on9.chan 9).prot.theta ≤ ((on9.chan 9).prot.lastTen.sum / 10) ^ 2 := by
  decide +kernel

theorem witness_UpdateJudgesTheChannel :
    on9.Plain ∧ (on9.chan 9).prot.update ≠ none ∧ (on9.chan 9).state = .on ∧ (on9.chan 9).cfg.overloadMode = .latch
      ∧ (cycling9.chan 9).state = .cycling ∧ (cycling9.chan 9).phase = some ⟨true, 0⟩ ∧ (cycling9.chan 9).prot.update ≠ none
      ∧ 1 ≤ (on9.chan 9).cfg.retryTime ∧ 10 ≤ (on9.chan 9).prot.sinceOn ∧ (on9.chan 9).cfg.stallThreshold ≠ 0 :=
  ⟨plainOf (by decide +kernel) (by decide +kernel), by decide +kernel⟩

/-- Section 6.10: the jammed shutter at its 50th judged update, and the failed lamp at its 50th. -/
def jammed : State := with_ 9 (fun r => { r with prot := { r.prot with stallTimer := 50, openTimer := 50 } }) on9

theorem test_stall :
    ((after (.stall 9) jammed).chan 9).state = .cooldown ∧ ((after (.stall 9) jammed).chan 9).active = some .stall
      ∧ after (.stall 9) on9 = on9 := by decide +kernel

theorem test_open :
    let t := after (.openLoad 9) (with_ 9 (fun r => { r with idDue := false }) jammed)
    (t.chan 9).state = .on ∧ (t.chan 9).faults.openLoad = true ∧ (t.chan 9).idDue = true
      ∧ (t.chan 9).prot.openMark = true := by decide +kernel

theorem witness_StallAndOpenAreHanded :
    jammed.Plain ∧ (jammed.chan 9).state = .on ∧ (jammed.chan 9).cfg.stallThreshold ≠ 0
      ∧ (jammed.chan 9).prot.stallMark = false ∧ (jammed.chan 9).cfg.stallTime * 10 ≤ (jammed.chan 9).prot.stallTimer
      ∧ (jammed.chan 9).cfg.stallMode = .retry ∧ (jammed.chan 9).retryCount < (jammed.chan 9).cfg.retryLimit
      ∧ (jammed.chan 9).prot.openMark = false ∧ 50 ≤ (jammed.chan 9).prot.openTimer
      ∧ (jammed.chan 9).cfg.openMode = .report ∧ ¬10 ≤ (on9.chan 9).prot.stallTimer :=
  ⟨plainOf (by decide +kernel) (by decide +kernel), by decide +kernel⟩

/-- Section 7.7, 500 ms: the exit announces anew and keeps the count and the record. -/
theorem test_retry :
    let t := after (.retryTimerExpiry 9) cooldown9
    (t.chan 9).state = .pending ∧ (t.chan 9).retryCount = 1 ∧ (t.chan 9).active = none := by decide +kernel

/-- R17: the count returns to 0. -/
theorem test_clean_run :
    ((after (.cleanRunTimerExpiry 9) (with_ 9 (fun r => { r with retryCount := 2 }) on9)).chan 9).retryCount = 0 := by
  decide +kernel

/-- The exit in each of its destinations, the exit held back by a HOT switch, and the two exits that recovery makes. -/
theorem witness_CooldownEndsAndCleanRun :
    let hot := with_ 9 (fun r => { r with prot := { r.prot with hot := true } }) cooldown9
    let warm := with_ 9 (fun r => { r with active := some .overload
                                           prot := { r.prot with update := some 1 } }) cooldown9
    cooldown9.Plain ∧ hot.Plain ∧ warm.Plain ∧ (cooldown9.chan 9).state = .cooldown ∧ (part.chan 9).state ≠ .cooldown
      ∧ (cooldown9.chan 9).retry = some 0 ∧ (cooldown9.chan 9).active ≠ some .overload ∧ (cooldown9.chan 9).prot.hot = false ∧ (hot.chan 9).prot.hot = true
      ∧ (cooldown9.chan 9).eff ≠ 0 ∧ (cooldown9.chan 9).cfg.tier ≠ 0 ∧ cooldown9.mode = .running
      ∧ cooldown9.line.queue = [] ∧ (on9.chan 9).cleanRun ≠ none ∧ (part.chan 9).cleanRun = none
      ∧ (hot.chan 9).state = .cooldown ∧ (hot.chan 9).retry = some 0 ∧ (hot.chan 9).active ≠ some .overload
      ∧ (warm.chan 9).retry = some 0 ∧ (warm.chan 9).active = some .overload
      ∧ (warm.chan 9).prot.hot = false ∧ (warm.chan 9).prot.update ≠ none :=
  ⟨plainOf (by decide +kernel) (by decide +kernel), plainOf (by decide +kernel) (by decide +kernel),
    plainOf (by decide +kernel) (by decide +kernel), by decide +kernel⟩

/-! ### Feeds, band and temperature (chapter 8) -/

/-- Section 8.5: bank C falls to 15.2 V, stays UNDER at 17.4 V and recovers at 18.3 V. -/
theorem test_feed :
    let s := with_ 12 (running 255) part
    let t := after (.feedMeasurement 2 152) s
    let u := after (.feedMeasurement 2 174) t
    let v := after (.feedMeasurement 2 183) u
    (t.chan 12).state = .inhibited ∧ (t.chan 12).causes.feed = true ∧ t.eventSet .feed = true
      ∧ (u.chan 12).state = .inhibited ∧ (v.chan 12).state = .pending ∧ (v.chan 14).state = .off := by decide +kernel

/-- Section 8.7: 131, 161, 146 and 144 °C. -/
theorem test_die :
    let t := after (.dieTemperatureMeasurement 131) on9
    let u := after (.dieTemperatureMeasurement 161) t
    let v := after (.dieTemperatureMeasurement 146) u
    t.feed.temp = .warning ∧ t.eventSet .dieHot = true ∧ (u.chan 9).state = .inhibited ∧ u.eventSet .shutdown = true
      ∧ v.feed.temp = .shutdown ∧ ((after (.dieTemperatureMeasurement 144) v).chan 9).state = .pending := by
  decide +kernel

/-- R13, R135: the loss of bank 1 undoes what CH9 has announced; in LIMP it is not handed to CH9. -/
theorem test_loss_undoes_the_announcement :
    let t := after (.feedMeasurement 1 159) announced
    (t.chan 9).state = .inhibited ∧ t.intents.entries = []
      ∧ t.line.queue.map (·.frame) = [.status 6, .status 7, .status 8, .withdraw 9, .status 9]
      ∧ ((after (.feedMeasurement 1 159) (on9.setMode .limp)).chan 9).state = .on := by decide +kernel

theorem witness_LossAndShutdownInhibit :
    on9.Plain ∧ announced.Plain ∧ (announced.chan 9).state = .pending
      ∧ (∃ e ∈ announced.intents.entries, e.station = announced.own ∧ e.channel.val = (9 : Channel).val)
      ∧ announced.line.queue = [] ∧ announced.mode ≠ .clashed ∧ (on9.setMode .limp).mode = .limp
      ∧ State.reset.feed.feeds[(1 : Bank)] = none ∧ on9.feed.feeds[(1 : Bank)] = some .inRange ∧ on9.feed.temp ≠ .shutdown
      ∧ bankOf 9 = 1 ∧ (on9.chan 9).state ≠ .inhibited :=
  ⟨plainOf (by decide +kernel) (by decide +kernel), plainOf (by decide +kernel) (by decide +kernel), by decide +kernel⟩

/-- UNDER at 18.1 V and OVER at 29.9 V; a passage out of SHUTDOWN at 144 °C. -/
theorem witness_RecoveryReleases :
    let s := after (.feedMeasurement 1 159) on9
    let u := after (.dieTemperatureMeasurement 160) on9
    s.Plain ∧ u.feed.temp = .shutdown ∧ (144 : Int) < 145 ∧ (u.chan 9).state = .inhibited ∧ (u.chan 9).causes = ⟨false, true, false⟩
      ∧ u.bind.bindings = [] ∧ u.sequencer.queue = [] ∧ s.mode ≠ .configuring ∧ (s.setMode .limp).mode = .limp ∧ s.feed.feeds[(1 : Bank)] = some .under
      ∧ (after (.feedMeasurement 1 321) on9).feed.feeds[(1 : Bank)] = some .over
      ∧ (s.chan 9).state = .inhibited ∧ (s.chan 9).causes.shutdown = false ∧ (s.chan 9).causes.config = false
      ∧ (s.chan 9).eff ≠ 0 ∧ (s.chan 9).cfg.tier ≠ 0 :=
  ⟨plainOf (by decide +kernel) (by decide +kernel), by decide +kernel⟩

/-- Section 8.6: a measurement below t_c counts, and 27.3 V returns the timer to 0. -/
theorem test_ksup :
    let s := { part with feed := { part.feed with fall := 11 } }
    (after (.ksupMeasurement 265) s).feed.fall = 12 ∧ (after (.ksupMeasurement 273) s).feed.fall = 0 := by decide +kernel

/-- Section 8.6: the 20th measurement, at 9.4 V, takes the band to CRANK; the 500th at 28.1 V one step up to LOW. -/
theorem test_band :
    let s := { part with feed := { part.feed with fall := 20, ksup := 94 } }
    let t := after .bandFall s
    let u := after .bandRise { t with feed := { t.feed with rise := 500, ksup := 281 } }
    t.feed.ownBand = some .crank ∧ t.budget.allowance = some 0 ∧ u.feed.ownBand = some .low
      ∧ u.budget.allowance = some 1200 := by decide +kernel

/-- Both counts one short of their number, and at it. -/
theorem witness_OwnBandFollowsKsup :
    part.feed.thresholds = some ⟨270, 240, 200⟩ ∧ part.feed.ownBand = some .charging
      ∧ State.reset.feed.thresholds = none ∧ (20 : Nat) ≤ ({ part.feed with fall := 20 } : FeedMonitor).fall
      ∧ ({ part.feed with fall := 19 } : FeedMonitor).fall < 20
      ∧ 500 ≤ ({ part.feed with rise := 500 } : FeedMonitor).rise ∧ ({ part.feed with rise := 499 } : FeedMonitor).rise < 500
      ∧ (∀ e ∈ part.peers, e.stale = true) := by decide +kernel

/-! ### Duty, auto-off and overrides (chapter 9) -/

/-- Section 9.5: phases of 2 s, the output open in the off-phase. -/
theorem test_phases :
    let t := after (.phaseTimerExpiry 9) cycling9
    (t.chan 9).phase = some ⟨false, 2000⟩ ∧ (t.chan 9).span = 0 ∧ (t.chan 9).state = .cycling
      ∧ after (.phaseTimerExpiry 9) t = t
      ∧ ((after (.phaseTimerExpiry 9) (with_ 9 (fun r => { r with phase := some ⟨false, 0⟩ }) t)).chan 9).phase
          = some ⟨true, 2000⟩ := by decide +kernel

/-- CH8 follows the echo of CH9, which cycles, and runs at its level. -/
def follower : State :=
  with_ 8 (fun r => { running 255 r with autoOff := some 7 }) (cycling9.setBindings
    [{ switch9 with source := 241, target := 8, threshold := 0, present := 255, held := 255, fresh := true }])

/-- R36, R38: CH9's off-phase is a source change for CH8: its binding is evaluated anew and its auto-off time reloads. -/
theorem test_follower :
    let t := after (.phaseTimerExpiry 9) follower
    (t.chan 9).echoTaken = 0 ∧ (t.chan 8).state = .on ∧ (t.chan 8).autoOff = some 600000
      ∧ ((after (.phaseTimerExpiry 9) (follower.setBindings
          [{ switch9 with source := 241, target := 8, threshold := 1 }])).chan 8).state = .off := by decide +kernel

/-- R36, R38: two entries of one SIGNAL take the leader's echo from 100 to 200 and back: the follower's auto-off time reloads
although its request ends as it began. -/
theorem test_echo_returns :
    let lead : Binding := ⟨0, 40, 9, .level, 0, 0xFFFF#16, 0, .off, true, 100, 100⟩
    let s := with_ 8 (fun r => { running 100 r with autoOff := some 7 }) (with_ 9 (running 100) part)
    let t := after (.signal 7 [(40, 200), (40, 100)]) { s with
      bind := ⟨[lead, ⟨1, 241, 8, .level, 0, 0#16, 0, .off, true, 100, 100⟩], [⟨40, 100, some 7, 0, true⟩], some 10, none⟩ }
    (t.chan 8).eff = 100 ∧ (t.chan 8).state = .on ∧ (t.chan 8).autoOff = some 600000 ∧ (t.chan 9).echoTaken = 100 := by
  decide +kernel

/-- Both phases at their end and one before it; a follower whose request stands and one whose request falls. -/
theorem witness_PhasesAlternate :
    cycling9.Plain ∧ (cycling9.chan 9).state = .cycling ∧ (cycling9.chan 9).phase = some ⟨true, 0⟩
      ∧ (1 : Nat) ≠ 0 ∧ (follower.chan 9).phase = some ⟨true, 0⟩ ∧ (follower.chan 9).duty ≠ 0 ∧ follower.echoes = []
      ∧ follower.sequencer.queue = [] ∧ (follower.bind.bindings.map fun b => (b.source.toNat, b.target)) = [(232 + 9, 8)]
      ∧ (8 : Channel) ≠ 9 ∧ (follower.chan 8).raw = 255 ∧ (follower.chan 8).override = none
      ∧ (follower.chan 8).hold = false ∧ (follower.chan 8).eff ≠ 0 ∧ (follower.chan 8).state = .on :=
  ⟨plainOf (by decide +kernel) (by decide +kernel), by decide +kernel⟩

/-- Section 9.6: CH5 as its timer expires at 14:20. -/
def courtesy : State := with_ 9 (fun r => { r with autoOff := some 0 }) on9

theorem test_auto_off :
    let t := after (.autoOffExpiry 9) courtesy
    (t.chan 9).state = .off ∧ (t.chan 9).hold = true ∧ (t.chan 9).raw = 255 ∧ (t.chan 9).events.autoOff = true
      ∧ (t.chan 9).autoOff = none := by decide +kernel

/-- R151, R152: an edge of the activity input in the same millisecond, taken first, reloads the timer, and no expiry occurs. -/
theorem test_reload_first :
    let s := with_ 9 (fun r => { r with cfg := { r.cfg with activityInput := some 2 } }) courtesy
    let t := after (.debounceExpiry 2) { s with wired := s.wired.set 2 ⟨true, false, some 0⟩ }
    (t.chan 9).autoOff = some 600000 ∧ after (.autoOffExpiry 9) t = t := by decide +kernel

/-- Section 9.6, 16:20: the override ends and the hold still stands. -/
theorem test_override_end :
    let s := with_ 9 (fun r => { r with hold := true, override := some ⟨255, 0⟩ }) on9
    ((after (.overrideExpiry 9) s).chan 9).state = .off ∧ ((after (.overrideExpiry 9) s).chan 9).override = none := by
  decide +kernel

/-- The timer at its end and running, an override at its end and running, a value that changes and one that does not, an
edge of the activity input. -/
theorem witness_AutoOffAndOverrideEnd :
    let s := with_ 9 (fun r => { r with override := some ⟨200, 0⟩, eff := 200, duty := 200 }) courtesy
    let w := { courtesy with bind := watching.bind, wired := part.wired.set 2 ⟨true, false, some 0⟩ }
    courtesy.Plain ∧ w.mode ≠ .configuring ∧ w.mode ≠ .limp ∧ w.line.busOff = false ∧ (7 : Station) ≠ w.own
      ∧ w.bind.bindings = [switch9] ∧ w.bind.table = [⟨40, 0, none, 0, false⟩] ∧ switch9.mask.getLsbD 7 = true
      ∧ (w.chan 9).raw = (if switch9.threshold.toNat ≤ (200#8).toNat then 255 else 0) ∧ (100 : Nat) ≠ 0
      ∧ w.bind.bindings.all (fun b => decide (b.source.toNat < 232)) = true ∧ w.sequencer.queue = []
      ∧ (w.wired[(2 : WiredInput)]).timer = some 0 ∧ courtesy.bind.bindings = []
      ∧ (courtesy.chan 9).state = .on ∧ (courtesy.chan 9).eff = (courtesy.chan 9).effectiveRequest
      ∧ (courtesy.chan 9).eff ≠ 0 ∧ (courtesy.chan 9).autoOff = some 0 ∧ (courtesy.chan 9).override = none
      ∧ (on9.chan 9).autoOff ≠ some 0 ∧ (s.chan 9).override = some ⟨200, 0⟩ ∧ (s.chan 9).eff = (s.chan 9).effectiveRequest
      ∧ (s.chan 9).hold = false ∧ (s.chan 9).raw ≠ 200 :=
  ⟨plainOf (by decide +kernel) (by decide +kernel), by decide +kernel⟩

/-! ### The coach line (chapter 10) -/

/-- R157: a frame bearing the own number takes RUNNING to CLASHED; the second is no onset. -/
theorem test_clash :
    let t := after (.otherFrameReceived 3) { part with line := { part.line with listen := some 5 } }
    t.mode = .clashed ∧ t.eventSet .clash = true ∧ t.line.listen = none
      ∧ after (.otherFrameReceived 3) t = t := by decide +kernel

/-- CH9 in PENDING, its INTENT still in the queue. -/
def queued9 : State :=
  (with_ 9 (fun r => { asking 255 r with state := .pending }) part).setQueue [⟨.intent 9 2 120 5, 0, none⟩]

/-- R12, R157: the INTENT goes at the clash, with no WITHDRAW, and CH9 waits in DEFERRED. -/
theorem test_clash_discards :
    let t := after (.otherFrameReceived 3) queued9
    (t.chan 9).state = .deferred ∧ t.line.queue.map (·.frame) = [.status 9] := by decide +kernel

theorem witness_ClashFramesAreHandedToNoBlock :
    part.Plain ∧ queued9.Plain ∧ (queued9.chan 9).state = .pending ∧ queued9.mode = .running
      ∧ (∃ x ∈ queued9.line.queue, x.frame = .intent 9 2 120 5) ∧ queued9.line.clashMark = false ∧ frameFrom (.otherFrameReceived 3) = some 3 ∧ part.own = 3 ∧ part.mode ≠ .configuring
      ∧ (part.setMode .configuring).mode = .configuring ∧ (after .busOff part).line.busOff = true
      ∧ part.line.busOff = false ∧ part.line.clashMark = false
      ∧ (after (.otherFrameReceived 3) part).line.clashMark = true
      ∧ (announced.chan 9).state = .pending ∧ (after (.otherFrameReceived 3) part).mode = .clashed
      ∧ ((after (.otherFrameReceived 3) (part.setMode .limp)).mode = .limp
          ∧ (after (.otherFrameReceived 3) (part.setMode .limp)).line.clashMark = true) :=
  ⟨plainOf (by decide +kernel) (by decide +kernel), plainOf (by decide +kernel) (by decide +kernel), by decide +kernel⟩

/-- Section 3.7: 500 ms of silence isolate the part, and the next frame takes it to a listen of 300 ms. -/
theorem test_silence :
    let t := after .silenceTimeout { part with line := { part.line with silence := some 500 } }
    let u := after (.otherFrameReceived 1) t
    t.mode = .isolated ∧ t.eventSet .isolated = true ∧ u.mode = .listening ∧ u.line.listen = some 300
      ∧ after .listenExpiry u = u ∧ after .silenceTimeout part = part
      ∧ (after .listenExpiry { u with line := { u.line with listen := some 0 } }).mode = .running := by decide +kernel

/-- R158: bus-off begins a line loss; while it lasts nothing is offered. -/
theorem test_bus_off :
    let t := after .busOff (part.setQueue fullQueue)
    t.mode = .isolated ∧ t.line.queue.all (fun e => e.attempt.isNone) = true ∧ after .transmissionStart t = t
      ∧ (after .busOffRecovery t).line.busOff = false := by decide +kernel

theorem witness_LineLossAndListen :
    part.Plain ∧ part.mode ≠ .configuring ∧ part.line.busOff = false ∧ (1 : Station) ≠ part.own
      ∧ part.line.silence = some 0 ∧ State.reset.line.silence = none
      ∧ ({ part.line with silence := some 500 } : LineInterface).silence = some 500
      ∧ ({ part.line with listen := some 0 } : LineInterface).listen = some 0 ∧ part.line.listen ≠ some 0 ∧ (part.setMode .listening).mode = .listening ∧ part.mode ≠ .listening :=
  ⟨plainOf (by decide +kernel) (by decide +kernel), by decide +kernel⟩

/-- R161: the oldest frame of the lowest kind; an INTENT of section 12.2 on the line; a failure returns it. -/
theorem test_transmission :
    let s := part.setQueue [⟨.status 4, 0, none⟩, ⟨.intent 9 2 61 5, 0, none⟩, ⟨.withdraw 3, 0, none⟩]
    let t := after .transmissionStart s
    t.line.queue.map (·.attempt) = [none, some ⟨0b00000110000#11, [9, 2, 0, 61, 5]⟩, none]
      ∧ after .transmissionFailure t = s := by decide +kernel

theorem witness_AttemptsTakeTheLowestKind :
    let e : TxEntry := ⟨.withdraw 3, 0, none⟩
    let s := part.setQueue ([⟨.status 4, 0, none⟩] ++ e :: [⟨.intent 9 2 61 5, 0, none⟩])
    s.line.busOff = false ∧ (∀ x ∈ s.line.queue, x.attempt = none)
      ∧ (∀ x ∈ ([⟨.status 4, 0, none⟩] : List TxEntry), e.frame.kind < x.frame.kind)
      ∧ (∀ z ∈ ([⟨.intent 9 2 61 5, 0, none⟩] : List TxEntry), e.frame.kind ≤ z.frame.kind) ∧ part.line.queue = []
      ∧ s.mayOffer e.frame = true ∧ (s.setMode .listening).mayOffer (.intent 9 2 61 5) = false
      ∧ (s.setMode .clashed).mayOffer (.draw .low ⟨0, 0, 0, 0⟩) = false := by decide +kernel

/-- Section 1.9, 3 ms: the completion starts a hold of 40 ms. -/
theorem test_completion :
    let t := after .transmissionCompletion (part.setQueue [⟨.intent 9 2 61 5, 3, some ⟨0, []⟩⟩])
    t.intents.entries = [⟨3, 9, 2, 61, 5, 0, 0, some 40⟩] ∧ t.line.queue = [] := by decide +kernel

/-- R171: the completion of RESTART's reply owes the restart. -/
theorem test_restart_owed :
    let s := { part with service := { part.service with request := some ⟨12, [], 0, true⟩ } }
    let t := after .transmissionCompletion (s.setQueue [⟨.reply 12 [7, 0] true, 3, some ⟨0, []⟩⟩])
    t.service.restartDue = true ∧ t.dueNow = [.serviceRestart 3] := by decide +kernel

/-- An own INTENT at a list of 23 and of 24, and the last reply of a request. -/
theorem witness_CompletionIsHandedToItsOwner :
    let e : TxEntry := ⟨.intent 9 2 61 5, 3, some ⟨0, []⟩⟩
    let s := part.setQueue ([⟨.status 4, 0, none⟩] ++ e :: [])
    let full := with_ 9 (fun r => { r with state := .pending }) (s.setEntries crowd)
    s.Plain ∧ e.attempt ≠ none ∧ (∀ x ∈ ([⟨.status 4, 0, none⟩] : List TxEntry), x.attempt = none)
      ∧ (s.setEntries (crowd.take 23)).intents.entries.length < 24 ∧ 24 ≤ full.intents.entries.length
      ∧ (full.chan 9).state = .pending ∧ full.mode ≠ .clashed :=
  ⟨plainOf (by decide +kernel) (by decide +kernel), by decide +kernel⟩

/-- R162, R12: an INTENT of 200 ms goes, and its channel waits in DEFERRED; a DRAW has no expiry. -/
theorem test_queue_expiry :
    let s := with_ 9 (fun r => { asking 128 r with state := .pending }) (part.setQueue
      [⟨.intent 9 2 61 5, 200, none⟩, ⟨.draw .low ⟨0, 0, 0, 0⟩, 200, none⟩])
    ((after (.queueExpiry 0) s).chan 9).state = .deferred ∧ after (.queueExpiry 1) s = s := by decide +kernel

/-- R162: a WITHDRAW that ends its 200 ms at a tick goes before CH9, refused at that tick, displaces a STATUS for its own
WITHDRAW (R160). -/
theorem test_queue_expiry_comes_first :
    let s : State := { announced with
      intents := ⟨[⟨3, 9, 2, 5000, 5, 0, 0, some 1⟩], none⟩
      line := { announced.line with busOff := true, queue := [⟨.status 4, 0, none⟩, ⟨.withdraw 1, 0, none⟩,
        ⟨.withdraw 2, 0, none⟩, ⟨.withdraw 3, 0, none⟩, ⟨.withdraw 5, 199, none⟩] } }
    let t := s.idleStep.pending.foldl (fun t i => after i t) s.idleStep
    s.idleStep.pending.take 2 = [.queueExpiry 4, .holdExpiry 9]
      ∧ t.line.queue.map (·.frame) = [.status 4, .withdraw 1, .withdraw 2, .withdraw 3, .withdraw 9] := by decide +kernel

/-- Each kind one millisecond before its time and at it, and an empty place. -/
theorem witness_QueuedFramesExpire :
    ([(0, 199), (4, 499), (5, 999)] : List (Nat × Nat)).all (fun p =>
        decide (p.2 < if p.1 = 0 then 200 else if p.1 = 4 then 500 else 1000)) = true
      ∧ ([(0, 200), (4, 500), (5, 1000)] : List (Nat × Nat)).all (fun p =>
        decide ((if p.1 = 0 then 200 else if p.1 = 4 then 500 else 1000) ≤ p.2)) = true
      ∧ (part.setQueue fullQueue).Plain ∧ part.line.queue[(0 : Nat)]? = none
      ∧ fullQueue[(0 : Nat)]? = some ⟨.intent 1 2 61 5, 0, none⟩ ∧ fullQueue[(5 : Nat)]?.isSome = true :=
  ⟨by decide +kernel, by decide +kernel, plainOf (by decide +kernel) (by decide +kernel), by decide +kernel⟩

/-- R166: the roll offers CH19 and moves on to CH0. -/
theorem test_status_roll :
    let t := after .statusRoll { part with events := { part.events with rollPointer := 19 } }
    t.line.queue.map (·.frame) = [.status 19] ∧ t.events.rollPointer = 0 ∧ t.events.roll = some 50 := by decide +kernel

theorem witness_StatusRollMovesOn :
    part.events.roll ≠ none ∧ State.reset.events.roll = none ∧ part.replyRoom ∧ ¬(part.setQueue fullQueue).replyRoom
      ∧ (∃ e ∈ (part.setQueue fullQueue).line.queue, e.frame = .status 0) := by
  unfold State.replyRoom
  decide +kernel

/-- Section 10.8: the queue as the replies for stations 1, 7 and 9 are offered. -/
def reading : State :=
  { part.setQueue [⟨.intent 12 2 61 5, 0, none⟩, ⟨.intent 13 2 61 5, 0, none⟩, ⟨.intent 15 2 61 5, 0, none⟩,
      ⟨.status 2, 0, none⟩, ⟨.status 5, 0, none⟩] with
    service := { part.service with request := some ⟨12, [[1], [7], [9]], 0, false⟩ } }

/-- Section 10.8: the first two replies displace CH5 and then CH2; the third waits. -/
theorem test_replies :
    let t := after .serviceReplyQueued (after .serviceReplyQueued reading)
    (t.line.queue.drop 3).map (·.frame) = [.reply 12 [1] true, .reply 12 [7] true]
      ∧ after .serviceReplyQueued t = t := by decide +kernel

theorem test_reply_discard :
    let s := { reading with service := { reading.service with request := some ⟨12, [[1], [7], [9]], 500, false⟩ } }
    (after .replyListDiscard s).service.request = none ∧ after .replyListDiscard reading = reading := by decide +kernel

theorem witness_RepliesAreHandedOn :
    let z : TxEntry := ⟨.status 5, 0, none⟩
    (500 : Nat) ≤ (⟨12, [[1]], 500, false⟩ : ServiceRequest).age ∧ (⟨12, [[1]], 499, false⟩ : ServiceRequest).age < 500
      ∧ reading.service.request = some ⟨12, [[1], [7], [9]], 0, false⟩ ∧ ¬reading.replyRoom
      ∧ reading.line.queue = reading.line.queue.take 4 ++ z :: [] ∧ part.replyRoom
      ∧ (∀ x ∈ (part.setQueue (reading.line.queue.take 3)).line.queue, x.frame.kind ≠ 5) := by
  unfold State.replyRoom
  decide +kernel

/-! ### Service commands (R167 to R171) -/

/-- Section 12.3: BUSY is 1, REJECTED 2, EMPTY 4; the request's byte 0 is repeated. -/
theorem test_answers :
    (after (.unknownCommand 12 9) part).line.queue.map (·.frame) = [.reply 12 [9, 2] false]
      ∧ (after (.readPeers 12) reading).line.queue.map (·.frame) = (reading.line.queue.take 4).map (·.frame)
          ++ [.reply 12 [4, 1] false]
      ∧ (after (.readPeers 12) part).service.request = some ⟨12, [[4, 4]], 0, false⟩ := by decide +kernel

theorem serves_part : part.Serves 12 := ⟨by decide, by decide, by decide, by decide, by decide⟩

/-- The service mask with and without station 12, a request in progress, and LIMP. -/
theorem witness_RequestsAreGated :
    part.Plain ∧ (part.mode ≠ .configuring ∧ part.line.busOff = false) ∧ (12 : Station) ≠ part.own ∧ frameFrom (.readPeers 12) = some 12
      ∧ requestByte (.readPeers 12) = some 4 ∧ (0#16).getLsbD 12 = false ∧ part.service.mask.getLsbD 12 = true
      ∧ reading.service.request ≠ none ∧ part.Serves 12 ∧ part.replyRoom ∧ (part.setMode .limp).mode = .limp
      ∧ 20 ≤ (20#8).toNat := by
  refine ⟨plainOf (by decide) (by decide), by decide, by decide, by decide, by decide, by decide, by decide, by decide,
    serves_part, ?_, by decide, by decide⟩
  unfold State.replyRoom
  decide +kernel

/-- Section 7.8: CH8 latched by OVERLOAD, its wire hot or cool. -/
def latched9 (cool : Bool) : State :=
  with_ 9 (fun r => { asking 255 r with
    state := .latched, active := some .overload, faults := { r.faults with overload := true }, retryCount := 3
    prot := { r.prot with cool := cool } }) part

/-- Section 7.8: NOT_COOL while hot; DONE and PENDING once cool. -/
theorem test_clear_fault :
    (after (.clearFault 12 9) (latched9 false)).service.request = some ⟨12, [[1, 3]], 0, false⟩
      ∧ ((after (.clearFault 12 9) (latched9 false)).chan 9).state = .latched
      ∧ (after (.clearFault 12 9) (latched9 true)).service.request = some ⟨12, [[1, 0]], 0, false⟩
      ∧ ((after (.clearFault 12 9) (latched9 true)).chan 9).state = .pending
      ∧ ((after (.clearFault 12 255) (latched9 true)).chan 9).faults = .empty
      ∧ (after (.clearFault 12 9) on9).line.queue = []
      ∧ (after (.clearFault 12 9) (with_ 9 (fun r => { r with retryCount := 1 }) on9)).line.queue.map (·.frame)
          = [.status 9] := by decide +kernel

/-- Refused, and cleared to each destination: the first and the last channel number. -/
theorem witness_ClearFaultClears :
    (latched9 false).Plain ∧ part.Serves 12 ∧ (latched9 false).mode ≠ .limp ∧ (9#8).toNat = (9 : Channel).val
      ∧ (19#8).toNat = (19 : Channel).val ∧ ((latched9 false).chan 9).active = some .overload
      ∧ ((latched9 false).chan 9).prot.cool = false ∧ ((latched9 true).chan 9).prot.hot = false
      ∧ ((with_ 9 (fun r => { r with prot := { r.prot with hot := true } }) (latched9 true)).chan 9).prot.hot = true
      ∧ ((latched9 true).chan 9).eff ≠ 0 ∧ ((latched9 true).chan 9).cfg.tier ≠ 0 ∧ (latched9 true).mode = .running
      ∧ ((with_ 9 (fun r => { r with cfg := { r.cfg with tier := 0 } }) (latched9 true)).chan 9).cfg.tier = 0
      ∧ (part.chan 9).state ≠ .latched ∧ (part.chan 9).faults = .empty ∧ (part.chan 9).retryCount = 0 :=
  ⟨plainOf (by decide +kernel) (by decide +kernel), serves_part, by decide +kernel⟩

/-- R163, R168: the named flags go and the others stay. -/
theorem test_clear_events :
    let s := with_ 9 (fun r => { r with events := ⟨true, true, true⟩ }) ((part.raise .feed).raise .shutdown)
    let t := after (.clearEvents 12 4 0) s
    t.eventSet .feed = false ∧ t.eventSet .shutdown = true ∧ (t.chan 9).events = ⟨true, true, true⟩
      ∧ ((after (.clearEvents 12 0 512) s).chan 9).events = ⟨false, false, false⟩ := by decide +kernel

theorem witness_ClearEventsClears : part.Plain ∧ part.Serves 12 := ⟨plainOf (by decide) (by decide), serves_part⟩

/-- Section 12.3: byte 0 of the first reply: code 3, reply 0, and state 5 over four bits; duty 255 and booking 120. -/
theorem test_read_channel :
    on9.channelReply1 9 = [0b01100101#8, 0b00000111#8, 0b11111111#8, 0b11111111#8, 0b11111001#8, 0b11100000#8, 0#8, 0#8]
      ∧ (after (.readChannel 12 9) on9).service.request.map (·.replies.length) = some 2 := by decide +kernel

/-- Section 12.3: one reply for each entry. -/
theorem test_read_peers :
    (after (.readPeers 12) coach).service.request.map (·.replies)
      = some [[0x82, 0x32, 0x02, 0x58, 0x3E, 0x80, 0x01, 0x80], [0x8E, 0x19, 0x01, 0xF4, 0x25, 0x80, 0xC9, 0x00]] := by decide +kernel

/-- The counter of open values moves on, and the first reply holds the mode and the station. -/
theorem test_read_events :
    (after (.readEvents 12) part).freeCount = 1
      ∧ part.eventsReply1 = [0b10100000#8, 0#8, 0b10001100#8, 0#8, 0#8, 0#8, 0#8, 0#8] := by decide +kernel

theorem witness_ReadsReplyWithTheState :
    part.Plain ∧ part.Serves 12 ∧ (0#8).toNat = (0 : Channel).val ∧ (19#8).toNat = (19 : Channel).val :=
  ⟨plainOf (by decide) (by decide), serves_part, by decide⟩

/-- Section 9.6, 16:00: an override of 255 for 20 s announces a held channel. -/
theorem test_override :
    let s := with_ 9 (fun r => { r with raw := 255, hold := true }) part
    let t := after (.override 12 9 255 200) s
    (t.chan 9).override = some ⟨255, 20000⟩ ∧ (t.chan 9).state = .pending ∧ (t.chan 9).hold = true := by decide +kernel

/-- R171: RESTART queues its reply and restarts nothing yet. -/
theorem test_restart :
    let t := after (.restart 12) part
    t.service.request = some ⟨12, [[7, 0]], 0, true⟩ ∧ t.mode = .running ∧ t.service.restartDue = false := by
  decide +kernel

theorem witness_OverrideAndRestart :
    let zero := with_ 9 (fun r => { r with cfg := { r.cfg with tier := 0 } }) part
    let low := with_ 9 (fun r => { r with raw := 0, override := some ⟨255, 100⟩ }) on9
    on9.Plain ∧ part.Serves 12 ∧ on9.mode ≠ .limp ∧ (on9.chan 9).state ≠ .off ∧ (on9.chan 9).eff ≠ 0
      ∧ (zero.chan 9).state = .off ∧ (zero.chan 9).eff = 0 ∧ (zero.chan 9).cfg.tier = 0 ∧ (zero.chan 9).prot.hot = false
      ∧ (low.chan 9).state = .on ∧ (low.chan 9).eff ≠ 0 ∧ (low.chan 9).raw = 0 :=
  ⟨plainOf (by decide +kernel) (by decide +kernel), serves_part, by decide +kernel⟩

/-- The widest fields that a frame of section 12.2 carries, and a layout of all 64 bits. -/
theorem witness_ComposedFramesReadBack :
    (7 : Station) ≠ part.own ∧ (65535 : Nat) < 65536 ∧ (255 : Nat) < 256
      ∧ (([(63, 1)] ++ (1, 1) :: [] : List (Nat × Nat)).map (·.1)).sum ≤ 64
      ∧ ∀ t, (⟨4095, 0, 4095, 4095⟩ : TierValues).get t ≤ 4095 := by decide +kernel

end Sys2Proof.Tests
end

-- ==== Proofs: records ====
section
/-! SUPPORT. What one event may make of a channel's record, and that soundness (R7 to R9, R17, R85, R123, R125, R147)
and the booking rules (R5 to R8, R124) outlast each of these changes. -/

namespace Sys2Proof.Machine

variable {r q : ChannelRecord}

/-! ### The changes -/

/-- R5, R6, R8: the record once the effective request has followed the fields that it is made of. -/
def ChannelRecord.follow (r : ChannelRecord) : ChannelRecord :=
  if r.effectiveRequest = r.eff then r else r.withRequest r.effectiveRequest

/-- What an event may make of the record of a channel that keeps its state and its request. -/
inductive ChannelRecord.Keeps (r : ChannelRecord) : ChannelRecord → Prop
  /-- Results, flags, timers of use and the detectors: everything but the samples and the heat. -/
  | note (idClass : LoadClass) (idDue : Bool) (faults : FaultRecord) (events : ChannelEvents) (causes : Causes)
      (autoOff : Option Nat) (echoTaken : Byte) (p : Protection)
      (hp : p.theta = r.prot.theta ∧ p.lastTen = r.prot.lastTen) :
      r.Keeps { r with
        idClass := idClass, idDue := idDue, faults := faults, events := events, causes := causes, autoOff := autoOff
        echoTaken := echoTaken, prot := p }
  /-- R101: a sample joins the last ten. -/
  | sample (v : Nat) (hv : v ≤ 1023) : r.Keeps (r.takeSample v)
  /-- R85: a sample joins the start. -/
  | startSample (v : Nat) : r.Keeps (r.startSample v)
  /-- R108: the short detector. -/
  | shortSample (v : Nat) : r.Keeps (r.shortSample v)
  /-- R103: the heat. -/
  | heat : r.Keeps r.updateHeat
  /-- R87, R145: a period begins. -/
  | period : r.Keeps r.periodStart
  /-- R98: a window end waits. -/
  | ending (t : StartRecord) (h : r.state = .starting) : r.Keeps { r with start := some t }
  /-- R70, R74: a booked channel is throttled or not. -/
  | throttle (b : Bool) (h : r.state.books = true) : r.Keeps (r.withThrottle b)
  /-- R74: a flag cleared. -/
  | unthrottle : r.Keeps (r.withThrottle false)
  /-- R148: a phase begins. -/
  | phase (p : Phase) (h : r.state = .cycling) : r.Keeps (r.changePhase p)
  /-- R17: a clean run. -/
  | cleanRun : r.Keeps { r with retryCount := 0, cleanRun := none }
  /-- R129: a clear. -/
  | clear : r.Keeps r.cleared
  /-- One millisecond. -/
  | pass : r.Keeps r.passMs

/-- What an event may make of the record of a channel that enters a state, PENDING and SLOTWAIT apart. In CONFIGURING
nothing but OFF and INHIBITED is entered. -/
inductive ChannelRecord.Enters (r : ChannelRecord) : ChannelRecord → Prop
  /-- R8: a state that books nothing and carries no fault. -/
  | idle (st : ChannelState) (events : ChannelEvents) (causes : Causes)
      (hst : st = .off ∨ st = .inhibited ∨ (¬r.Unbegun ∧ (st = .deferred ∨ st = .shed)))
      (hc : r.state = .latched → r.retryCount = 0) :
      r.Enters { r.idle st with events := events, causes := causes }
  /-- R11: a start. -/
  | start (h : ¬r.Unbegun) (hc : r.state = .latched → r.retryCount = 0) : r.Enters r.toStarting
  /-- R120. -/
  | latch (k : FaultKind) (h : r.takesFault k = true) : r.Enters (r.latch k)
  /-- R121. -/
  | retry (k : FaultKind) (h : r.takesFault k = true) : r.Enters (r.retryStop k)
  /-- R90. -/
  | on (h : r.state = .starting) : r.Enters r.toOnFromStart
  /-- R90. -/
  | cycling (h : r.state = .starting) : r.Enters r.toCyclingFromStart
  /-- R70. -/
  | throttle (h : r.state = .on) : r.Enters r.toCyclingFromOn
  /-- R74. -/
  | unthrottle (h : r.state = .cycling) : r.Enters r.toOnFromCycling

/-- R5, R34, R152, R170: what an event that reaches the request makes of the record: the raw request, the auto-off hold or
the override changes, and the effective request follows. -/
inductive ChannelRecord.Asks (r : ChannelRecord) : ChannelRecord → Prop
  | mk (raw : Byte) (hold : Bool) (override : Option Override) (autoOff : Option Nat) (events : ChannelEvents) :
      r.Asks { r with raw := raw, hold := hold, override := override, autoOff := autoOff, events := events }.follow

/-! ### The states -/

theorem ChannelRecord.takesFault_state {k : FaultKind} (h : r.takesFault k = true) :
    r.state = .slotwait ∨ r.state = .starting ∨ r.state = .on ∨ r.state = .cycling := by
  have hphase : r.inOnPhase = true → r.state = .cycling := by
    unfold ChannelRecord.inOnPhase
    split <;> simp +contextual
  have hrun : r.running = true → r.state = .on ∨ r.state = .cycling := by
    unfold ChannelRecord.running
    intro h
    rcases Bool.or_eq_true_iff.1 h with h | h
    · exact .inl (by simpa using h)
    · exact .inr (hphase h)
  cases k <;>
    simp only [ChannelRecord.takesFault, ChannelRecord.conducting, Bool.or_eq_true, beq_iff_eq] at h <;> tauto

@[simp] theorem ChannelRecord.withRequest_state (r : ChannelRecord) (v : Byte) : (r.withRequest v).state = r.state := rfl

@[simp] theorem ChannelRecord.follow_state (r : ChannelRecord) : r.follow.state = r.state := by
  unfold ChannelRecord.follow
  split <;> rfl

@[simp] theorem ChannelRecord.startSample_state (r : ChannelRecord) (v : Nat) : (r.startSample v).state = r.state := by
  unfold ChannelRecord.startSample
  split <;> rfl

@[simp] theorem ChannelRecord.shortSample_state (r : ChannelRecord) (v : Nat) : (r.shortSample v).state = r.state := by
  unfold ChannelRecord.shortSample
  split
  · split <;> rfl
  · rfl

@[simp] theorem ChannelRecord.missedSample_state (r : ChannelRecord) : r.missedSample.state = r.state := by
  unfold ChannelRecord.missedSample
  split
  · rfl
  · simp [ChannelRecord.takeSample, ChannelRecord.modProt]

@[simp] theorem ChannelRecord.passMs_state (r : ChannelRecord) : r.passMs.state = r.state := r.missedSample_state

/-- A kept record keeps its state. -/
theorem ChannelRecord.Keeps.state_eq (h : r.Keeps q) : q.state = r.state := by
  cases h with
  | period =>
    unfold ChannelRecord.periodStart
    split <;> rfl
  | phase p =>
    unfold ChannelRecord.changePhase
    split <;> rfl
  | startSample v => simp
  | shortSample v => simp
  | pass => simp
  | _ => rfl

/-- A request changes no state. -/
theorem ChannelRecord.Asks.state_eq (h : r.Asks q) : q.state = r.state := by
  cases h
  simp

end Sys2Proof.Machine
end

-- ==== Proofs: rec2 ====
section
namespace Sys2Proof.Machine

variable {r q : ChannelRecord}

/-! ### Soundness -/

/-- A record whose state, booking, fault, timers and output are another's is sound with it. -/
theorem ChannelRecord.Sound.congr (h : r.Sound) (hst : q.state = r.state)
    (hb : r.state.books = false → q.booking = r.booking ∧ q.throttled = r.throttled)
    (ha : q.active = r.active) (hs : q.start.isSome = r.start.isSome)
    (hp : q.phase.map (·.onPhase) = r.phase.map (·.onPhase))
    (hc : q.cleanRun.isSome → r.cleanRun.isSome) (hr : q.retry.isSome → r.retry.isSome)
    (hspan : r.conducting = false → q.span = r.span ∨ q.span = 0) : q.Sound := by
  have hphase : q.inOnPhase = r.inOnPhase := by
    unfold ChannelRecord.inOnPhase
    rw [hst]
    cases e : r.phase <;> cases e' : q.phase <;> simp_all
  have hcond : q.conducting = r.conducting := by
    simp [ChannelRecord.conducting, ChannelRecord.running, hst, hphase]
  constructor
  · intro hn
    rw [hst] at hn
    obtain ⟨b, t⟩ := hb hn
    rw [b, t]
    exact h.booking hn
  · rw [ha, hst, h.active]
  · rw [hs, hst, h.start]
  · rw [hst, ← h.phase]
    simpa using congrArg Option.isSome hp
  · rw [hst]
    exact fun x => h.cleanRun (hc x)
  · rw [hst]
    exact fun x => h.retry (hr x)
  · intro hn
    rw [hcond] at hn
    rcases hspan hn with e | e
    · rw [e]
      exact h.span hn
    · exact e

/-- A record at rest: everything that runs is stopped. -/
theorem ChannelRecord.sound_idle (r : ChannelRecord) {st : ChannelState} (events : ChannelEvents) (causes : Causes)
    (h : st ≠ .cooldown ∧ st ≠ .latched ∧ st ≠ .starting ∧ st ≠ .on ∧ st ≠ .cycling) :
    ({ r.idle st with events := events, causes := causes } : ChannelRecord).Sound := by
  obtain ⟨h1, h2, h3, h4, h5⟩ := h
  constructor <;> simp [ChannelRecord.idle, h1, h2, h3, h5]

theorem ChannelRecord.sound_toSlotwait (r : ChannelRecord) : r.toSlotwait.Sound := by
  constructor <;> simp [ChannelRecord.toSlotwait, ChannelRecord.idle, ChannelState.books]

theorem ChannelRecord.sound_toStarting (r : ChannelRecord) : r.toStarting.Sound := by
  constructor <;> simp [ChannelRecord.toStarting, ChannelState.books, ChannelRecord.conducting]

theorem ChannelRecord.sound_latch (r : ChannelRecord) (k : FaultKind) : (r.latch k).Sound := by
  constructor <;> simp [ChannelRecord.latch, ChannelRecord.idle]

theorem ChannelRecord.sound_retryStop (r : ChannelRecord) (k : FaultKind) : (r.retryStop k).Sound := by
  unfold ChannelRecord.retryStop
  dsimp only
  split
  · constructor <;> simp [ChannelRecord.latch, ChannelRecord.idle]
  · constructor <;> simp [ChannelRecord.idle]

/-- R123, R125: outside COOLDOWN and LATCHED no fault is active and no retry timer runs. -/
theorem ChannelRecord.Sound.faultFree (h : r.Sound) (hs : r.state ≠ .cooldown ∧ r.state ≠ .latched) :
    r.active = none ∧ r.retry = none := by
  obtain ⟨h1, h2⟩ := hs
  have ha := h.active
  have hr := h.retry
  constructor
  · rw [beq_false_of_ne h1, beq_false_of_ne h2] at ha
    simpa using ha
  · simpa [h1] using hr

/-- Every entry makes a sound record sound. -/
theorem ChannelRecord.Enters.sound (h : r.Sound) (e : r.Enters q) : q.Sound := by
  cases e with
  | idle st ev k hst hc =>
    apply ChannelRecord.sound_idle
    rcases hst with rfl | rfl | ⟨-, rfl | rfl⟩ <;> simp
  | start => exact r.sound_toStarting
  | latch k => exact r.sound_latch k
  | retry k => exact r.sound_retryStop k
  | on hs =>
    obtain ⟨ha, hr⟩ := h.faultFree (by simp [hs])
    have hphase := h.phase
    constructor <;> simp_all [ChannelRecord.toOnFromStart, ChannelState.books, ChannelRecord.conducting,
      ChannelRecord.running]
  | cycling hs =>
    obtain ⟨ha, hr⟩ := h.faultFree (by simp [hs])
    constructor <;> simp_all [ChannelRecord.toCyclingFromStart, ChannelRecord.startOnPhase, ChannelState.books,
      ChannelRecord.conducting, ChannelRecord.running, ChannelRecord.inOnPhase]
  | throttle hs =>
    obtain ⟨ha, hr⟩ := h.faultFree (by simp [hs])
    have hstart := h.start
    constructor <;> simp_all [ChannelRecord.toCyclingFromOn, ChannelRecord.withThrottle, ChannelRecord.startOnPhase,
      ChannelState.books, ChannelRecord.conducting, ChannelRecord.running, ChannelRecord.inOnPhase]
  | unthrottle hs =>
    obtain ⟨ha, hr⟩ := h.faultFree (by simp [hs])
    have hstart := h.start
    constructor <;> simp_all [ChannelRecord.toOnFromCycling, ChannelState.books, ChannelRecord.conducting,
      ChannelRecord.running]

theorem ChannelRecord.Sound.startSample (h : r.Sound) (v : Nat) : (r.startSample v).Sound := by
  unfold ChannelRecord.startSample
  split
  · next t hs ht =>
    exact h.congr rfl (fun _ => ⟨rfl, rfl⟩) rfl (by simp [ht]) rfl id id
      (fun hn => by simp [ChannelRecord.conducting, hs] at hn)
  · exact h

theorem ChannelRecord.Sound.shortSample (h : r.Sound) (v : Nat) : (r.shortSample v).Sound := by
  unfold ChannelRecord.shortSample
  split
  · split
    · exact h.congr rfl (fun _ => ⟨rfl, rfl⟩) rfl rfl rfl id id (fun _ => .inr rfl)
    · exact h.congr rfl (fun _ => ⟨rfl, rfl⟩) rfl rfl rfl id id (fun _ => .inl rfl)
  · exact h

theorem ChannelRecord.Sound.missedSample (h : r.Sound) : r.missedSample.Sound := by
  unfold ChannelRecord.missedSample
  split
  · exact h
  · have : (r.takeSample 0).Sound := h.congr rfl (fun _ => ⟨rfl, rfl⟩) rfl rfl rfl id id (fun _ => .inl rfl)
    exact (this.startSample 0).shortSample 0

theorem ChannelRecord.Sound.countMs (h : r.Sound) : r.countMs.Sound := by
  refine h.congr rfl (fun _ => ⟨rfl, rfl⟩) rfl (by simp [ChannelRecord.countMs]) ?_ ?_ ?_ (fun _ => .inl rfl)
  · simp only [ChannelRecord.countMs, Option.map_map]
    rfl
  · simp [ChannelRecord.countMs]
  · simp [ChannelRecord.countMs, countDown]

theorem ChannelRecord.Sound.withRequest (h : r.Sound) (v : Byte) : (r.withRequest v).Sound :=
  h.congr rfl (fun hn => ⟨by simp [ChannelRecord.withRequest, hn], rfl⟩) rfl rfl rfl id id (fun _ => .inl rfl)

/-- Every kept record stays sound. -/
theorem ChannelRecord.Keeps.sound (h : r.Sound) (e : r.Keeps q) : q.Sound := by
  cases e with
  | startSample v => exact h.startSample v
  | shortSample v => exact h.shortSample v
  | period =>
    unfold ChannelRecord.periodStart
    split
    · next t hs ht =>
      exact h.congr rfl (fun _ => ⟨rfl, rfl⟩) rfl (by simp [ChannelRecord.nextStartPeriod, ht]) rfl id id
        (fun hn => by simp [ChannelRecord.conducting, hs] at hn)
    · next hs =>
      exact h.congr rfl (fun _ => ⟨rfl, rfl⟩) rfl rfl rfl id id
        (fun hn => by simp [ChannelRecord.conducting, ChannelRecord.running, hs] at hn)
    · exact h
  | ending t hs =>
    refine h.congr rfl (fun _ => ⟨rfl, rfl⟩) rfl ?_ rfl id id (fun _ => .inl rfl)
    rw [h.start, hs]
    rfl
  | throttle b hb =>
    exact h.congr rfl (fun hn => by rw [hb] at hn; cases hn) rfl rfl rfl id id (fun _ => .inl rfl)
  | unthrottle =>
    exact h.congr rfl (fun hn => ⟨by simp [ChannelRecord.withThrottle, hn], (h.booking hn).2.symm⟩) rfl rfl rfl id id
      (fun _ => .inl rfl)
  | phase p hs =>
    have hact := h.active
    have hretry := h.retry
    have hstart := h.start
    unfold ChannelRecord.changePhase
    split
    · constructor <;> simp_all [ChannelRecord.startOffPhase, ChannelState.books]
    · constructor <;> simp_all [ChannelRecord.startOnPhase, ChannelState.books, ChannelRecord.conducting,
        ChannelRecord.running, ChannelRecord.inOnPhase]
  | cleanRun => exact h.congr rfl (fun _ => ⟨rfl, rfl⟩) rfl rfl rfl (by simp) id (fun _ => .inl rfl)
  | pass => exact h.missedSample.countMs
  | _ => exact h.congr rfl (fun _ => ⟨rfl, rfl⟩) rfl rfl rfl id id (fun _ => .inl rfl)

/-- A request keeps a record sound. -/
theorem ChannelRecord.Asks.sound (h : r.Sound) (e : r.Asks q) : q.Sound := by
  cases e with
  | mk raw hold ov auto ev =>
    have hr : ({ r with raw := raw, hold := hold, override := ov, autoOff := auto, events := ev } : ChannelRecord).Sound :=
      h.congr rfl (fun _ => ⟨rfl, rfl⟩) rfl rfl rfl id id (fun _ => .inl rfl)
    unfold ChannelRecord.follow
    split
    · exact hr
    · exact hr.withRequest _

end Sys2Proof.Machine
end

-- ==== Proofs: rec3 ====
section
namespace Sys2Proof.Machine

variable {r q : ChannelRecord}

/-! ### Booking rules -/

/-- A record whose state, request, duty, booking and count are another's follows the rules with it. -/
theorem ChannelRecord.Ruled.congr (h : r.Ruled) (hcfg : q.cfg = r.cfg) (hst : q.state = r.state) (heff : q.eff = r.eff)
    (hreq : q.effectiveRequest = r.effectiveRequest) (hd : q.duty = r.duty) (hb : q.booking = r.booking)
    (ht : q.throttled = r.throttled) (hn : q.retryCount = r.retryCount ∨ q.retryCount = 0) : q.Ruled := by
  constructor
  · rw [heff, hreq, h.eff]
  · rw [hd, hcfg, heff, h.duty]
  · rw [hst, hb, hcfg, hd, ht]
    exact h.booked
  · rw [hst, hb, ht]
    exact h.unbooked
  · rw [hcfg]
    have := h.count
    omega
  · rw [hcfg, hst]
    intro hc
    exact h.latched (by omega)

/-- R8: a record that books nothing follows the rules where its count does. -/
theorem ChannelRecord.Ruled.idle (h : r.Ruled) {st : ChannelState} (hst : st.books = false) (events : ChannelEvents)
    (causes : Causes) (hc : r.cfg.retryLimit < r.retryCount → st = .latched) :
    ({ r.idle st with events := events, causes := causes } : ChannelRecord).Ruled where
  eff := h.eff
  duty := h.duty
  booked hb := by
    have hb : st.books = true := hb
    rw [hst] at hb
    cases hb
  unbooked _ := ⟨rfl, rfl⟩
  count := h.count
  latched := hc

/-- R124: a count above the limit stands in LATCHED alone. -/
theorem ChannelRecord.Ruled.count_le (h : r.Ruled) (hc : r.state = .latched → r.retryCount = 0) :
    r.retryCount ≤ r.cfg.retryLimit := by
  by_contra hn
  have := hc (h.latched (by omega))
  omega

theorem ChannelRecord.Ruled.toSlotwait (h : r.Ruled) (hc : r.state ≠ .latched) : r.toSlotwait.Ruled where
  eff := h.eff
  duty := h.duty
  booked _ := rfl
  unbooked hn := by cases hn
  count := h.count
  latched hl := absurd (h.latched hl) hc

theorem ChannelRecord.Ruled.toStarting (h : r.Ruled) (hc : r.state = .latched → r.retryCount = 0) : r.toStarting.Ruled where
  eff := h.eff
  duty := h.duty
  booked _ := rfl
  unbooked hn := by cases hn
  count := h.count
  latched hl := by
    have hl : r.cfg.retryLimit < r.retryCount := hl
    have := h.count_le hc
    omega

theorem ChannelRecord.Ruled.recordFault (h : r.Ruled) (k : FaultKind) : (r.recordFault k).Ruled :=
  h.congr rfl rfl rfl rfl rfl rfl rfl (.inl rfl)

theorem ChannelRecord.Ruled.latch (h : r.Ruled) (k : FaultKind) : (r.latch k).Ruled :=
  ((h.recordFault k).idle (st := .latched) rfl (r.recordFault k).events r.causes (fun _ => rfl)).congr rfl rfl rfl rfl rfl rfl rfl (.inl rfl)

theorem ChannelRecord.Ruled.retryStop (h : r.Ruled) (k : FaultKind) (hc : r.state ≠ .latched) :
    (r.retryStop k).Ruled := by
  have hle := h.count_le (fun e => absurd e hc)
  unfold ChannelRecord.retryStop
  dsimp only
  split
  · have hl := h.latch k
    exact ⟨hl.eff, hl.duty, hl.booked, hl.unbooked, Nat.succ_le_succ hle, fun _ => rfl⟩
  · next hn =>
    have hl := (h.recordFault k).idle (st := .cooldown) rfl (r.recordFault k).events (r.recordFault k).causes
      (fun hb => absurd (h.latched hb) hc)
    exact ⟨hl.eff, hl.duty, hl.booked, hl.unbooked, Nat.succ_le_succ hle, fun hb => absurd hb hn⟩

/-- A booked record that enters another booked state, its booking following, keeps the rules. -/
theorem ChannelRecord.Ruled.rebook (h : r.Ruled) (hr : r.state ≠ .latched) (hcfg : q.cfg = r.cfg) (heff : q.eff = r.eff)
    (hreq : q.effectiveRequest = r.effectiveRequest) (hd : q.duty = r.duty) (hq : q.state.books = true)
    (hb : q.booking = r.cfg.bookingFor r.duty q.throttled) (hn : q.retryCount = r.retryCount) : q.Ruled := by
  constructor
  · rw [heff, hreq, h.eff]
  · rw [hd, hcfg, heff, h.duty]
  · rw [hb, hcfg, hd]
    exact fun _ => rfl
  · rw [hq]
    intro hn
    cases hn
  · rw [hcfg, hn]
    exact h.count
  · rw [hcfg, hn]
    exact fun hl => absurd (h.latched hl) hr

/-- Every entry keeps the rules. -/
theorem ChannelRecord.Enters.ruled (h : r.Ruled) (e : r.Enters q) : q.Ruled := by
  cases e with
  | idle st ev k hst hc =>
    have hle := h.count_le hc
    refine h.idle ?_ _ _ (fun hl => by omega)
    rcases hst with rfl | rfl | ⟨-, rfl | rfl⟩ <;> rfl
  | start _ hc => exact h.toStarting hc
  | latch k => exact h.latch k
  | retry k hk =>
    refine h.retryStop k ?_
    rcases ChannelRecord.takesFault_state hk with e | e | e | e <;> simp [e]
  | on hs =>
    exact h.rebook (by simp [hs]) rfl rfl rfl rfl rfl (h.booked (by simp [hs, ChannelState.books])) rfl
  | cycling hs =>
    exact h.rebook (by simp [hs]) rfl rfl rfl rfl rfl (h.booked (by simp [hs, ChannelState.books])) rfl
  | throttle hs =>
    exact h.rebook (by simp [hs]) rfl rfl rfl rfl rfl
      (by simp [ChannelRecord.toCyclingFromOn, ChannelRecord.startOnPhase, ChannelRecord.withThrottle, hs,
        ChannelState.books]) rfl
  | unthrottle hs => exact h.rebook (by simp [hs]) rfl rfl rfl rfl rfl rfl rfl

theorem ChannelRecord.Ruled.startSample (h : r.Ruled) (v : Nat) : (r.startSample v).Ruled := by
  unfold ChannelRecord.startSample
  split
  · exact h.congr rfl rfl rfl rfl rfl rfl rfl (.inl rfl)
  · exact h

theorem ChannelRecord.Ruled.shortSample (h : r.Ruled) (v : Nat) : (r.shortSample v).Ruled := by
  unfold ChannelRecord.shortSample
  split
  · split <;> exact h.congr rfl rfl rfl rfl rfl rfl rfl (.inl rfl)
  · exact h

theorem ChannelRecord.Ruled.takeSample (h : r.Ruled) (v : Nat) : (r.takeSample v).Ruled :=
  h.congr rfl rfl rfl rfl rfl rfl rfl (.inl rfl)

theorem ChannelRecord.Ruled.missedSample (h : r.Ruled) : r.missedSample.Ruled := by
  unfold ChannelRecord.missedSample
  split
  · exact h
  · exact ((h.takeSample 0).startSample 0).shortSample 0

theorem ChannelRecord.Ruled.countMs (h : r.Ruled) : r.countMs.Ruled := by
  refine h.congr rfl rfl rfl ?_ rfl rfl rfl (.inl rfl)
  simp only [ChannelRecord.effectiveRequest, ChannelRecord.countMs]
  cases r.override <;> rfl

/-- Every kept record keeps the rules. -/
theorem ChannelRecord.Keeps.ruled (h : r.Ruled) (e : r.Keeps q) : q.Ruled := by
  cases e with
  | startSample v => exact h.startSample v
  | shortSample v => exact h.shortSample v
  | period =>
    unfold ChannelRecord.periodStart
    split
    · exact h.congr rfl rfl rfl rfl rfl rfl rfl (.inl rfl)
    · exact h.congr rfl rfl rfl rfl rfl rfl rfl (.inl rfl)
    · exact h
  | throttle b hb =>
    refine h.rebook ?_ rfl rfl rfl rfl hb (by simp [ChannelRecord.withThrottle, hb]) rfl
    intro e
    rw [e] at hb
    cases hb
  | unthrottle =>
    by_cases hb : r.state.books = true
    · refine h.rebook ?_ rfl rfl rfl rfl hb (by simp [ChannelRecord.withThrottle, hb]) rfl
      intro e
      rw [e] at hb
      cases hb
    · have hb : r.state.books = false := by simpa using hb
      exact h.congr rfl rfl rfl rfl rfl (by simp [ChannelRecord.withThrottle, hb]) (h.unbooked hb).2.symm (.inl rfl)
  | phase p =>
    unfold ChannelRecord.changePhase
    split <;> exact h.congr rfl rfl rfl rfl rfl rfl rfl (.inl rfl)
  | cleanRun => exact h.congr rfl rfl rfl rfl rfl rfl rfl (.inr rfl)
  | clear => exact h.congr rfl rfl rfl rfl rfl rfl rfl (.inr rfl)
  | pass => exact h.missedSample.countMs
  | _ => exact h.congr rfl rfl rfl rfl rfl rfl rfl (.inl rfl)

/-- R5, R6, R8: a request keeps the rules. -/
theorem ChannelRecord.Asks.ruled (h : r.Ruled) (e : r.Asks q) : q.Ruled := by
  cases e with
  | mk raw hold ov auto ev =>
    unfold ChannelRecord.follow
    split
    · next he => exact ⟨he.symm, h.duty, h.booked, h.unbooked, h.count, h.latched⟩
    · refine ⟨rfl, rfl, fun hb => ?_, fun hn => ?_, h.count, h.latched⟩
      · exact if_pos hb
      · obtain ⟨b, t⟩ := h.unbooked hn
        have hs : r.state.books = false := hn
        exact ⟨(if_neg (by simp [hs])).trans b, t⟩

/-! ### Records that have not begun -/

/-- R23: a kept record of a channel that has not begun has not begun. -/
theorem ChannelRecord.Keeps.unbegun (h : r.Unbegun) (e : r.Keeps q) : q.Unbegun := by
  obtain ⟨hst, hraw, heff, hov, hhold, hn⟩ := h
  have hs := e.state_eq
  unfold ChannelRecord.Unbegun
  rw [hs]
  refine ⟨hst, ?_⟩
  cases e with
  | startSample v =>
    unfold ChannelRecord.startSample
    split <;> exact ⟨hraw, heff, hov, hhold, hn⟩
  | shortSample v =>
    unfold ChannelRecord.shortSample
    split
    · split <;> exact ⟨hraw, heff, hov, hhold, hn⟩
    · exact ⟨hraw, heff, hov, hhold, hn⟩
  | period =>
    unfold ChannelRecord.periodStart
    split <;> exact ⟨hraw, heff, hov, hhold, hn⟩
  | phase p =>
    unfold ChannelRecord.changePhase
    split <;> exact ⟨hraw, heff, hov, hhold, hn⟩
  | cleanRun => exact ⟨hraw, heff, hov, hhold, rfl⟩
  | clear => exact ⟨hraw, heff, hov, hhold, rfl⟩
  | pass =>
    have hm : r.missedSample.raw = r.raw ∧ r.missedSample.eff = r.eff ∧ r.missedSample.override = r.override
        ∧ r.missedSample.hold = r.hold ∧ r.missedSample.retryCount = r.retryCount := by
      unfold ChannelRecord.missedSample ChannelRecord.startSample ChannelRecord.shortSample
      repeat' split
      all_goals exact ⟨rfl, rfl, rfl, rfl, rfl⟩
    obtain ⟨m1, m2, m3, m4, m5⟩ := hm
    refine ⟨m1.trans hraw, m2.trans heff, ?_, m4.trans hhold, m5.trans hn⟩
    simp [ChannelRecord.passMs, ChannelRecord.countMs, m3, hov]
  | _ => exact ⟨hraw, heff, hov, hhold, hn⟩

/-- R23: of a channel that has not begun, an entry makes one that has not. -/
theorem ChannelRecord.Enters.unbegun (h : r.Unbegun) (e : r.Enters q) : q.Unbegun := by
  have hst := h.1
  cases e with
  | idle st ev k hs =>
    obtain ⟨-, hrest⟩ := h
    rcases hs with rfl | rfl | ⟨hn, -⟩
    · exact ⟨.inl rfl, hrest⟩
    · exact ⟨.inr rfl, hrest⟩
    · exact absurd ⟨hst, hrest⟩ hn
  | start hn => exact absurd h hn
  | latch k hk => rcases ChannelRecord.takesFault_state hk with e | e | e | e <;> simp [e] at hst
  | retry k hk => rcases ChannelRecord.takesFault_state hk with e | e | e | e <;> simp [e] at hst
  | on hs => simp [hs] at hst
  | cycling hs => simp [hs] at hst
  | throttle hs => simp [hs] at hst
  | unthrottle hs => simp [hs] at hst

end Sys2Proof.Machine
end

-- ==== Proofs: moves ====
section
/-! SUPPORT. The moves that channel activity is made of. Every operation that the families share is a chain of moves
(`State.Moves`), so that what each move keeps every command keeps. -/

namespace Sys2Proof.Machine

variable {s t u : State}

/-! ### A frame joins the transmit queue -/

@[simp] theorem State.withFrame_chan (f : TxFrame) (s : State) (c : Channel) : (s.withFrame f).chan c = s.chan c := rfl
@[simp] theorem State.withFrame_queue (f : TxFrame) (s : State) :
    (s.withFrame f).line.queue = s.line.queue ++ [⟨f, 0, none⟩] := rfl

/-- R160: a status request leaves the state as it is, or its STATUS joins the end of the queue. -/
theorem State.requestStatus_cases (c : Channel) (s : State) :
    s.requestStatus c = s ∨ s.requestStatus c = s.withFrame (.status c) := by
  unfold State.requestStatus
  split
  · exact .inl rfl
  · unfold State.send
    cases h : s.offer (.status c) with
    | none => exact .inl rfl
    | some t =>
      obtain ⟨_, q, hq, rfl⟩ := State.offer_eq_some h
      rcases offerTo_cases hq with ⟨hd, -⟩ | ⟨-, -, rfl⟩ | ⟨-, hs, -⟩
      · cases hd
      · exact .inr rfl
      · cases hs

/-- R9, R79, R82, R165: an entry writes the record, gives up the claims, and may queue a STATUS. -/
theorem State.enter_cases (c : Channel) (f : ChannelRecord → ChannelRecord) (s : State) :
    s.enter c f = (s.modChan c f).dropClaims c
      ∨ s.enter c f = ((s.modChan c f).dropClaims c).withFrame (.status c) := by
  unfold State.enter
  dsimp only
  split
  · exact .inl rfl
  · exact State.requestStatus_cases c _

/-- R160: what a frame handed to the queue makes of it, whichever frame it is: the queued DRAW or the newest STATUS may
go, and the frame joins the end. -/
theorem State.offer_queue {f : TxFrame} (h : s.offer f = some t) :
    ∃ q, q.Sublist s.txQueue ∧ (∀ e ∈ s.txQueue, e ∉ q → e.frame.isDraw = true ∨ e.frame.isStatus = true)
      ∧ t = s.setQueue (q ++ [⟨f, 0, none⟩]) := by
  obtain ⟨_, q, hq, rfl⟩ := State.offer_eq_some h
  rcases offerTo_cases hq with ⟨-, rfl⟩ | ⟨-, -, rfl⟩ | ⟨-, -, -, xs, e, zs, hs, he, -, rfl⟩
  · exact ⟨_, List.filter_sublist, fun e he hn => .inl (by simpa [he] using hn), rfl⟩
  · exact ⟨s.txQueue, List.Sublist.refl _, fun e he hn => absurd he hn, rfl⟩
  · refine ⟨xs ++ zs, ?_, ?_, rfl⟩
    · rw [hs]
      exact List.Sublist.append (List.Sublist.refl _) (List.sublist_cons_self _ _)
    · intro x hx hn
      rw [hs] at hx
      simp only [List.mem_append, List.mem_cons, not_or] at hx hn
      obtain hx | rfl | hx := hx
      · exact absurd hx hn.1
      · exact .inr he
      · exact absurd hx hn.2

/-! ### Moves -/

/-- R79: the slot queue holds channels in SLOTWAIT alone. -/
def State.Waiting (s : State) : Prop := ∀ c ∈ s.sequencer.queue, (s.chan c).state = .slotwait

/-- One move of channel activity. In CONFIGURING no move makes a channel begin. -/
inductive State.Move : State → State → Prop
  /-- A record changes; the channel keeps its state. -/
  | record {s : State} (c : Channel) {q : ChannelRecord} (h : (s.chan c).Keeps q) : Move s (s.setChan c q)
  /-- R5, R34, R152, R170: the request changes. -/
  | request {s : State} (c : Channel) {q : ChannelRecord} (h : (s.chan c).Asks q)
      (hu : s.mode = .configuring → s.Unbegun → q.Unbegun) : Move s (s.setChan c q)
  /-- A channel outside PENDING enters a state. -/
  | enter {s : State} (c : Channel) {f : ChannelRecord → ChannelRecord} (h : (s.chan c).Enters (f (s.chan c)))
      (hp : (s.chan c).state ≠ .pending) : Move s (s.enter c f)
  /-- R81: a channel of the slot queue takes a slot and starts. -/
  | handOver {s : State} {c : Channel} {rest : List Channel} {q : StartSequencer} (h : s.sequencer.queue = c :: rest)
      (hq : q.queue = rest) : Move s (({ s with sequencer := q } : State).enter c (·.toStarting))
  /-- R12: a channel announces its intent. -/
  | announce {s : State} (c : Channel) (h : ¬(s.chan c).Unbegun) (hp : (s.chan c).state ≠ .pending)
      (hl : (s.chan c).state ≠ .latched) : Move s (s.announce c)
  /-- R13, R135, R142: a channel leaves PENDING, its announcement undone. -/
  | abandon {s : State} (c : Channel) (st : ChannelState) (k : Causes → Causes) (hp : (s.chan c).state = .pending)
      (hst : st = .off ∨ st = .inhibited) :
      Move s ((s.undoAnnouncement c).enter c fun r => { r.idle st with causes := k r.causes })
  /-- R52, R66: the own entry of a channel is decided: the channel is admitted or refused. -/
  | decide {s : State} (c : Channel) (j : Nat) (f : ChannelRecord → ChannelRecord) (hj : s.ownPlace c = some j)
      (hp : (s.chan c).state = .pending) (hf : f = ChannelRecord.toSlotwait ∨ f = ChannelRecord.idle .deferred) :
      Move s ((s.setEntries (s.intents.entries.eraseIdx j)).enter c f)
  /-- R12: an INTENT leaves the queue, and its channel PENDING. -/
  | loseIntent {s : State} (c : Channel) {xs zs : List TxEntry} {e : TxEntry} (h : s.txQueue = xs ++ e :: zs)
      (he : e.frame.isIntentOf c = true) : Move s ((s.setQueue (xs ++ zs)).deferPending c)
  /-- R51: an INTENT that has left is the own entry from then on. -/
  | complete {s : State} (c : Channel) {xs zs : List TxEntry} {e : TxEntry} (x : IntentEntry)
      (h : s.txQueue = xs ++ e :: zs) (he : e.frame.isIntentOf c = true) (hl : s.intents.entries.length < 24)
      (hx : x.station = s.own ∧ x.channel = intentChannel c ∧ x.hold.isSome = true) :
      Move s ((s.setQueue (xs ++ zs)).setEntries (s.intents.entries ++ [x]))
  /-- R157: a clash discards the INTENT-kind frames. -/
  | discardIntents {s : State} : Move s s.discardIntents
  /-- Entries of the Intent List go. -/
  | forget {s : State} {es : List IntentEntry} (h : es.Sublist s.intents.entries) : Move s (s.setEntries es)
  /-- A frame is handed to the queue, but no INTENT. -/
  | send {s : State} {f : TxFrame} (h : f.isIntent = false) : Move s (s.send f)
  /-- Frames leave the queue. -/
  | drop {s : State} {q : List TxEntry} (h : q.Sublist s.txQueue) : Move s (s.setQueue q)
  /-- R79: a channel in SLOTWAIT joins the slot queue. -/
  | join {s : State} (c : Channel) (h : (s.chan c).state = .slotwait) :
      Move s { s with sequencer := { s.sequencer with queue := insertByTier s c s.sequencer.queue } }
  /-- R81: slots are freed. -/
  | free {s : State} {q : StartSequencer} (h : q.queue = s.sequencer.queue) : Move s { s with sequencer := q }
  /-- R34: bindings are evaluated. -/
  | bindings {s : State} (f : Binding → Binding) : Move s (s.setBindings (s.bind.bindings.map f))
  /-- R38: an echo change is taken from those that wait. -/
  | echoes {s : State} (l : List (Channel × Byte)) : Move s { s with echoes := l }
  /-- R38: every echo is taken. -/
  | echoed {s : State} : Move s s.echoed

/-- A chain of moves. A start is aborted once its slot has been handed on (R97); a slot handed on reaches channels of the
slot queue alone. -/
inductive State.Moves : State → State → Prop
  | refl {s : State} : Moves s s
  | step {s t u : State} (h : Moves s t) (m : Move t u) : Moves s u
  | abort {s t u : State} (c : Channel) (h : Moves s t) (hs : (t.chan c).state = .starting) (k : Moves t u)
      (hk : c ∉ t.sequencer.queue → u.chan c = t.chan c) : Moves s (u.enter c (·.idle .off))

theorem State.Move.moves (m : s.Move t) : s.Moves t := .step .refl m

theorem State.Moves.trans (h : s.Moves t) (k : t.Moves u) : s.Moves u := by
  induction k with
  | refl => exact h
  | step _ m ih => exact (ih h).step m
  | abort c _ hs k hk ih _ => exact (ih h).abort c hs k hk

/-- A fold of moves. -/
theorem State.Moves.foldl {α : Type} {f : State → α → State} (h : ∀ (s : State) a, s.Moves (f s a)) (l : List α) :
    ∀ s : State, s.Moves (l.foldl f s) := by
  induction l with
  | nil => exact fun s => .refl
  | cons a l ih => exact fun s => (h s a).trans (ih _)

theorem State.acts_deferPending (c : Channel) (s : State) : s.Acts (s.deferPending c) := by
  unfold State.deferPending
  split
  · exact State.acts_enter c _ s
  · exact State.Acts.refl s

theorem State.acts_discardIntents (s : State) : s.Acts s.discardIntents := by
  refine (s.acts_setQueue _).trans (State.acts_foldl _ (fun s e => ?_) _ _)
  cases e.frame with
  | intent c => exact State.acts_deferPending c s
  | _ => exact State.Acts.refl s

/-- A move writes nothing but what channel activity writes. -/
theorem State.Move.acts (m : s.Move t) : s.Acts t := by
  cases m with
  | record c => exact s.acts_setChan c _
  | request c => exact s.acts_setChan c _
  | enter c => exact State.acts_enter c _ s
  | handOver => exact (s.acts_sequencer _).trans (State.acts_enter _ _ _)
  | announce c => exact State.acts_announce c s
  | abandon c => exact (State.acts_undoAnnouncement c s).trans (State.acts_enter c _ _)
  | decide c => exact (s.acts_setEntries _).trans (State.acts_enter c _ _)
  | loseIntent c => exact (s.acts_setQueue _).trans (State.acts_deferPending c _)
  | complete c => exact (s.acts_setQueue _).trans (State.acts_setEntries _ _)
  | discardIntents => exact s.acts_discardIntents
  | forget => exact s.acts_setEntries _
  | send => exact State.acts_send _ s
  | drop => exact s.acts_setQueue _
  | join => exact s.acts_sequencer _
  | free => exact s.acts_sequencer _
  | bindings => exact s.acts_setBindings _
  | echoes => rfl
  | echoed => exact s.acts_echoed

/-- Moves write nothing but what channel activity writes. -/
theorem State.Moves.acts (h : s.Moves t) : s.Acts t := by
  induction h with
  | refl => exact State.Acts.refl _
  | step _ m ih => exact ih.trans m.acts
  | abort c _ _ _ _ ih ih' => exact (ih.trans ih').trans (State.acts_enter c _ _)

/-! ### What activity leaves -/

theorem State.Acts.loader (h : s.Acts t) : t.loader = s.loader := by rw [← h]; rfl
theorem State.Acts.mode (h : s.Acts t) : t.mode = s.mode := by rw [← h]; rfl
theorem State.Acts.own (h : s.Acts t) : t.own = s.own := by rw [← h]; rfl
theorem State.Acts.wired (h : s.Acts t) : t.wired = s.wired := by rw [← h]; rfl
theorem State.Acts.peers (h : s.Acts t) : t.peers = s.peers := by rw [← h]; rfl
theorem State.Acts.budget (h : s.Acts t) : t.budget = s.budget := by rw [← h]; rfl
theorem State.Acts.feed (h : s.Acts t) : t.feed = s.feed := by rw [← h]; rfl
theorem State.Acts.events (h : s.Acts t) : t.events = s.events := by rw [← h]; rfl
theorem State.Acts.service (h : s.Acts t) : t.service = s.service := by rw [← h]; rfl
theorem State.Acts.freeCount (h : s.Acts t) : t.freeCount = s.freeCount := by rw [← h]; rfl
theorem State.Acts.pending (h : s.Acts t) : t.pending = s.pending := by rw [← h]; rfl
theorem State.Acts.table (h : s.Acts t) : t.bind.table = s.bind.table := by rw [← h]; rfl
theorem State.Acts.clashMark (h : s.Acts t) : t.line.clashMark = s.line.clashMark := by rw [← h]; rfl

end Sys2Proof.Machine
end

-- ==== Proofs: keep ====
section
/-! SUPPORT. What every chain of moves keeps: sound records, the booking rules, the tables, and in CONFIGURING that
nothing has begun. -/

namespace Sys2Proof.Machine

variable {s t u : State} {r q : ChannelRecord}

/-! ### What a move makes of one record -/

/-- What one move can make of a channel's record; `waits` says that the channel stands in the slot queue, `unbegun` that the
part is in CONFIGURING and nothing has begun. -/
inductive ChannelRecord.Turns (waits unbegun : Prop) (r : ChannelRecord) : ChannelRecord → Prop
  | same : Turns waits unbegun r r
  | keeps {q : ChannelRecord} (h : r.Keeps q) : Turns waits unbegun r q
  | asks {q : ChannelRecord} (h : r.Asks q) (hu : unbegun → q.Unbegun) : Turns waits unbegun r q
  | enters {q : ChannelRecord} (h : r.Enters q) (hp : r.state ≠ .pending) : Turns waits unbegun r q
  | leaves (st : ChannelState) (k : Causes) (hp : r.state = .pending)
      (hst : st = .off ∨ st = .inhibited ∨ st = .deferred) : Turns waits unbegun r { r.idle st with causes := k }
  | admitted (hp : r.state = .pending) : Turns waits unbegun r r.toSlotwait
  | announced (hl : r.state ≠ .latched) (hu : ¬r.Unbegun) : Turns waits unbegun r (r.idle .pending)
  | refused (hl : r.state ≠ .latched) (hu : ¬r.Unbegun) : Turns waits unbegun r ((r.idle .pending).idle .deferred)
  | handOver (h : waits) : Turns waits unbegun r r.toStarting

/-- R157: what the clash does for one frame of the queue. -/
def State.deferFrame (s : State) (e : TxEntry) : State :=
  match e.frame with
  | .intent c _ _ _ => s.deferPending c
  | .withdraw _ | .draw _ _ | .reply _ _ _ | .status _ => s

/-- R157: the clash takes the frames of the queue in their order. -/
theorem State.discardIntents_eq (s : State) :
    s.discardIntents = s.txQueue.foldl State.deferFrame (s.setQueue (s.txQueue.filter fun e => e.frame.kind != 0)) := rfl

/-- R12: a record after its announcement is lost. -/
theorem State.deferPending_chan (c d : Channel) (s : State) :
    (s.deferPending c).chan d = s.chan d
      ∨ (d = c ∧ (s.chan d).state = .pending ∧ (s.deferPending c).chan d = (s.chan d).idle .deferred) := by
  unfold State.deferPending
  split
  · next hp =>
    by_cases e : d = c
    · subst e
      exact .inr ⟨rfl, by simpa using hp, State.enter_chan_self _ _ _⟩
    · exact .inl (State.enter_chan_ne e _ _)
  · exact .inl rfl

theorem State.deferFrame_chan (e : TxEntry) (d : Channel) (s : State) :
    (s.deferFrame e).chan d = s.chan d
      ∨ ((s.chan d).state = .pending ∧ (s.deferFrame e).chan d = (s.chan d).idle .deferred) := by
  unfold State.deferFrame
  split
  · next c _ _ _ _ =>
    rcases State.deferPending_chan c d s with h | ⟨-, h⟩
    · exact .inl h
    · exact .inr h
  all_goals exact .inl rfl

theorem State.deferFrames_chan (l : List TxEntry) (d : Channel) : ∀ s : State,
    (l.foldl State.deferFrame s).chan d = s.chan d
      ∨ ((s.chan d).state = .pending ∧ (l.foldl State.deferFrame s).chan d = (s.chan d).idle .deferred) := by
  induction l with
  | nil => exact fun s => .inl rfl
  | cons e l ih =>
    intro s
    rcases State.deferFrame_chan e d s with h | ⟨hp, h⟩
    · rw [List.foldl_cons, ← h]
      exact ih _
    · rcases ih (s.deferFrame e) with h' | ⟨hp', -⟩
      · exact .inr ⟨hp, by rw [List.foldl_cons, h', h]⟩
      · rw [h] at hp'
        cases hp'

/-- The record just written, and the others. -/
theorem State.setChan_chan_cases {P : ChannelRecord → ChannelRecord → Prop} {c : Channel} (same : ∀ r, P r r)
    (hq : P (s.chan c) q) (d : Channel) : P (s.chan d) ((s.setChan c q).chan d) := by
  by_cases e : d = c
  · rw [e, State.setChan_chan_self]
    exact hq
  · rw [State.setChan_chan_ne _ e]
    exact same _

/-- The record just entered, and the others. -/
theorem State.enter_chan_cases {P : ChannelRecord → ChannelRecord → Prop} {c : Channel}
    {f : ChannelRecord → ChannelRecord} (same : ∀ r, P r r) (hq : P (s.chan c) (f (s.chan c))) (d : Channel) :
    P (s.chan d) ((s.enter c f).chan d) := by
  by_cases e : d = c
  · rw [e, State.enter_chan_self]
    exact hq
  · rw [State.enter_chan_ne e]
    exact same _

/-- What a move makes of each record. -/
theorem State.Move.turns (m : s.Move t) (d : Channel) :
    (s.chan d).Turns (d ∈ s.sequencer.queue) (s.mode = .configuring ∧ s.Unbegun) (t.chan d) := by
  cases m with
  | record c h =>
    by_cases e : d = c
    · subst e
      rw [State.setChan_chan_self]
      exact .keeps h
    · rw [State.setChan_chan_ne _ e]
      exact .same
  | request c h hu =>
    by_cases e : d = c
    · subst e
      rw [State.setChan_chan_self]
      exact .asks h fun ⟨hm, hs⟩ => hu hm hs
    · rw [State.setChan_chan_ne _ e]
      exact .same
  | enter c h hp =>
    by_cases e : d = c
    · subst e
      rw [State.enter_chan_self]
      exact .enters h hp
    · rw [State.enter_chan_ne e]
      exact .same
  | @handOver c rest q hs hq =>
    by_cases e : d = c
    · subst e
      rw [State.enter_chan_self]
      exact .handOver (by simp [hs])
    · rw [State.enter_chan_ne e]
      exact .same
  | announce c hu hp hl =>
    by_cases e : d = c
    · subst e
      rcases State.announce_chan_self d s with h | h <;> rw [h]
      · exact .announced hl hu
      · exact .refused hl hu
    · rw [State.announce_chan_ne e]
      exact .same
  | abandon c st k hp hst =>
    by_cases e : d = c
    · subst e
      rw [State.enter_chan_self, State.undoAnnouncement_chan]
      exact .leaves st _ hp (by tauto)
    · rw [State.enter_chan_ne e, State.undoAnnouncement_chan]
      exact .same
  | decide c j f hj hp hf =>
    by_cases e : d = c
    · subst e
      rw [State.enter_chan_self, State.setEntries_chan]
      rcases hf with rfl | rfl
      · exact .admitted hp
      · exact .leaves .deferred _ hp (by simp)
    · rw [State.enter_chan_ne e]
      exact .same
  | loseIntent c =>
    rcases State.deferPending_chan c d (s.setQueue _) with h | ⟨-, hp, h⟩
    · rw [h]
      exact .same
    · rw [h]
      exact .leaves .deferred _ hp (by simp)
  | discardIntents =>
    rw [State.discardIntents_eq]
    rcases State.deferFrames_chan s.txQueue d (s.setQueue _) with h | ⟨hp, h⟩
    · rw [h]
      exact .same
    · rw [h]
      exact .leaves .deferred _ hp (by simp)
  | send =>
    rw [State.send_chan]
    exact .same
  | echoed =>
    rw [State.echoed_chan]
    exact .keeps (.note _ _ _ _ _ _ _ _ ⟨rfl, rfl⟩)
  | complete c => exact .same
  | forget => exact .same
  | drop => exact .same
  | join => exact .same
  | free => exact .same
  | bindings => exact .same
  | echoes => exact .same

/-! ### Soundness (R7 to R9, R17, R85, R123, R125, R147) -/

theorem ChannelRecord.Turns.sound {w n : Prop} (h : r.Sound) (e : r.Turns w n q) : q.Sound := by
  cases e with
  | same => exact h
  | keeps e => exact e.sound h
  | asks e => exact e.sound h
  | enters e => exact e.sound h
  | leaves st k _ hst =>
    refine r.sound_idle r.events k ?_
    rcases hst with rfl | rfl | rfl <;> simp
  | admitted => exact r.sound_toSlotwait
  | announced => exact r.sound_idle (st := .pending) r.events r.causes (by simp)
  | refused => exact (r.idle .pending).sound_idle (st := .deferred) r.events r.causes (by simp)
  | handOver => exact r.sound_toStarting

/-- Chains of moves keep every channel record sound. -/
theorem State.Moves.sound (h : s.Moves t) : s.Sound → t.Sound := by
  induction h with
  | refl => exact id
  | step _ m ih => exact fun hs d => (m.turns d).sound (ih hs d)
  | @abort s t u c _ _ _ _ ih ih' =>
    intro hs d
    exact State.enter_chan_cases (P := fun r q => r.Sound → q.Sound) (fun _ => id)
      (fun _ => (u.chan c).sound_idle (st := .off) (u.chan c).events (u.chan c).causes (by simp)) d (ih' (ih hs) d)

/-! ### The slot queue (R79) -/

/-- An entry leaves in the slot queue channels that it held, and its own channel only in SLOTWAIT. -/
theorem State.enter_queue {c : Channel} {f : ChannelRecord → ChannelRecord} {d : Channel}
    (h : d ∈ (s.enter c f).sequencer.queue) :
    d ∈ s.sequencer.queue ∧ (d = c → (f (s.chan c)).state = .slotwait) := by
  rw [State.enter_sequencer] at h
  simp only [State.dropClaims, State.modChan_chan_self, State.modChan_sequencer] at h
  split at h
  · simp only [List.mem_filter, bne_iff_ne] at h
    exact ⟨h.1, fun e => absurd e h.2⟩
  · next hn => exact ⟨h, fun _ => by simpa using hn⟩

theorem State.Waiting.enter (h : s.Waiting) (c : Channel) (f : ChannelRecord → ChannelRecord) : (s.enter c f).Waiting := by
  intro d hd
  obtain ⟨hq, hc⟩ := State.enter_queue hd
  by_cases e : d = c
  · rw [e, State.enter_chan_self]
    exact hc e
  · rw [State.enter_chan_ne e]
    exact h d hq

theorem State.Waiting.congr (h : s.Waiting) (hq : t.sequencer.queue = s.sequencer.queue)
    (hc : ∀ c, (t.chan c).state = (s.chan c).state) : t.Waiting := by
  intro d hd
  rw [hc]
  exact h d (hq ▸ hd)

theorem State.Waiting.deferPending (h : s.Waiting) (c : Channel) : (s.deferPending c).Waiting := by
  unfold State.deferPending
  split
  · exact h.enter c _
  · exact h

theorem State.Waiting.deferFrames (l : List TxEntry) : ∀ s : State, s.Waiting → (l.foldl State.deferFrame s).Waiting := by
  induction l with
  | nil => exact fun s h => h
  | cons e l ih =>
    intro s h
    refine ih _ ?_
    unfold State.deferFrame
    split
    · exact h.deferPending _
    all_goals exact h

/-- Members of a list into which a channel was placed. -/
theorem mem_insertByTier {s : State} {c d : Channel} {l : List Channel} : d ∈ insertByTier s c l ↔ d = c ∨ d ∈ l := by
  induction l with
  | nil => simp [insertByTier]
  | cons e l ih =>
    unfold insertByTier
    dsimp only
    split
    · simp
    · simp only [List.mem_cons, ih]
      tauto

/-- The slot queue after an announcement. -/
theorem State.Waiting.announce (h : s.Waiting) (c : Channel) : (s.announce c).Waiting := by
  have h1 := h.enter c (·.idle .pending)
  unfold State.announce
  dsimp only
  split
  · next ho =>
    obtain ⟨_, q, _, rfl⟩ := State.offer_eq_some ho
    exact h1
  · exact h1.enter c _

theorem State.Waiting.undoAnnouncement (h : s.Waiting) (c : Channel) : (s.undoAnnouncement c).Waiting := by
  refine h.congr ?_ (fun d => by simp)
  unfold State.undoAnnouncement
  split
  · rfl
  · split
    · simp
    · rfl

theorem State.Move.waiting (m : s.Move t) (h : s.Waiting) : t.Waiting := by
  cases m with
  | record c hk => exact h.congr rfl (State.setChan_chan_cases (P := fun r q => q.state = r.state) (fun _ => rfl) hk.state_eq)
  | request c hk => exact h.congr rfl (State.setChan_chan_cases (P := fun r q => q.state = r.state) (fun _ => rfl) hk.state_eq)
  | enter c => exact h.enter c _
  | @handOver c rest q hs hq =>
    have : State.Waiting { s with sequencer := q } := fun d hd => h d (by rw [hs]; exact List.mem_cons_of_mem _ (hq ▸ hd))
    exact this.enter c _
  | announce c => exact h.announce c
  | abandon c => exact (h.undoAnnouncement c).enter c _
  | decide c => exact State.Waiting.enter (s := s.setEntries _) (by exact h) c _
  | loseIntent c => exact State.Waiting.deferPending (s := s.setQueue _) (by exact h) c
  | complete => exact h.congr rfl fun _ => rfl
  | discardIntents => exact State.Waiting.deferFrames _ _ (h.congr rfl fun _ => rfl)
  | forget => exact h.congr rfl fun _ => rfl
  | send => exact h.congr (by simp) (by simp)
  | drop => exact h.congr rfl fun _ => rfl
  | join c hc =>
    intro d hd
    rcases mem_insertByTier.1 hd with rfl | hd
    · exact hc
    · exact h d hd
  | free hq => exact h.congr hq fun _ => rfl
  | bindings => exact h.congr rfl fun _ => rfl
  | echoes => exact h.congr rfl fun _ => rfl
  | echoed => exact h.congr rfl fun d => by simp

/-! ### Booking rules (R5 to R8, R124) -/

theorem ChannelRecord.Turns.ruled {w n : Prop} (hw : w → r.state = .slotwait) (h : r.Ruled)
    (e : r.Turns w n q) : q.Ruled := by
  cases e with
  | same => exact h
  | keeps e => exact e.ruled h
  | asks e => exact e.ruled h
  | enters e => exact e.ruled h
  | leaves st k hp hst =>
    refine h.idle ?_ r.events k (fun hc => ?_)
    · rcases hst with rfl | rfl | rfl <;> rfl
    · have := h.latched hc
      simp [hp] at this
  | admitted hp => exact h.toSlotwait (by simp [hp])
  | announced hl => exact h.idle (st := .pending) rfl r.events r.causes (fun hc => absurd (h.latched hc) hl)
  | refused hl => exact h.idle (st := .deferred) rfl r.events r.causes (fun hc => absurd (h.latched hc) hl)
  | handOver hh => exact h.toStarting (by simp [hw hh])

/-- Chains of moves keep the booking rules of every record and channels in SLOTWAIT alone in the slot queue. -/
theorem State.Moves.ruled (h : s.Moves t) :
    s.Waiting ∧ (∀ c, (s.chan c).Ruled) → t.Waiting ∧ ∀ c, (t.chan c).Ruled := by
  induction h with
  | refl => exact id
  | step _ m ih =>
    intro hs
    obtain ⟨hw, hr⟩ := ih hs
    exact ⟨m.waiting hw, fun d => (m.turns d).ruled (hw d) (hr d)⟩
  | @abort s t u c _ hst _ hk ih ih' =>
    intro hs
    obtain ⟨hw, hr⟩ := ih hs
    obtain ⟨hw', hr'⟩ := ih' ⟨hw, hr⟩
    have hc : u.chan c = t.chan c := hk fun hm => by simp [hw c hm] at hst
    refine ⟨hw'.enter c _, fun d => State.enter_chan_cases (P := fun r q => r.Ruled → q.Ruled) (fun _ => id) (fun hd => ?_) d (hr' d)⟩
    refine hd.idle (st := .off) rfl (u.chan c).events (u.chan c).causes (fun hn => ?_)
    have := hd.latched hn
    rw [hc, hst] at this
    cases this

end Sys2Proof.Machine
end

-- ==== Proofs: keep2 ====
section
namespace Sys2Proof.Machine

variable {s t u : State} {r q : ChannelRecord}

/-! ### CONFIGURING (R23, R24, R41) -/

theorem ChannelRecord.Turns.unbegun {w n : Prop} (hw : ¬w) (hn : n) (h : r.Unbegun) (e : r.Turns w n q) : q.Unbegun := by
  have hst := h.1
  cases e with
  | same => exact h
  | keeps e => exact e.unbegun h
  | asks _ hu => exact hu hn
  | enters e => exact e.unbegun h
  | leaves st k hp => simp [hp] at hst
  | admitted hp => simp [hp] at hst
  | announced _ hu => exact absurd h hu
  | refused _ hu => exact absurd h hu
  | handOver hh => exact absurd hh hw

theorem State.deferPending_queue (c : Channel) (s : State) {d : Channel}
    (h : d ∈ (s.deferPending c).sequencer.queue) : d ∈ s.sequencer.queue := by
  unfold State.deferPending at h
  split at h
  · exact (State.enter_queue h).1
  · exact h

theorem State.deferFrames_queue (l : List TxEntry) {d : Channel} : ∀ s : State,
    d ∈ (l.foldl State.deferFrame s).sequencer.queue → d ∈ s.sequencer.queue := by
  induction l with
  | nil => exact fun s h => h
  | cons e l ih =>
    intro s h
    have := ih _ h
    unfold State.deferFrame at this
    split at this
    · exact State.deferPending_queue _ _ this
    all_goals exact this

theorem State.announce_queue (c : Channel) (s : State) {d : Channel} (h : d ∈ (s.announce c).sequencer.queue) :
    d ∈ s.sequencer.queue := by
  unfold State.announce at h
  dsimp only at h
  split at h
  · next ho =>
    obtain ⟨_, q, _, rfl⟩ := State.offer_eq_some ho
    exact (State.enter_queue h).1
  · exact (State.enter_queue (State.enter_queue h).1).1

@[simp] theorem State.undoAnnouncement_sequencer (c : Channel) (s : State) :
    (s.undoAnnouncement c).sequencer = s.sequencer := by
  unfold State.undoAnnouncement
  split
  · rfl
  · split
    · simp
    · rfl

/-- A move brings a channel into the slot queue only as it joins from SLOTWAIT. -/
theorem State.Move.queue (m : s.Move t) {d : Channel} (h : d ∈ t.sequencer.queue) :
    d ∈ s.sequencer.queue ∨ (s.chan d).state = .slotwait := by
  cases m with
  | record => exact .inl h
  | request => exact .inl h
  | enter => exact .inl (State.enter_queue h).1
  | handOver hs hq =>
    refine .inl ?_
    have : d ∈ _ := (State.enter_queue h).1
    rw [hs]
    exact List.mem_cons_of_mem _ (hq ▸ this)
  | announce c => exact .inl (State.announce_queue c s h)
  | abandon c => exact .inl (State.undoAnnouncement_sequencer c s ▸ (State.enter_queue h).1)
  | decide => exact .inl (State.enter_queue h).1
  | loseIntent c =>
    have := State.deferPending_queue c _ h
    exact .inl this
  | complete => exact .inl h
  | discardIntents =>
    rw [State.discardIntents_eq] at h
    have := State.deferFrames_queue _ _ h
    exact .inl this
  | forget => exact .inl h
  | send => exact .inl (State.send_sequencer _ s ▸ h)
  | drop => exact .inl h
  | join c hc =>
    rcases mem_insertByTier.1 h with rfl | h
    · exact .inr hc
    · exact .inl h
  | free hq => exact .inl (hq ▸ h)
  | bindings => exact .inl h
  | echoes => exact .inl h
  | echoed => exact .inl h

/-- A move brings no binding where there is none. -/
theorem State.Move.noBinding (m : s.Move t) (h : s.bind.bindings = []) : t.bind.bindings = [] := by
  cases m with
  | bindings f => simp [h]
  | enter => simpa
  | handOver => simpa
  | announce c =>
    unfold State.announce
    dsimp only
    split
    · next ho =>
      obtain ⟨_, q, _, rfl⟩ := State.offer_eq_some ho
      simpa
    · simpa
  | abandon c =>
    rw [State.enter_bind]
    unfold State.undoAnnouncement
    split
    · exact h
    · split <;> simpa
  | decide => simpa
  | loseIntent =>
    unfold State.deferPending
    split <;> simpa
  | discardIntents =>
    have key : ∀ (l : List TxEntry) (u : State), (l.foldl State.deferFrame u).bind = u.bind := by
      intro l
      induction l with
      | nil => exact fun _ => rfl
      | cons e l ih =>
        intro u
        rw [List.foldl_cons, ih]
        unfold State.deferFrame State.deferPending
        split
        · split <;> simp
        all_goals rfl
    rw [State.discardIntents_eq, key]
    exact h
  | send => simpa
  | _ => exact h

/-- In CONFIGURING no move makes anything begin. -/
theorem State.Move.unbegun (m : s.Move t) (hm : s.mode = .configuring) (h : s.Unbegun) : t.Unbegun where
  channels d := (m.turns d).unbegun (by simp [h.queue]) ⟨hm, h⟩ (h.channels d)
  bindings := m.noBinding h.bindings
  queue := by
    refine List.eq_nil_iff_forall_not_mem.2 fun d hd => ?_
    rcases m.queue hd with hq | hs
    · simp [h.queue] at hq
    · have := (h.channels d).1
      simp [hs] at this

/-- In CONFIGURING no chain of moves makes anything begin. -/
theorem State.Moves.unbegun (h : s.Moves t) (hm : s.mode = .configuring) : s.Unbegun → t.Unbegun := by
  induction h with
  | refl => exact id
  | step h m ih => exact fun hs => m.unbegun (h.acts.mode.trans hm) (ih hm hs)
  | @abort s t u c h hst _ _ ih _ =>
    intro hs
    have := ((ih hm hs).channels c).1
    simp [hst] at this

/-- Chains of moves keep the rules of a part. -/
theorem State.Moves.ruledState (h : s.Moves t) (hs : s.Ruled) : t.Ruled := by
  obtain ⟨hw, hr⟩ := h.ruled ⟨hs.waiting, hs.channels⟩
  exact ⟨hr, hw, fun hm => h.unbegun (h.acts.mode ▸ hm) (hs.unbegun (h.acts.mode ▸ hm))⟩

end Sys2Proof.Machine
end

-- ==== Proofs: keep3 ====
section
namespace Sys2Proof.Machine

variable {s t u : State}

/-! ### Announcements (R12, R13, R49 to R52) -/

theorem State.announced_eq (s : State) (c : Channel) : s.announced c
    = (s.line.queue.filter fun e => e.frame.isIntentOf c).length + (s.intents.entries.filter (s.isOwnEntry c)).length := rfl

theorem TxFrame.isIntentOf_of_not_isIntent {f : TxFrame} (h : f.isIntent = false) (c : Channel) :
    f.isIntentOf c = false := by
  cases f with
  | intent => cases h
  | _ => rfl

/-- A frame at the end of the queue. -/
theorem State.announced_append (s : State) (q : List TxEntry) (e : TxEntry) (c : Channel) :
    (s.setQueue (q ++ [e])).announced c = (s.setQueue q).announced c + (if e.frame.isIntentOf c then 1 else 0) := by
  rw [State.announced_eq, State.announced_eq]
  have : ((q ++ [e]).filter fun e => e.frame.isIntentOf c).length
      = (q.filter fun e => e.frame.isIntentOf c).length + (if e.frame.isIntentOf c then 1 else 0) := by
    rw [List.filter_append, List.length_append, List.filter_cons]
    split <;> rfl
  exact (congrArg (· + _) this).trans (Nat.add_right_comm _ _ _)

/-- An INTENT that leaves the queue takes one announcement with it. -/
theorem State.announced_split {xs zs : List TxEntry} {e : TxEntry} {c : Channel} (hq : s.txQueue = xs ++ e :: zs)
    (he : e.frame.isIntentOf c = true) : s.announced c = (s.setQueue (xs ++ zs)).announced c + 1 := by
  have hq : s.line.queue = xs ++ e :: zs := hq
  rw [State.announced_eq, State.announced_eq, hq]
  have : ((xs ++ e :: zs).filter fun e => e.frame.isIntentOf c).length
      = ((xs ++ zs).filter fun e => e.frame.isIntentOf c).length + 1 := by
    rw [List.filter_append, List.filter_append, List.length_append, List.length_append,
      List.filter_cons_of_pos (p := fun e : TxEntry => e.frame.isIntentOf c) he, List.length_cons]
    rfl
  exact (congrArg (· + _) this).trans (Nat.add_right_comm _ _ _)

theorem State.withFrame_announced {f : TxFrame} (h : f.isIntent = false) (s : State) (c : Channel) :
    (s.withFrame f).announced c = s.announced c := by
  have := State.announced_append s s.line.queue ⟨f, 0, none⟩ c
  simp only [TxFrame.isIntentOf_of_not_isIntent h c] at this
  exact this

@[simp] theorem State.enter_announced (c d : Channel) (f : ChannelRecord → ChannelRecord) (s : State) :
    (s.enter c f).announced d = s.announced d := by
  rcases State.enter_cases c f s with h | h <;> rw [h]
  · rfl
  · rw [State.withFrame_announced rfl]
    rfl

@[simp] theorem State.enter_intents (c : Channel) (f : ChannelRecord → ChannelRecord) (s : State) :
    (s.enter c f).intents = s.intents := by
  rcases State.enter_cases c f s with h | h <;> rw [h] <;> rfl

@[simp] theorem State.send_intents (f : TxFrame) (s : State) : (s.send f).intents = s.intents := by
  obtain ⟨q, h⟩ := State.send_eq f s
  rw [h]
  rfl

/-- The tables of a state that has the same peers, no more entries, and one announcement of a channel in PENDING. -/
theorem State.TablesSound.of (h : s.TablesSound) (hp : t.peers = s.peers) (ho : t.own = s.own)
    (he : t.intents.entries.Sublist s.intents.entries) (ha : ∀ c, t.announced c ≤ 1)
    (hs : ∀ c, t.announced c ≠ 0 → (t.chan c).state = .pending) (hw : t.Waiting) : t.TablesSound where
  order := hp ▸ h.order
  peer := by
    rw [hp, ho]
    exact h.peer
  room := he.length_le.trans h.room
  hold e hm := by
    rw [ho]
    exact h.hold e (he.subset hm)
  once := h.once.sublist he
  announcedOnce := ha
  announcing := hs
  waiting := hw

/-- Outside PENDING a channel has no announcement. -/
theorem State.TablesSound.unannounced (h : s.TablesSound) {c : Channel} (hc : (s.chan c).state ≠ .pending) :
    s.announced c = 0 := by
  by_contra hn
  exact hc (h.announcing c hn)

/-- A channel without an announcement may enter any state. -/
theorem State.TablesSound.enter (h : s.TablesSound) {c : Channel} {f : ChannelRecord → ChannelRecord}
    (hc : s.announced c = 0 ∨ (f (s.chan c)).state = .pending) : (s.enter c f).TablesSound := by
  refine h.of (State.acts_enter c f s).peers (State.acts_enter c f s).own (by simp) (fun d => by simpa using h.announcedOnce d)
    (fun d hd => ?_) (State.Waiting.enter h.waiting c f)
  rw [State.enter_announced] at hd
  by_cases e : d = c
  · subst e
    rw [State.enter_chan_self]
    exact hc.resolve_left hd
  · rw [State.enter_chan_ne e]
    exact h.announcing d hd

/-- The transmit queue may lose frames. -/
theorem State.announced_setQueue_le {q : List TxEntry} (hq : q.Sublist s.line.queue) (c : Channel) :
    (s.setQueue q).announced c ≤ s.announced c := by
  rw [State.announced_eq, State.announced_eq]
  exact Nat.add_le_add_right (hq.filter _).length_le _

theorem State.TablesSound.setQueue (h : s.TablesSound) {q : List TxEntry} (hq : q.Sublist s.line.queue) :
    (s.setQueue q).TablesSound := by
  refine h.of rfl rfl (List.Sublist.refl _) (fun c => (State.announced_setQueue_le hq c).trans (h.announcedOnce c))
    (fun c hc => h.announcing c ?_) h.waiting
  have := State.announced_setQueue_le hq c
  omega

/-- The Intent List may lose entries. -/
theorem State.announced_setEntries_le {es : List IntentEntry} (he : es.Sublist s.intents.entries) (c : Channel) :
    (s.setEntries es).announced c ≤ s.announced c := by
  rw [State.announced_eq, State.announced_eq]
  exact Nat.add_le_add_left (he.filter _).length_le _

theorem State.TablesSound.setEntries (h : s.TablesSound) {es : List IntentEntry} (he : es.Sublist s.intents.entries) :
    (s.setEntries es).TablesSound := by
  refine h.of rfl rfl he (fun c => (State.announced_setEntries_le he c).trans (h.announcedOnce c))
    (fun c hc => h.announcing c ?_) h.waiting
  have := State.announced_setEntries_le he c
  omega

/-- A frame handed to the queue, but no INTENT. -/
theorem State.TablesSound.send (h : s.TablesSound) {f : TxFrame} (hf : f.isIntent = false) : (s.send f).TablesSound := by
  unfold State.send
  cases ho : s.offer f with
  | none => exact h
  | some t =>
    obtain ⟨q, hq, -, rfl⟩ := State.offer_queue ho
    have hle : ∀ c, (s.setQueue (q ++ [⟨f, 0, none⟩])).announced c ≤ s.announced c := fun c =>
      le_of_eq_of_le (State.withFrame_announced hf (s.setQueue q) c) (State.announced_setQueue_le hq c)
    refine h.of rfl rfl (List.Sublist.refl _) (fun c => (hle c).trans (h.announcedOnce c)) (fun c hc => ?_) h.waiting
    have := hle c
    exact h.announcing c (by simp only [Option.getD_some] at hc; omega)

theorem State.TablesSound.deferPending (h : s.TablesSound) {c : Channel} (hc : s.announced c = 0) :
    (s.deferPending c).TablesSound := by
  unfold State.deferPending
  split
  · exact h.enter (.inl hc)
  · exact h

@[simp] theorem State.deferPending_announced (c d : Channel) (s : State) :
    (s.deferPending c).announced d = s.announced d := by
  unfold State.deferPending
  split <;> simp

/-- R12: an announcement of a channel that had none. -/
theorem State.TablesSound.announce (h : s.TablesSound) {c : Channel} (hc : s.announced c = 0) :
    (s.announce c).TablesSound := by
  have h1 : (s.enter c (·.idle .pending)).TablesSound := h.enter (.inr rfl)
  unfold State.announce
  dsimp only
  split
  · next t ho =>
    obtain ⟨q, hq, -, rfl⟩ := State.offer_queue ho
    have hle : ∀ d, ((s.enter c (·.idle .pending)).setQueue q).announced d ≤ s.announced d := fun d =>
      (State.announced_setQueue_le hq d).trans (by simp)
    refine h1.of rfl rfl (List.Sublist.refl _) (fun d => ?_) (fun d hd => ?_) h1.waiting
    · rw [State.announced_append]
      have hd := hle d
      have ho := h.announcedOnce d
      split
      · next e =>
        have e : c = d := by simpa [TxFrame.isIntentOf] using e
        subst e
        omega
      · omega
    · rw [State.announced_append] at hd
      by_cases e : c = d
      · subst e
        rw [State.setQueue_chan, State.enter_chan_self]
        rfl
      · rw [if_neg (by simpa [TxFrame.isIntentOf] using e)] at hd
        have := hle d
        rw [State.setQueue_chan, State.enter_chan_ne (Ne.symm e)]
        exact h.announcing d (by omega)
  · exact h1.enter (.inl (by simpa using hc))

/-- R13: an announcement undone leaves none. -/
theorem State.TablesSound.undoAnnouncement (h : s.TablesSound) (c : Channel) :
    (s.undoAnnouncement c).TablesSound ∧ (s.undoAnnouncement c).announced c = 0 := by
  have hone := h.announcedOnce c
  unfold State.undoAnnouncement
  split
  · next hq =>
    refine ⟨h.setQueue List.filter_sublist, ?_⟩
    have : 0 < (s.line.queue.filter fun e => e.frame.isIntentOf c).length := by
      rw [List.length_pos_iff]
      intro hn
      obtain ⟨e, he, hc⟩ := List.any_eq_true.1 hq
      exact absurd hc (by simpa using List.filter_eq_nil_iff.1 hn e he)
    rw [State.announced_eq] at hone
    rw [State.announced_eq]
    have hz : (s.intents.entries.filter (s.isOwnEntry c)).length = 0 := by omega
    have hf : ((s.txQueue.filter fun e => !e.frame.isIntentOf c).filter fun e => e.frame.isIntentOf c) = [] := by
      simp
    exact (congrArg (List.length · + _) hf).trans ((Nat.zero_add _).trans hz)
  · next hq =>
    have hqz : (s.line.queue.filter fun e => e.frame.isIntentOf c) = [] :=
      List.filter_eq_nil_iff.2 fun e he hc => hq (List.any_eq_true.2 ⟨e, he, hc⟩)
    split
    · have h1 := h.setEntries (es := s.intents.entries.filter fun e => !s.isOwnEntry c e) List.filter_sublist
      have h2 := h1.send (f := .withdraw c) rfl
      refine ⟨h2, ?_⟩
      have hz : (s.setEntries (s.intents.entries.filter fun e => !s.isOwnEntry c e)).announced c = 0 := by
        rw [State.announced_eq]
        have hf : ((s.intents.entries.filter fun e => !s.isOwnEntry c e).filter (s.isOwnEntry c)) = [] := by
          simp
        exact (congrArg₂ (· + ·) (congrArg List.length hqz) (congrArg List.length hf))
      unfold State.send
      cases ho : (s.setEntries (s.intents.entries.filter fun e => !s.isOwnEntry c e)).offer (.withdraw c) with
      | none => exact hz
      | some t =>
        obtain ⟨q, hsub, -, rfl⟩ := State.offer_queue ho
        have hle := State.announced_setQueue_le hsub c
        rw [hz] at hle
        rw [Option.getD_some, State.announced_append]
        exact Nat.le_zero.1 hle
    · next he =>
      refine ⟨h, ?_⟩
      rw [State.announced_eq, hqz]
      have : s.intents.entries.filter (s.isOwnEntry c) = [] :=
        List.filter_eq_nil_iff.2 fun e hm hc => he (List.any_eq_true.2 ⟨e, hm, hc⟩)
      rw [this]
      rfl

/-- The own entry found is one of the entries. -/
theorem State.ownPlace_split {c : Channel} {j : Nat} (h : s.ownPlace c = some j) :
    ∃ xs y zs, s.intents.entries = xs ++ y :: zs ∧ s.isOwnEntry c y = true ∧ s.intents.entries[j]? = some y
      ∧ s.intents.entries.eraseIdx j = xs ++ zs := by
  obtain ⟨hj, hy, -⟩ := List.findIdx?_eq_some_iff_getElem.1 h
  refine ⟨s.intents.entries.take j, s.intents.entries[j], s.intents.entries.drop (j + 1), ?_, hy, by simp, ?_⟩
  · rw [List.getElem_cons_drop, List.take_append_drop]
  · exact List.eraseIdx_eq_take_drop_succ _ _

/-- R52: once the own entry has gone, its channel has no announcement. -/
theorem State.TablesSound.forgetOwn (h : s.TablesSound) {c : Channel} {j : Nat} (hj : s.ownPlace c = some j) :
    (s.setEntries (s.intents.entries.eraseIdx j)).announced c = 0 := by
  obtain ⟨xs, y, zs, he, hy, -, hr⟩ := State.ownPlace_split hj
  have hone := h.announcedOnce c
  rw [State.announced_eq, he, List.filter_append, List.filter_cons_of_pos hy, List.length_append, List.length_cons] at hone
  rw [State.announced_eq, hr]
  have : ((s.setEntries (xs ++ zs)).intents.entries.filter (s.isOwnEntry c)).length
      = (xs.filter (s.isOwnEntry c)).length + (zs.filter (s.isOwnEntry c)).length := by
    simp [List.filter_append]
  have hq : (s.setEntries (xs ++ zs)).line.queue = s.line.queue := rfl
  rw [hq]
  exact (congrArg (_ + ·) this).trans (by omega)

/-- R12: once its INTENT has left the queue, a channel has no announcement. -/
theorem State.TablesSound.loseIntent (h : s.TablesSound) {c : Channel} {xs zs : List TxEntry} {e : TxEntry}
    (hq : s.txQueue = xs ++ e :: zs) (he : e.frame.isIntentOf c = true) : (s.setQueue (xs ++ zs)).announced c = 0 := by
  have hone := h.announcedOnce c
  have := State.announced_split hq he
  omega

theorem State.TablesSound.deferFrames (l : List TxEntry) : ∀ s : State, s.TablesSound →
    (∀ e ∈ l, ∀ c, e.frame.isIntentOf c = true → s.announced c = 0) → (l.foldl State.deferFrame s).TablesSound := by
  induction l with
  | nil => exact fun s h _ => h
  | cons e l ih =>
    intro s h hl
    have hn : (s.deferFrame e).TablesSound ∧ ∀ c, (s.deferFrame e).announced c = s.announced c := by
      unfold State.deferFrame
      split
      · next c _ _ _ hf =>
        exact ⟨h.deferPending (hl e (by simp) c (by simp [hf, TxFrame.isIntentOf])), fun d => by simp⟩
      all_goals exact ⟨h, fun _ => rfl⟩
    refine ih _ hn.1 fun x hx c hc => ?_
    rw [hn.2]
    exact hl x (by simp [hx]) c hc

/-- R157: the tables once a clash has discarded the INTENT-kind frames. -/
theorem State.TablesSound.discardIntents (h : s.TablesSound) : s.discardIntents.TablesSound := by
  rw [State.discardIntents_eq]
  refine State.TablesSound.deferFrames _ _ (h.setQueue List.filter_sublist) fun e he c hc => ?_
  obtain ⟨xs, zs, hs⟩ := List.append_of_mem he
  have hz := h.loseIntent hs hc
  have hle : (s.setQueue (s.txQueue.filter fun e => e.frame.kind != 0)).announced c ≤ (s.setQueue (xs ++ zs)).announced c := by
    have hk : e.frame.kind = 0 := by
      cases hf : e.frame with
      | intent => rfl
      | _ => simp [hf, TxFrame.isIntentOf] at hc
    have hsub : (s.txQueue.filter fun e => e.frame.kind != 0).Sublist (xs ++ zs) := by
      rw [hs, List.filter_append, List.filter_cons_of_neg (by simp [hk])]
      exact List.Sublist.append List.filter_sublist List.filter_sublist
    exact State.announced_setQueue_le (s := s.setQueue (xs ++ zs)) hsub c
  omega

/-- R51: an INTENT that has left becomes the own entry. -/
theorem State.TablesSound.complete (h : s.TablesSound) {c : Channel} {xs zs : List TxEntry} {e : TxEntry} {x : IntentEntry}
    (hq : s.txQueue = xs ++ e :: zs) (he : e.frame.isIntentOf c = true) (hl : s.intents.entries.length < 24)
    (hx : x.station = s.own ∧ x.channel = intentChannel c ∧ x.hold.isSome = true) :
    ((s.setQueue (xs ++ zs)).setEntries (s.intents.entries ++ [x])).TablesSound := by
  obtain ⟨hst, hch, hhold⟩ := hx
  have hz := h.loseIntent hq he
  rw [State.announced_eq] at hz
  have hown : s.intents.entries.filter (s.isOwnEntry c) = [] := List.length_eq_zero_iff.1 (Nat.eq_zero_of_add_eq_zero_left hz)
  have hle : ∀ d, ((s.setQueue (xs ++ zs)).setEntries (s.intents.entries ++ [x])).announced d
      = (s.setQueue (xs ++ zs)).announced d + (if c = d then 1 else 0) := by
    intro d
    rw [State.announced_eq, State.announced_eq]
    have hd : s.isOwnEntry d x = (c == d) := by
      simp only [State.isOwnEntry, hst, hch, beq_self_eq_true, Bool.true_and, intentChannel]
      rw [Bool.eq_iff_iff]
      simp [Fin.ext_iff]
    have : ((s.intents.entries ++ [x]).filter (s.isOwnEntry d)).length
        = (s.intents.entries.filter (s.isOwnEntry d)).length + (if c = d then 1 else 0) := by
      rw [List.filter_append, List.length_append, List.filter_cons, hd]
      by_cases e : c = d <;> simp [e]
    exact (congrArg (_ + ·) this).trans (Nat.add_assoc _ _ _).symm
  have hsub : (xs ++ zs).Sublist s.line.queue := by
    rw [show s.line.queue = xs ++ e :: zs from hq]
    exact List.Sublist.append (List.Sublist.refl _) (List.sublist_cons_self _ _)
  have hpend : (s.chan c).state = .pending := by
    refine h.announcing c ?_
    rw [State.announced_split hq he]
    exact Nat.succ_ne_zero _
  constructor
  · exact h.order
  · exact h.peer
  · simp only [State.setEntries_intents, List.length_append, List.length_singleton]
    omega
  · intro y hy
    rcases List.mem_append.1 hy with hy | hy
    · exact h.hold y hy
    · rw [List.mem_singleton.1 hy, hhold, hst]
      simp
  · refine List.pairwise_append.2 ⟨h.once, List.pairwise_singleton _ _, fun y hy z hz hyz => ?_⟩
    rw [List.mem_singleton.1 hz, hst, hch] at hyz
    exact List.filter_eq_nil_iff.1 hown y hy (by simp [State.isOwnEntry, hyz.1, hyz.2])
  · intro d
    rw [hle]
    have h1 := State.announced_setQueue_le hsub d
    have h2 := h.announcedOnce d
    have h3 := h.loseIntent hq he
    split
    · next e =>
      subst e
      omega
    · omega
  · intro d hd
    rw [hle] at hd
    by_cases e : c = d
    · subst e
      exact hpend
    · rw [if_neg e] at hd
      have h1 := State.announced_setQueue_le hsub d
      exact h.announcing d (by omega)
  · exact h.waiting

/-- A move keeps the tables. -/
theorem State.Move.tables (m : s.Move t) (h : s.TablesSound) : t.TablesSound := by
  have hw := m.waiting h.waiting
  cases m with
  | record c hk =>
    refine h.of rfl rfl (List.Sublist.refl _) h.announcedOnce (fun d hd => ?_) hw
    exact (State.setChan_chan_cases (P := fun r q => q.state = r.state) (fun _ => rfl) hk.state_eq d).trans (h.announcing d hd)
  | request c hk =>
    refine h.of rfl rfl (List.Sublist.refl _) h.announcedOnce (fun d hd => ?_) hw
    exact (State.setChan_chan_cases (P := fun r q => q.state = r.state) (fun _ => rfl) hk.state_eq d).trans (h.announcing d hd)
  | enter c _ hp => exact h.enter (.inl (h.unannounced hp))
  | @handOver c rest q hs hq =>
    have h1 : State.TablesSound { s with sequencer := q } :=
      h.of rfl rfl (List.Sublist.refl _) h.announcedOnce h.announcing
        fun d hd => h.waiting d (by rw [hs]; exact List.mem_cons_of_mem _ (hq ▸ hd))
    have hc : (s.chan c).state = .slotwait := h.waiting c (by simp [hs])
    exact h1.enter (.inl (h.unannounced (by simp [hc])))
  | announce c _ hp => exact h.announce (h.unannounced hp)
  | abandon c => exact (h.undoAnnouncement c).1.enter (.inl (h.undoAnnouncement c).2)
  | decide c j f hj => exact (h.setEntries (List.eraseIdx_sublist _ _)).enter (.inl (h.forgetOwn hj))
  | @loseIntent c xs zs e hq he =>
    refine (h.setQueue ?_).deferPending (h.loseIntent hq he)
    rw [show s.line.queue = xs ++ e :: zs from hq]
    exact List.Sublist.append (List.Sublist.refl _) (List.sublist_cons_self _ _)
  | complete c x hq he hl hx => exact h.complete hq he hl hx
  | discardIntents => exact h.discardIntents
  | forget he => exact h.setEntries he
  | send hf => exact h.send hf
  | drop hq => exact h.setQueue hq
  | join => exact h.of rfl rfl (List.Sublist.refl _) h.announcedOnce h.announcing hw
  | free => exact h.of rfl rfl (List.Sublist.refl _) h.announcedOnce h.announcing hw
  | bindings => exact h.of rfl rfl (List.Sublist.refl _) h.announcedOnce h.announcing hw
  | echoes => exact h.of rfl rfl (List.Sublist.refl _) h.announcedOnce h.announcing hw
  | echoed =>
    refine h.of rfl rfl (List.Sublist.refl _) h.announcedOnce (fun d hd => ?_) hw
    rw [State.echoed_chan]
    exact h.announcing d hd

/-- Chains of moves keep the tables. -/
theorem State.Moves.tables (h : s.Moves t) : s.TablesSound → t.TablesSound := by
  induction h with
  | refl => exact id
  | step _ m ih => exact fun hs => m.tables (ih hs)
  | @abort s t u c _ hst _ hk ih ih' =>
    intro hs
    have ht := ih hs
    have hc : u.chan c = t.chan c := hk fun hm => by simp [ht.waiting c hm] at hst
    exact (ih' ht).enter (.inl ((ih' ht).unannounced (by simp [hc, hst])))

end Sys2Proof.Machine
end

-- ==== Proofs: chain ====
section
/-! SUPPORT. The operations of the model as chains of moves. -/

namespace Sys2Proof.Machine

variable {s t u : State} {c : Channel} {f : ChannelRecord → ChannelRecord}

/-! ### Records, slots, faults -/

theorem State.moves_modChan (h : (s.chan c).Keeps (f (s.chan c))) : s.Moves (s.modChan c f) := (State.Move.record c h).moves

theorem State.moves_enter (h : (s.chan c).Enters (f (s.chan c))) (hp : (s.chan c).state ≠ .pending) :
    s.Moves (s.enter c f) := (State.Move.enter c h hp).moves

theorem State.moves_send {f : TxFrame} (h : f.isIntent = false) : s.Moves (s.send f) := (State.Move.send h).moves

theorem State.moves_requestStatus (c : Channel) (s : State) : s.Moves (s.requestStatus c) := by
  unfold State.requestStatus
  split
  · exact .refl
  · exact State.moves_send rfl

/-- A channel with a request above 0 has begun. -/
theorem ChannelRecord.not_unbegun_of_eff {r : ChannelRecord} (h : r.eff ≠ 0) : ¬r.Unbegun := fun hu => h hu.2.2.1

/-- A channel outside OFF and INHIBITED has begun. -/
theorem ChannelRecord.not_unbegun_of_state {r : ChannelRecord} (h : r.state ≠ .off) (k : r.state ≠ .inhibited) :
    ¬r.Unbegun := fun hu => hu.1.elim h k

/-- Results and detectors change, and nothing else. -/
theorem ChannelRecord.keeps_prot (r : ChannelRecord) (p : Protection)
    (hp : p.theta = r.prot.theta ∧ p.lastTen = r.prot.lastTen) : r.Keeps { r with prot := p } :=
  .note r.idClass r.idDue r.faults r.events r.causes r.autoOff r.echoTaken p hp

theorem ChannelRecord.keeps_recordFault (r : ChannelRecord) (k : FaultKind) : r.Keeps (r.recordFault k) :=
  .note r.idClass _ _ _ r.causes r.autoOff r.echoTaken r.prot ⟨rfl, rfl⟩

theorem ChannelRecord.keeps_reloadAutoOff (r : ChannelRecord) : r.Keeps r.reloadAutoOff := by
  unfold ChannelRecord.reloadAutoOff
  split
  · exact .note r.idClass r.idDue r.faults r.events r.causes _ r.echoTaken r.prot ⟨rfl, rfl⟩
  · exact .note r.idClass r.idDue r.faults r.events r.causes r.autoOff r.echoTaken r.prot ⟨rfl, rfl⟩

theorem ChannelRecord.keeps_causes (r : ChannelRecord) (k : Causes) : r.Keeps { r with causes := k } :=
  .note r.idClass r.idDue r.faults r.events k r.autoOff r.echoTaken r.prot ⟨rfl, rfl⟩

/-- R119 to R122: a fault taken. -/
theorem State.moves_takeFault (c : Channel) (k : FaultKind) (s : State) : s.Moves (s.takeFault c k) := by
  unfold State.takeFault
  dsimp only
  split
  · exact (State.moves_modChan (ChannelRecord.keeps_recordFault _ k)).trans (State.moves_requestStatus c _)
  · split
    · next hk =>
      have hp : (s.chan c).state ≠ .pending := by
        rcases ChannelRecord.takesFault_state hk with e | e | e | e <;> simp [e]
      cases (s.chan c).cfg.actionFor k
      · exact (State.moves_enter (.latch k hk) hp).trans (State.moves_requestStatus c _)
      · exact (State.moves_enter (.retry k hk) hp).trans (State.moves_requestStatus c _)
      · exact (State.moves_modChan (ChannelRecord.keeps_recordFault _ k)).trans (State.moves_requestStatus c _)
      · exact .refl
    · exact .refl

/-- R115: a hot switch takes THERMAL at an entry. -/
theorem State.moves_thermal (h : s.Moves t) :
    s.Moves (if (t.chan c).prot.hot then t.takeFault c .thermal else t) := by
  split
  · exact h.trans (State.moves_takeFault c _ t)
  · exact h

/-- R11: a channel that may start. -/
theorem State.moves_startChannel (hu : ¬(s.chan c).Unbegun) (hp : (s.chan c).state ≠ .pending)
    (hl : (s.chan c).state = .latched → (s.chan c).retryCount = 0) : s.Moves (s.startChannel c) :=
  State.moves_thermal (State.moves_enter (.start hu hl) hp)

/-- R81: slots handed on. -/
theorem moves_handSlotsFor (n : Nat) : ∀ s : State, s.Moves (handSlotsFor n s) := by
  induction n with
  | zero => exact fun s => .refl
  | succ n ih =>
    intro s
    unfold handSlotsFor
    split
    · exact .refl
    · next c rest hq =>
      split
      · exact .refl
      · next q ht =>
        have hr : q.queue = rest := by
          unfold StartSequencer.take at ht
          split at ht
          · exact (Option.some.inj ht) ▸ rfl
          · split at ht
            · exact (Option.some.inj ht) ▸ rfl
            · cases ht
        exact (State.moves_thermal (State.Move.handOver hq hr).moves).trans (ih _)

theorem State.moves_handSlots (s : State) : s.Moves s.handSlots := moves_handSlotsFor 20 s

/-- R97: a slot freed and handed on. -/
theorem State.moves_freeSlot (c : Channel) (s : State) : s.Moves (s.freeSlot c) := by
  unfold State.freeSlot
  refine State.Moves.trans ?_ (State.moves_handSlots _)
  exact (State.Move.free (by rfl)).moves

theorem State.moves_handFault (c : Channel) (k : FaultKind) (s : State) : s.Moves (s.handFault c k) := by
  unfold State.handFault
  split
  · exact (State.moves_freeSlot c s).trans (State.moves_takeFault c k _)
  · exact State.moves_takeFault c k s

/-! ### A slot handed on reaches the slot queue alone (R81) -/

theorem State.takeFault_queue (c : Channel) (k : FaultKind) (s : State) {d : Channel}
    (h : d ∈ (s.takeFault c k).sequencer.queue) : d ∈ s.sequencer.queue := by
  unfold State.takeFault at h
  dsimp only at h
  split at h
  · simpa using h
  · split at h
    · cases e : (s.chan c).cfg.actionFor k <;> simp only [e] at h
      · exact (State.enter_queue (State.requestStatus_sequencer c _ ▸ h)).1
      · exact (State.enter_queue (State.requestStatus_sequencer c _ ▸ h)).1
      · simpa using h
      · exact h
    · exact h

theorem State.startChannel_queue (c : Channel) (s : State) {d : Channel}
    (h : d ∈ (s.startChannel c).sequencer.queue) : d ∈ s.sequencer.queue := by
  unfold State.startChannel at h
  dsimp only at h
  split at h
  · exact (State.enter_queue (State.takeFault_queue _ _ _ h)).1
  · exact (State.enter_queue h).1

/-- What the sequencer's take leaves of its queue. -/
theorem StartSequencer.take_queue {q q' : StartSequencer} (h : q.take c = some q') : q'.queue = q.queue := by
  unfold StartSequencer.take at h
  split at h
  · exact (Option.some.inj h) ▸ rfl
  · split at h
    · exact (Option.some.inj h) ▸ rfl
    · cases h

theorem handSlotsFor_chan (n : Nat) {d : Channel} : ∀ s : State, d ∉ s.sequencer.queue →
    (handSlotsFor n s).chan d = s.chan d := by
  induction n with
  | zero => exact fun s _ => rfl
  | succ n ih =>
    intro s hd
    unfold handSlotsFor
    split
    · rfl
    · next c rest hq =>
      split
      · rfl
      · next q ht =>
        have hne : d ≠ c := by
          rintro rfl
          exact hd (by simp [hq])
        have hr : q.queue = rest := StartSequencer.take_queue ht
        rw [ih, State.startChannel_chan_ne hne]
        · rfl
        · intro hm
          have hm : d ∈ q.queue := State.startChannel_queue c _ hm
          exact hd (by rw [hq]; exact List.mem_cons_of_mem _ (hr ▸ hm))

/-- R81: a channel outside the slot queue keeps its record while slots are handed on. -/
theorem State.handSlots_chan {d : Channel} (h : d ∉ s.sequencer.queue) : s.handSlots.chan d = s.chan d :=
  handSlotsFor_chan 20 s h

theorem State.freeSlot_chan_of {d : Channel} (h : d ∉ s.sequencer.queue) : (s.freeSlot c).chan d = s.chan d := by
  unfold State.freeSlot
  rw [State.handSlots_chan]
  · rfl
  · exact h

/-! ### Requests (R5, R10 to R22) -/

/-- R11, R22: a channel with a request above 0 begins. -/
theorem State.moves_beginRequest (hu : ¬(s.chan c).Unbegun) (hp : (s.chan c).state ≠ .pending)
    (hl : (s.chan c).state ≠ .latched) : s.Moves (s.beginRequest c) := by
  have hstart : s.Moves (s.startChannel c) := State.moves_startChannel hu hp fun e => absurd e hl
  have hdefer : s.Moves (s.enter c (·.idle .deferred)) :=
    State.moves_enter (.idle .deferred _ _ (.inr (.inr ⟨hu, .inl rfl⟩)) fun e => absurd e hl) hp
  unfold State.beginRequest
  split
  · exact .refl
  · split
    · exact hstart
    · exact .refl
  · split
    · exact hstart
    · exact (State.Move.announce c hu hp hl).moves
  all_goals
    split
    · exact hstart
    · exact hdefer

/-- R10: a rise acts in OFF alone. -/
theorem State.moves_requestRise (hu : ¬(s.chan c).Unbegun) : s.Moves (s.requestRise c) := by
  unfold State.requestRise
  split
  · next hs =>
    have hs : (s.chan c).state = .off := by simpa using hs
    exact State.moves_beginRequest hu (by simp [hs]) (by simp [hs])
  · exact .refl

/-- R13 to R21: a fall. -/
theorem State.moves_requestFall (c : Channel) (s : State) : s.Moves (s.requestFall c) := by
  have hoff : (s.chan c).state ≠ .pending → (s.chan c).state ≠ .latched → s.Moves (s.enter c (·.idle .off)) :=
    fun hp hl => State.moves_enter (.idle .off _ _ (.inl rfl) fun e => absurd e hl) hp
  unfold State.requestFall
  split
  · next hs => exact (State.Move.abandon c .off id hs (.inl rfl)).moves
  · next hs => exact State.Moves.abort c .refl hs (State.moves_freeSlot c s) fun hq => State.freeSlot_chan_of hq
  all_goals
    next hs =>
    first
    | exact hoff (by simp [hs]) (by simp [hs])
    | exact .refl

/-- Two changes of one record are one change, but for the echo changes handed over. -/
theorem State.modChan_modChan (s : State) (c : Channel) (f g : ChannelRecord → ChannelRecord) :
    (s.modChan c f).modChan c g = { s.modChan c (g ∘ f) with echoes := ((s.modChan c f).modChan c g).echoes } := by
  refine State.ext_chan (fun d => ?_) rfl
  by_cases e : d = c
  · subst e
    rw [State.modChan_chan_self, State.modChan_chan_self]
    exact (State.modChan_chan_self s d (g ∘ f)).symm
  · rw [State.modChan_chan_ne _ e, State.modChan_chan_ne _ e]
    exact (State.modChan_chan_ne s e (g ∘ f)).symm

/-- R5: a change of what the request is made of, and the effective request that follows it. -/
theorem State.moves_ask (h : (s.chan c).Asks (f (s.chan c)).follow)
    (hu : s.mode = .configuring → s.Unbegun → (f (s.chan c)).follow.Unbegun) :
    s.Moves ((s.modChan c f).applyRequest c) := by
  have hm := (State.Move.request c h hu).moves
  unfold State.applyRequest
  simp only [State.modChan_chan_self]
  unfold ChannelRecord.follow at hm
  split
  · next he =>
    rw [if_pos he] at hm
    exact hm
  · next he =>
    rw [if_neg he] at hm
    rw [State.modChan_modChan]
    have h1 := hm.trans (State.Move.echoes
      (((s.modChan c f).modChan c (·.withRequest (f (s.chan c)).effectiveRequest)).echoes)).moves
    refine h1.trans ?_
    split
    · next h0 =>
      refine State.moves_requestRise ?_
      refine ChannelRecord.not_unbegun_of_eff ?_
      refine fun hz => he ?_
      rw [h0]
      refine Eq.trans ?_ hz
      exact congrArg ChannelRecord.eff (State.modChan_chan_self s c ((·.withRequest (f (s.chan c)).effectiveRequest) ∘ f)).symm
    · split
      · exact State.moves_requestFall c _
      · exact .refl

/-- R34, R153: a raw request handed on; in CONFIGURING none above 0 is. -/
theorem State.moves_setRaw {v : Byte} (hv : s.mode = .configuring → s.Unbegun → v = 0) : s.Moves (s.setRaw c v) := by
  unfold State.setRaw
  split
  · exact .refl
  · next hne =>
    refine State.moves_ask (.mk v _ _ _ _) fun hm hs => absurd ?_ hne
    exact (hv hm hs).trans (hs.channels c).2.1.symm

/-! ### Releases (R126, R129, R136) -/

theorem State.moves_freshStart (hp : (s.chan c).state ≠ .pending)
    (hl : (s.chan c).state = .latched → (s.chan c).retryCount = 0) : s.Moves (s.freshStart c) := by
  have hoff : s.Moves (s.enter c (·.idle .off)) := State.moves_enter (.idle .off _ _ (.inl rfl) hl) hp
  unfold State.freshStart
  dsimp only
  split
  · exact hoff
  · next he => exact hoff.trans (State.moves_beginRequest (ChannelRecord.not_unbegun_of_eff he) (by simp) (by simp))

theorem State.moves_release (hp : (s.chan c).state ≠ .pending)
    (hl : (s.chan c).state = .latched → (s.chan c).retryCount = 0) : s.Moves (s.release c) := by
  unfold State.release
  split
  · exact State.moves_enter (.idle .inhibited _ _ (.inr (.inl rfl)) hl) hp
  · exact State.moves_freshStart hp hl

theorem State.moves_tryCooldownExit (c : Channel) (s : State) : s.Moves (s.tryCooldownExit c) := by
  unfold State.tryCooldownExit
  split
  · next h =>
    have hs : (s.chan c).state = .cooldown := by
      simp only [ChannelRecord.exitReady, Bool.and_eq_true, beq_iff_eq] at h
      exact h.1.1.1
    exact State.moves_release (by simp [hs]) (by simp [hs])
  · exact .refl

/-! ### Bindings and echoes (R34 to R38) -/

/-- With no binding nothing asks for a channel. -/
theorem BindingMap.rawOf_nil {m : BindingMap} (h : m.bindings = []) (c : Channel) : m.rawOf c = 0 := by
  simp [BindingMap.rawOf, h]

theorem State.moves_reevaluate (c : Channel) (s : State) : s.Moves (s.reevaluate c) := by
  unfold State.reevaluate
  dsimp only
  refine ((State.Move.bindings _).moves.trans (State.moves_setRaw ?_)).trans (State.moves_handSlots _)
  intro _ hu
  exact BindingMap.rawOf_nil hu.bindings c

theorem State.moves_notice (c : Channel) (s : State) : s.Moves (s.notice c) :=
  State.moves_modChan (ChannelRecord.keeps_reloadAutoOff _)

theorem State.moves_sourceChanged (n : Byte) (s : State) : s.Moves (s.sourceChanged n) :=
  (State.Moves.foldl (fun s c => State.moves_notice c s) _ s).trans
    (State.Moves.foldl (fun s c => State.moves_reevaluate c s) _ _)

theorem State.moves_takeEcho (c : Channel) (v : Byte) (s : State) : s.Moves (s.takeEcho c v) :=
  (State.moves_modChan (.note _ _ _ _ _ _ v _ ⟨rfl, rfl⟩)).trans (State.moves_sourceChanged _ _)

theorem moves_settleFor (n : Nat) : ∀ s : State, s.Moves (settleFor n s) := by
  induction n with
  | zero => exact fun s => State.Move.echoed.moves
  | succ n ih =>
    intro s
    unfold settleFor
    split
    · exact State.Move.echoed.moves
    · next c v rest _ => exact ((State.Move.echoes rest).moves.trans (State.moves_takeEcho c v _)).trans (ih _)

/-- R38, R81: what follows an event. -/
theorem State.moves_settle (s : State) : s.Moves s.settle := (State.moves_handSlots s).trans (moves_settleFor _ _)

theorem State.moves_limpFollow (i : WiredInput) (h : s.mode = .limp) : s.Moves (s.limpFollow i) := by
  unfold State.limpFollow
  split
  · exact State.moves_setRaw fun hm => by rw [h] at hm; cases hm
  · exact .refl

theorem State.moves_activityEdge (i : WiredInput) (s : State) : s.Moves (s.activityEdge i) := by
  refine State.Moves.foldl (fun s c => ?_) _ s
  split
  · exact State.moves_notice c s
  · exact .refl

/-! ### Inhibition and recovery (R135, R136, R142, R143) -/

theorem State.moves_inhibit (c : Channel) (k : Causes → Causes) (s : State) : s.Moves (s.inhibit c k) := by
  have hin : (s.chan c).state ≠ .pending → (s.chan c).state ≠ .latched →
      s.Moves (s.enter c fun r => { r.idle .inhibited with causes := k r.causes }) :=
    fun hp hl => State.moves_enter (.idle .inhibited _ _ (.inr (.inl rfl)) fun e => absurd e hl) hp
  unfold State.inhibit
  split
  · exact .refl
  · exact .refl
  · exact State.moves_modChan (ChannelRecord.keeps_causes _ _)
  · next hs => exact (State.Move.abandon c .inhibited k hs (.inr rfl)).moves
  all_goals
    next hs =>
    exact hin (by simp [hs]) (by simp [hs])

theorem State.moves_inhibitAll (cs : List Channel) (k : Causes → Causes) (s : State) : s.Moves (s.inhibitAll cs k) := by
  refine State.Moves.foldl (fun s c => ?_) _ s
  split
  · exact State.moves_inhibit c k s
  · exact .refl

theorem State.moves_recover (c : Channel) (k : Causes → Causes) (s : State) : s.Moves (s.recover c k) := by
  have h1 : s.Moves (s.modChan c fun r => { r with causes := k r.causes }) :=
    State.moves_modChan (ChannelRecord.keeps_causes _ _)
  unfold State.recover
  dsimp only
  split
  · next hs =>
    simp only [Bool.and_eq_true, beq_iff_eq] at hs
    exact h1.trans (State.moves_freshStart (by rw [hs.1]; simp) (by rw [hs.1]; simp))
  · exact h1

theorem State.moves_recoverAll (sel : Channel → Bool) (k : Causes → Causes) (s : State) :
    s.Moves (s.recoverAll sel k) := by
  refine State.Moves.foldl (fun s c => ?_) _ s
  split
  · exact State.moves_recover c k s
  · exact .refl

end Sys2Proof.Machine
end

-- ==== Proofs: chain2 ====
section
namespace Sys2Proof.Machine

variable {s t u : State} {c : Channel} {f : ChannelRecord → ChannelRecord}

/-! ### Admission (R62, R66) -/

theorem State.moves_decide {j : Nat} {y : IntentEntry} (hj : s.ownPlace c = some j) : s.Moves (s.decide c j y) := by
  have hgo : s.Moves (s.setEntries (s.intents.entries.eraseIdx j)) := (State.Move.forget (List.eraseIdx_sublist _ _)).moves
  unfold State.decide
  dsimp only
  split
  · exact hgo
  · next hp =>
    have hp : (s.chan c).state = .pending := by simpa using hp
    split
    · have h1 : s.Moves ((s.setEntries (s.intents.entries.eraseIdx j)).enter c ChannelRecord.toSlotwait) :=
        (State.Move.decide c j _ hj hp (.inl rfl)).moves
      unfold State.grantAdmission
      dsimp only
      split
      · exact h1.trans (State.moves_takeFault c _ _)
      · refine (h1.trans ?_).trans (State.moves_handSlots _)
        exact (State.Move.join c (by simp [ChannelRecord.toSlotwait])).moves
    · exact (State.Move.decide c j _ hj hp (.inr rfl)).moves.trans (State.moves_send rfl)

/-! ### Rounds (R68 to R76) -/

theorem State.moves_shed (hu : (s.chan c).state.books = true) : s.Moves (s.shed c) := by
  have h1 : (s.chan c).state ≠ .pending ∧ (s.chan c).state ≠ .latched ∧ (s.chan c).state ≠ .off
      ∧ (s.chan c).state ≠ .inhibited := by
    refine ⟨?_, ?_, ?_, ?_⟩ <;> intro e <;> simp [e, ChannelState.books] at hu
  obtain ⟨hp, hl, ho, hi⟩ := h1
  exact State.moves_enter (.idle .shed _ _ (.inr (.inr ⟨ChannelRecord.not_unbegun_of_state ho hi, .inr rfl⟩))
    fun e => absurd e hl) hp

theorem State.moves_throttle {tr : Tier} (h : (s.chan c).throttles tr = true) : s.Moves (s.throttle c) := by
  unfold State.throttle
  split
  · next hs =>
    have hs : (s.chan c).state = .on := by simpa using hs
    exact State.moves_enter (.throttle hs) (by simp [hs])
  · refine State.moves_modChan (.throttle true ?_)
    simp only [ChannelRecord.throttles, Bool.and_eq_true, Bool.or_eq_true, beq_iff_eq] at h
    obtain ⟨⟨-, (hs | hs) | hs⟩, -⟩ := h <;> simp [hs, ChannelState.books]

theorem State.moves_shedAbove (tr : Tier) (s : State) : s.Moves (s.shedAbove tr) := by
  refine State.Moves.foldl (fun s c => ?_) _ s
  split
  · next h => exact State.moves_shed (by simp only [Bool.and_eq_true] at h; exact h.2)
  · exact .refl

/-- A fold of moves beside a total. -/
theorem State.moves_foldl_pair {f : State × Nat → Channel → State × Nat}
    (h : ∀ (p : State × Nat) c, p.1.Moves (f p c).1) (l : List Channel) :
    ∀ p : State × Nat, p.1.Moves (l.foldl f p).1 := by
  induction l with
  | nil => exact fun p => .refl
  | cons c l ih => exact fun p => (h p c).trans (ih _)

theorem State.moves_throttleStep (tr : Tier) (share : Nat) (s : State) : s.Moves (s.throttleStep tr share).1 := by
  refine State.moves_foldl_pair (fun p c => ?_) _ (s, 0)
  dsimp only
  split
  · next h =>
    simp only [Bool.and_eq_true] at h
    exact State.moves_throttle h.2
  · exact .refl

theorem State.moves_offStep (tr : Tier) (share : Nat) (p : State × Nat) : p.1.Moves (State.offStep tr share p).1 := by
  refine State.moves_foldl_pair (fun p c => ?_) _ p
  dsimp only
  split
  · next h =>
    simp only [Bool.and_eq_true] at h
    exact State.moves_shed h.2
  · exact .refl

/-- R67 to R72: the shed stage, once the overbooked indicator has been judged. -/
theorem State.moves_shedStage (s : State) : s.judgeOverbooked.Moves s.shedStage := by
  unfold State.shedStage
  split
  · exact .refl
  · dsimp only
    exact (((State.moves_shedAbove _ _).trans (State.moves_throttleStep _ _ _)).trans (State.moves_offStep _ _ _)).trans
      (State.moves_handSlots _)

/-- No channel stands twice in the order of tiers (R3). -/
theorem State.byTier_nodup (s : State) : s.byTier.Nodup := by
  unfold State.byTier
  refine List.nodup_flatMap.2 ⟨fun t _ => (List.nodup_finRange 20).filter _, ?_⟩
  refine (List.nodup_finRange 4).imp fun {a b} hab => ?_
  simp only [Function.onFun, List.disjoint_left, List.mem_filter, beq_iff_eq, not_and]
  rintro c ⟨-, ha⟩ - hb
  exact hab (ha.symm.trans hb)

/-- R12: channels outside PENDING announce their intents one after another. -/
theorem State.moves_announceAll (l : List Channel) : ∀ s : State, l.Nodup →
    (∀ c ∈ l, (s.chan c).state ≠ .pending ∧ (s.chan c).state ≠ .latched ∧ ¬(s.chan c).Unbegun) →
    s.Moves (l.foldl (fun s c => s.announce c) s) := by
  induction l with
  | nil => exact fun s _ _ => .refl
  | cons c l ih =>
    intro s hn h
    obtain ⟨hc, hl⟩ := List.nodup_cons.1 hn
    obtain ⟨hp, hlat, hu⟩ := h c (by simp)
    refine (State.Move.announce c hu hp hlat).moves.trans (ih _ hl fun d hd => ?_)
    have hne : d ≠ c := by
      rintro rfl
      exact hc hd
    rw [State.announce_chan_ne hne]
    exact h d (by simp [hd])

/-- R76: the channels that a round announces: those in DEFERRED with a request, and the chosen one in SHED. -/
theorem State.moves_announceWaiting (chosen : Option Channel) (s : State) :
    s.Moves ((s.byTier.filter fun c => (s.chan c).reannounces || (chosen == some c && (s.chan c).state == .shed)).foldl
      (fun s c => s.announce c) s) := by
  refine State.moves_announceAll _ _ (s.byTier_nodup.filter _) fun d hd => ?_
  obtain ⟨-, hd⟩ := List.mem_filter.1 hd
  simp only [ChannelRecord.reannounces, Bool.or_eq_true, Bool.and_eq_true, beq_iff_eq] at hd
  rcases hd with ⟨hs, -⟩ | ⟨-, hs⟩
  · exact ⟨by simp [hs], by simp [hs], ChannelRecord.not_unbegun_of_state (by simp [hs]) (by simp [hs])⟩
  · exact ⟨by simp [hs], by simp [hs], ChannelRecord.not_unbegun_of_state (by simp [hs]) (by simp [hs])⟩

theorem State.moves_unthrottle (c : Channel) (s : State) : s.Moves (s.unthrottle c) := by
  unfold State.unthrottle
  split
  · next hs =>
    have hs : (s.chan c).state = .cycling := by simpa using hs
    exact State.moves_enter (.unthrottle hs) (by simp [hs])
  · exact State.moves_modChan .unthrottle

theorem State.moves_restoreStages (b : Bool) (s : State) : s.Moves (s.restoreStages b) := by
  unfold State.restoreStages
  dsimp only
  generalize (if b = true then none else s.readmissionCandidate.filter s.readmits) = chosen
  have h1 : s.Moves (match chosen with
      | some c => if (s.chan c).throttled = true then s.unthrottle c else s
      | none => s) := by
    split
    · split
      · exact State.moves_unthrottle _ s
      · exact .refl
    · exact .refl
  exact h1.trans (State.moves_announceWaiting chosen _)

/-! ### Starts (R90 to R98) -/

theorem State.moves_judgeClass (c : Channel) (k : LoadClass) (s : State) : s.Moves (s.judgeClass c k) := by
  unfold State.judgeClass
  dsimp only
  split
  · exact State.moves_handFault c _ s
  · split
    · exact State.moves_handFault c _ s
    · exact State.moves_modChan (.note _ false _ _ _ _ _ _ ⟨rfl, rfl⟩)

theorem State.moves_endStart (c : Channel) (s : State) : s.Moves (s.endStart c) := by
  unfold State.endStart
  dsimp only
  split
  · exact .refl
  · next h =>
    have hs : (s.chan c).state = .starting := by simpa using h
    split
    · exact State.moves_enter (.cycling hs) (by simp [hs])
    · exact State.moves_enter (.on hs) (by simp [hs])

theorem State.moves_windowEnd (c : Channel) (t : StartRecord) (s : State) : s.Moves (s.windowEnd c t) := by
  unfold State.windowEnd
  dsimp only
  split
  · exact (State.moves_freeSlot c s).trans (State.moves_handFault c _ _)
  · refine (((State.moves_freeSlot c s).trans ?_).trans (State.moves_judgeClass c _ _)).trans (State.moves_endStart c _)
    exact State.moves_modChan (.note _ _ _ _ _ _ _ _ ⟨rfl, rfl⟩)

/-! ### Samples and updates (chapter 6) -/

theorem ChannelRecord.reading_le (r : ChannelRecord) (i : Nat) : r.reading i ≤ 1023 := by
  unfold ChannelRecord.reading
  split
  · exact Nat.zero_le _
  · exact Nat.min_le_right _ _

theorem State.moves_readSwitch (c : Channel) (x : Int) (s : State) : s.Moves (s.readSwitch c x) := by
  have h1 : ∀ b : Bool, s.Moves (s.modChan c fun r => r.modProt fun p => { p with hot := b }) :=
    fun b => State.moves_modChan (ChannelRecord.keeps_prot _ _ ⟨rfl, rfl⟩)
  unfold State.readSwitch
  dsimp only
  split
  · exact (h1 _).trans (State.moves_handFault c _ _)
  · split
    · exact (h1 _).trans (State.moves_tryCooldownExit c _)
    · exact h1 _

theorem State.moves_sample (c : Channel) (i : Nat) (x : Int) (s : State) : s.Moves (s.sample c i x) := by
  have hsample : ∀ v : Nat, v ≤ 1023 → s.Moves (s.modChan c fun r => (r.takeSample v).startSample v) := fun v hv =>
    by
      have h1 : s.Moves (s.modChan c (·.takeSample v)) := State.moves_modChan (.sample v hv)
      have h2 := h1.trans (State.moves_modChan (c := c) (f := (·.startSample v)) (.startSample v))
      rw [State.modChan_modChan] at h2
      exact h2.trans (State.Move.echoes _).moves
  have hwait : ∀ u : State, u.Moves (u.endWaiting c) := fun u => by
    unfold State.endWaiting
    split
    · split
      · exact State.moves_windowEnd c _ u
      · exact .refl
    · exact .refl
  have hshort : ∀ (u : State) (v : Nat), u.Moves (u.detectShort c v) := fun u v => by
    unfold State.detectShort
    dsimp only
    split
    · exact (State.moves_modChan (.shortSample v)).trans (State.moves_handFault c _ _)
    · exact State.moves_modChan (.shortSample v)
  exact (((hsample _ (ChannelRecord.reading_le _ i)).trans (hwait _)).trans (hshort _ _)).trans (State.moves_readSwitch c x _)

/-- R110, R112: the detectors change neither the samples nor the heat. -/
theorem ChannelRecord.keeps_judge (r : ChannelRecord) : r.Keeps r.judge := by
  have hr : r.Keeps r := ChannelRecord.keeps_prot r r.prot ⟨rfl, rfl⟩
  unfold ChannelRecord.judge ChannelRecord.judgeStall ChannelRecord.judgeOpen ChannelRecord.modProt
  split
  · repeat' split
    all_goals exact ChannelRecord.keeps_prot r _ ⟨rfl, rfl⟩
  · exact hr

theorem State.moves_updateChannel (c : Channel) (s : State) : s.Moves (s.updateChannel c) := by
  have h1 : s.Moves (s.modChan c (·.updateHeat)) := State.moves_modChan .heat
  unfold State.updateChannel
  dsimp only
  split
  · exact ((h1.trans (State.moves_handFault c _ _)).trans (State.moves_modChan (ChannelRecord.keeps_judge _))).trans
      (State.moves_tryCooldownExit c _)
  · exact (h1.trans (State.moves_modChan (ChannelRecord.keeps_judge _))).trans (State.moves_tryCooldownExit c _)

/-! ### The transmit queue's losses (R12, R162) -/

/-- The frame at a place of the queue, and the queue without it. -/
theorem eraseIdx_split {α : Type} {l : List α} {i : Nat} {a : α} (h : l[i]? = some a) :
    ∃ xs zs, l = xs ++ a :: zs ∧ l.eraseIdx i = xs ++ zs := by
  obtain ⟨hi, rfl⟩ := List.getElem?_eq_some_iff.1 h
  refine ⟨l.take i, l.drop (i + 1), ?_, List.eraseIdx_eq_take_drop_succ _ _⟩
  rw [List.getElem_cons_drop, List.take_append_drop]

/-! ### Service (R129, R130) -/

theorem State.moves_clearChannel (c : Channel) (s : State) : s.Moves (s.clearChannel c) := by
  have h1 : s.Moves (s.modChan c (·.cleared)) := State.moves_modChan .clear
  unfold State.clearChannel
  dsimp only
  split
  · exact .refl
  · split
    · next hl =>
      have hl : (s.chan c).state = .latched := by simpa using hl
      refine h1.trans (State.moves_release ?_ ?_)
      · rw [State.modChan_chan_self]
        simp [ChannelRecord.cleared, hl]
      · rw [State.modChan_chan_self]
        exact fun _ => rfl
    · split
      · exact h1
      · exact h1.trans (State.moves_requestStatus c _)

theorem State.moves_clearAll (cs : List Channel) (s : State) : s.Moves (cs.foldl (fun s c => s.clearChannel c) s) :=
  State.Moves.foldl (fun s c => State.moves_clearChannel c s) cs s

end Sys2Proof.Machine
end

-- ==== Proofs: runs ====
section
/-! SUPPORT. Every command but the resets and the read's end is a run of moves and of changes beside the channels. -/

namespace Sys2Proof.Machine

variable {s t u : State} {c : Channel} {f : ChannelRecord → ChannelRecord}

/-! ### Changes beside the channels -/

/-- A change beside the channels: no record, slot or binding changes, the part mode changes among the modes of a part on the
coach line alone, no frame joins the transmit queue, and sound tables stay sound. -/
structure State.Beside (s t : State) : Prop where
  channels : t.channels = s.channels
  sequencer : t.sequencer = s.sequencer
  bindings : t.bind.bindings = s.bind.bindings
  mode : t.mode = s.mode ∨ ((s.mode = .listening ∨ s.mode = .running ∨ s.mode = .isolated) ∧ t.mode ≠ .configuring)
  mark : s.line.clashMark = true → t.line.clashMark = true
  frames : ∀ x ∈ t.line.queue, ∃ y ∈ s.line.queue, y.frame = x.frame
  tables : s.TablesSound → t.TablesSound

/-- What the tables read is the same. -/
theorem State.TablesSound.congrStates (h : s.TablesSound) (hst : ∀ c, (t.chan c).state = (s.chan c).state)
    (hq : t.sequencer = s.sequencer) (hp : t.peers = s.peers) (ho : t.own = s.own) (he : t.intents.entries = s.intents.entries)
    (hf : t.line.queue.map (·.frame) = s.line.queue.map (·.frame)) : t.TablesSound := by
  have hcount : ∀ (q : List TxEntry) (c : Channel), (q.filter fun e => e.frame.isIntentOf c).length
      = ((q.map (·.frame)).filter fun f => f.isIntentOf c).length := fun q c => by
    rw [List.filter_map, List.length_map]
    rfl
  have hann : ∀ c, t.announced c = s.announced c := fun c => by
    rw [State.announced_eq, State.announced_eq, hcount, hcount, hf, he]
    unfold State.isOwnEntry
    rw [ho]
  refine h.of hp ho (he ▸ List.Sublist.refl _) (fun c => hann c ▸ h.announcedOnce c) (fun c hn => ?_) (fun c hm => ?_)
  · rw [hst]
    exact h.announcing c (hann c ▸ hn)
  · rw [hst]
    exact h.waiting c (hq ▸ hm)

/-- What the tables read is the same. -/
theorem State.TablesSound.congr (h : s.TablesSound) (hc : t.channels = s.channels) (hq : t.sequencer = s.sequencer)
    (hp : t.peers = s.peers) (ho : t.own = s.own) (he : t.intents.entries = s.intents.entries)
    (hf : t.line.queue.map (·.frame) = s.line.queue.map (·.frame)) : t.TablesSound :=
  h.congrStates (fun c => by simp [State.chan, hc]) hq hp ho he hf

/-- A change that leaves the mode, the tables and the frames of the queue. -/
theorem State.Beside.quiet (hc : t.channels = s.channels := by rfl) (hq : t.sequencer = s.sequencer := by rfl)
    (hb : t.bind.bindings = s.bind.bindings := by rfl) (hm : t.mode = s.mode := by rfl)
    (hk : t.line.clashMark = s.line.clashMark := by rfl) (hp : t.peers = s.peers := by rfl)
    (ho : t.own = s.own := by rfl) (he : t.intents.entries = s.intents.entries := by rfl)
    (hf : t.line.queue.map (·.frame) = s.line.queue.map (·.frame) := by rfl) : s.Beside t where
  channels := hc
  sequencer := hq
  bindings := hb
  mode := .inl hm
  mark := fun h => hk.trans h
  frames x hx := by
    have : x.frame ∈ s.line.queue.map (·.frame) := hf ▸ List.mem_map_of_mem hx
    obtain ⟨y, hy, e⟩ := List.mem_map.1 this
    exact ⟨y, hy, e⟩
  tables h := h.congr hc hq hp ho he hf

/-- A command's work: moves, and changes beside the channels. -/
inductive State.Runs : State → State → Prop
  | refl {s : State} : Runs s s
  | moves {s t u : State} (h : Runs s t) (m : t.Moves u) : Runs s u
  | aside {s t u : State} (h : Runs s t) (b : t.Beside u) : Runs s u

theorem State.Moves.runs (h : s.Moves t) : s.Runs t := .moves .refl h

theorem State.Beside.runs (h : s.Beside t) : s.Runs t := .aside .refl h

theorem State.Runs.trans (h : s.Runs t) (k : t.Runs u) : s.Runs u := by
  induction k with
  | refl => exact h
  | moves _ m ih => exact ih.moves m
  | aside _ b ih => exact ih.aside b

/-- What follows an event ends the run. -/
theorem State.Runs.settle (h : s.Runs t) : s.Runs t.settle := h.moves (State.moves_settle t)

/-- A fold of runs. -/
theorem State.Runs.foldl {α : Type} {f : State → α → State} (h : ∀ (s : State) a, s.Runs (f s a)) (l : List α) :
    ∀ s : State, s.Runs (l.foldl f s) := by
  induction l with
  | nil => exact fun s => .refl
  | cons a l ih => exact fun s => (h s a).trans (ih _)

/-! ### What runs keep -/

theorem State.Beside.chan (h : s.Beside t) (c : Channel) : t.chan c = s.chan c := by simp [State.chan, h.channels]

theorem State.Beside.sound (b : s.Beside t) (h : s.Sound) : t.Sound := by
  intro c
  rw [b.chan]
  exact h c

theorem State.Runs.sound (h : s.Runs t) : s.Sound → t.Sound := by
  induction h with
  | refl => exact id
  | moves _ m ih => exact fun hs => m.sound (ih hs)
  | aside _ b ih => exact fun hs => b.sound (ih hs)

theorem State.Runs.tables (h : s.Runs t) : s.TablesSound → t.TablesSound := by
  induction h with
  | refl => exact id
  | moves _ m ih => exact fun hs => m.tables (ih hs)
  | aside _ b ih => exact fun hs => b.tables (ih hs)

theorem State.Beside.ruled (b : s.Beside t) (h : s.Ruled) : t.Ruled where
  channels c := by
    rw [b.chan]
    exact h.channels c
  waiting c hc := by
    rw [b.chan]
    exact h.waiting c (b.sequencer ▸ hc)
  unbegun hm := by
    have hs : s.mode = .configuring := by
      rcases b.mode with e | ⟨-, hn⟩
      · exact e ▸ hm
      · exact absurd hm hn
    have hu := h.unbegun hs
    refine ⟨fun c => ?_, b.bindings.trans hu.bindings, ?_⟩
    · rw [b.chan]
      exact hu.channels c
    · rw [b.sequencer]
      exact hu.queue

theorem State.Runs.ruled (h : s.Runs t) : s.Ruled → t.Ruled := by
  induction h with
  | refl => exact id
  | moves _ m ih => exact fun hs => m.ruledState (ih hs)
  | aside _ b ih => exact fun hs => b.ruled (ih hs)

/-! ### Events and budget rounds -/

theorem State.beside_raise (e : PartEvent) (s : State) : s.Beside (s.raise e) :=
  .quiet

theorem State.runs_raise (e : PartEvent) (s : State) : s.Runs (s.raise e) := (State.beside_raise e s).runs

theorem State.runs_judgeOverbooked (s : State) : s.Runs s.judgeOverbooked := by
  unfold State.judgeOverbooked
  dsimp only
  split
  · refine (State.runs_raise .safetyOverbooked s).aside .quiet
  · exact State.Beside.runs .quiet

theorem State.runs_shedStage (s : State) : s.Runs s.shedStage :=
  (State.runs_judgeOverbooked s).moves (State.moves_shedStage s)

theorem State.runs_takeRound (s : State) : s.Runs s.takeRound := by
  have hreport : ∀ u : State, u.Moves u.reportStage := fun u => State.moves_send rfl
  unfold State.takeRound
  split
  · exact .refl
  · exact s.runs_shedStage.moves (hreport _)
  · exact s.runs_shedStage.moves (hreport _)
  · exact (s.runs_shedStage.moves (State.moves_restoreStages _ _)).moves (hreport _)
  · exact s.runs_shedStage
  · exact (hreport s).runs

theorem State.runs_setWorst (s : State) : s.Runs s.setWorst := by
  unfold State.setWorst
  split
  · exact State.Beside.runs .quiet
  · exact .refl

theorem State.runs_bandNotice (s : State) : s.Runs s.bandNotice := by
  unfold State.bandNotice
  dsimp only
  split
  · exact (s.runs_setWorst.trans (State.runs_raise _ _)).trans (State.runs_takeRound _)
  · exact s.runs_setWorst

theorem State.runs_changeBand (b : Band) (s : State) : s.Runs (s.changeBand b) :=
  .trans (.aside .refl .quiet) (State.runs_bandNotice _)

theorem State.runs_periodicRound (s : State) : s.Runs s.periodicRound :=
  .trans (.aside .refl .quiet) (State.runs_takeRound _)

/-! ### Feeds and temperature -/

theorem State.runs_feedLoss (b : Bank) (s : State) : s.Runs (s.feedLoss b) :=
  (State.moves_inhibitAll _ _ s).runs.trans (State.runs_raise _ _)

theorem State.runs_measureFeed (b : Bank) (v : Nat) (s : State) : s.Runs (s.measureFeed b v) := by
  unfold State.measureFeed
  split
  · have h1 : ∀ f, s.Runs (State.setFeed { s with
        loader := { s.loader with resetKind := some (decideKind s.loader.resetKind v) } } b f) :=
      fun f => State.Beside.runs .quiet
    dsimp only
    split
    · exact h1 _
    · exact (h1 _).trans (State.runs_feedLoss b _)
  · have h1 : ∀ f, s.Runs (s.setFeed b f) := fun f => State.Beside.runs .quiet
    dsimp only
    split
    · exact (h1 _).trans (State.runs_feedLoss b _)
    · split
      · exact (h1 _).moves (State.moves_recoverAll _ _ _)
      · exact h1 _

theorem State.runs_measureDie (x : Int) (s : State) : s.Runs (s.measureDie x) := by
  have h1 : ∀ p : PartTemp, s.Runs { s with feed := { s.feed with temp := p } } :=
    fun p => State.Beside.runs .quiet
  have h2 : ∀ p : PartTemp, s.Runs (if s.feed.temp = .normal ∧ p ≠ .normal
      then State.raise .dieHot { s with feed := { s.feed with temp := p } } else { s with feed := { s.feed with temp := p } }) := by
    intro p
    split
    · exact (h1 p).trans (State.runs_raise _ _)
    · exact h1 p
  unfold State.measureDie
  dsimp only
  split
  · exact ((h2 _).trans (State.runs_raise _ _)).moves (State.moves_inhibitAll _ _ _)
  · split
    · exact (h2 _).moves (State.moves_recoverAll _ _ _)
    · exact h2 _

/-! ### Inputs and signals -/

theorem State.runs_debouncedChange (i : WiredInput) (s : State) : s.Runs (s.debouncedChange i) := by
  have h1 : s.Runs ((s.setWired i { s.wired[i] with debounced := (s.wired[i]).pin, timer := none }).activityEdge i) :=
    .moves (State.Beside.runs .quiet) (State.moves_activityEdge i _)
  unfold State.debouncedChange
  dsimp only
  split
  · next hm => exact h1.moves (State.moves_limpFollow i ((State.moves_activityEdge i _).acts.mode.trans hm))
  · exact h1.moves (State.moves_sourceChanged _ _)

theorem State.runs_ageTable (s : State) : s.Runs s.ageTable :=
  .moves (State.Beside.runs .quiet) (State.Moves.foldl (fun s c => State.moves_reevaluate c s) _ _)

theorem State.runs_takeSignal (st : Station) (n v : Byte) (s : State) : s.Runs (s.takeSignal st n v) := by
  unfold State.takeSignal
  dsimp only
  refine State.Runs.moves ?_ (State.Moves.foldl (fun s c => State.moves_reevaluate c s) _ _)
  split
  · exact State.Beside.runs .quiet
  · exact .moves (State.Beside.runs .quiet) (State.Moves.foldl (fun s c => State.moves_notice c s) _ _)

theorem State.runs_foreignOnset (st : Station) (n : Byte) (s : State) : s.Runs (s.foreignOnset st n) := by
  unfold State.foreignOnset
  dsimp only
  split
  · exact State.runs_raise _ s
  · exact .trans (State.Beside.runs .quiet) (State.runs_raise _ _)

theorem State.runs_takeSignals (st : Station) (l : List (Byte × Byte)) (s : State) : s.Runs (s.takeSignals st l) := by
  unfold State.takeSignals
  split
  · exact .refl
  · refine State.Runs.foldl (fun s p => ?_) l s
    unfold State.signalEntry
    split
    · exact .refl
    · split
      · exact State.runs_takeSignal st _ _ s
      · exact State.runs_foreignOnset st _ s

/-! ### Frames received (R156, R157, R159) -/

/-- Peers may go. -/
theorem State.TablesSound.dropPeers (h : s.TablesSound) {ps : List PeerEntry} (hp : ps.Sublist s.peers) :
    State.TablesSound { s with peers := ps } where
  order := h.order.sublist hp
  peer e he := h.peer e (hp.subset he)
  room := h.room
  hold := h.hold
  once := h.once
  announcedOnce := h.announcedOnce
  announcing := h.announcing
  waiting := h.waiting

theorem State.beside_dropHeldPeers (s : State) : s.Beside s.dropHeldPeers :=
  ⟨rfl, rfl, rfl, .inl rfl, id, fun x hx => ⟨x, hx, rfl⟩, fun h => h.dropPeers List.filter_sublist⟩

/-- A queue whose frames stay. -/
theorem State.beside_setQueue {q : List TxEntry} (h : q.map (·.frame) = s.line.queue.map (·.frame)) :
    s.Beside (s.setQueue q) := .quiet (hf := h)

theorem State.beside_holdBack (s : State) : s.Beside s.holdBack := by
  refine State.beside_setQueue ?_
  rw [List.map_map]
  refine List.map_congr_left fun e _ => ?_
  simp only [Function.comp]
  split <;> rfl

/-- R23: a change among the modes of a part on the coach line. -/
theorem State.beside_mode {m : PartMode} {l : LineInterface}
    (hs : s.mode = .listening ∨ s.mode = .running ∨ s.mode = .isolated) (hm : m ≠ .configuring)
    (hl : l.queue = s.line.queue) (hk : l.clashMark = s.line.clashMark) :
    s.Beside { s.setMode m with line := l } :=
  ⟨rfl, rfl, rfl, .inr ⟨hs, hm⟩, fun h => hk.trans h, fun x hx => ⟨x, hl ▸ hx, rfl⟩,
    fun h => h.congr rfl rfl rfl rfl rfl (congrArg _ hl)⟩

theorem State.runs_enterClashed (hs : s.mode = .listening ∨ s.mode = .running ∨ s.mode = .isolated) :
    s.Runs s.enterClashed := by
  have hmove : ∀ u : State, (u.mode = .listening ∨ u.mode = .running ∨ u.mode = .isolated) →
      u.Runs ({ u.setMode .clashed with line := { u.line with listen := none } } : State).holdBack.discardIntents :=
    fun u hu => ((State.beside_mode (m := .clashed) (l := { u.line with listen := none }) hu (by simp) rfl rfl).runs.aside
      (State.beside_holdBack _)).moves State.Move.discardIntents.moves
  unfold State.enterClashed
  dsimp only
  split
  · exact (State.beside_dropHeldPeers s).runs.trans (hmove s.dropHeldPeers hs)
  · exact hmove s hs

theorem State.runs_clashFrame (s : State) : s.Runs s.clashFrame := by
  have h0 : s.Beside { s with line := { s.line with clashMark := true } } :=
    ⟨rfl, rfl, rfl, .inl rfl, fun _ => rfl, fun x hx => ⟨x, hx, rfl⟩, fun h => h.congr rfl rfl rfl rfl rfl rfl⟩
  have h1 : s.Runs (State.raise .clash { s with line := { s.line with clashMark := true } }) :=
    h0.runs.trans (State.runs_raise _ _)
  unfold State.clashFrame
  split
  · exact .refl
  · dsimp only
    split
    all_goals
      next hm =>
      first
      | exact h1
      | exact h1.trans (State.runs_enterClashed (by simp [State.mode] at hm ⊢; simp [hm]))

theorem State.runs_heard (s : State) : s.Runs s.heard := State.Beside.runs .quiet

theorem State.runs_endIsolation (s : State) : s.Runs s.endIsolation := by
  unfold State.endIsolation
  split
  · next hm =>
    exact ((State.beside_dropHeldPeers s).runs.aside (State.beside_mode (s := s.dropHeldPeers) (m := .listening)
      (l := { s.line with listen := some Config.listenMs }) (.inr (.inr hm)) (by simp) rfl rfl)).aside (State.beside_holdBack _)
  · exact .refl

/-- R156: a received frame, whatever the block that owns it does with it. -/
theorem State.runs_receive {st : Station} {take : State → State}
    (h : ∀ u : State, u.own = s.own → st ≠ u.own → u.mode ≠ .configuring → u.Runs (take u)) :
    s.Runs (s.receive st take) := by
  unfold State.receive
  split
  · exact .refl
  · next hm =>
    split
    · exact s.runs_heard.trans (State.runs_clashFrame _)
    · next ho =>
      have hown : s.heard.endIsolation.own = s.own := by
        unfold State.endIsolation
        split <;> rfl
      refine (s.runs_heard.trans (State.runs_endIsolation _)).trans (h _ hown (hown ▸ ho) ?_)
      unfold State.endIsolation
      split
      · exact PartMode.noConfusion
      · exact fun e => hm (.inl e)

end Sys2Proof.Machine
end

-- ==== Proofs: runs2 ====
section
namespace Sys2Proof.Machine

variable {s t u : State} {c : Channel}

/-! ### The Peer Table (R43 to R47) -/

/-- What an insertion leaves in the table. -/
theorem mem_insertPeer {e x : PeerEntry} {l : List PeerEntry} (h : x ∈ insertPeer e l) : x = e ∨ x ∈ l := by
  induction l with
  | nil => exact .inl (List.mem_singleton.1 h)
  | cons y l ih =>
    unfold insertPeer at h
    split at h
    · exact List.mem_cons.1 h
    · split at h
      · exact (List.mem_cons.1 h).imp_right (List.mem_cons_of_mem _)
      · rcases List.mem_cons.1 h with rfl | h
        · exact .inr List.mem_cons_self
        · exact (ih h).imp_right (List.mem_cons_of_mem _)

/-- R44: an entry takes its place in station order. -/
theorem insertPeer_sorted (e : PeerEntry) {l : List PeerEntry} (h : l.Pairwise fun a b => a.station < b.station) :
    (insertPeer e l).Pairwise fun a b => a.station < b.station := by
  induction l with
  | nil => exact List.pairwise_singleton _ _
  | cons y l ih =>
    obtain ⟨hy, hl⟩ := List.pairwise_cons.1 h
    unfold insertPeer
    split
    · next hlt =>
      refine List.pairwise_cons.2 ⟨fun x hx => ?_, h⟩
      rcases List.mem_cons.1 hx with rfl | hx
      · exact hlt
      · exact hlt.trans (hy x hx)
    · next hnlt =>
      split
      · next heq =>
        refine List.pairwise_cons.2 ⟨fun x hx => ?_, hl⟩
        rw [heq]
        exact hy x hx
      · next hne =>
        refine List.pairwise_cons.2 ⟨fun x hx => ?_, ih hl⟩
        rcases mem_insertPeer hx with rfl | hx
        · exact lt_of_le_of_ne (not_lt.1 hnlt) (Ne.symm hne)
        · exact hy x hx

/-- Peers whose stations, bookings and ages stay in their ranges. -/
theorem State.TablesSound.peers (h : s.TablesSound) {ps : List PeerEntry}
    (ho : ps.Pairwise fun a b => a.station < b.station)
    (hp : ∀ e ∈ ps, e.station ≠ s.own ∧ e.age ≤ 1000 ∧ ∀ t, e.bookings.get t ≤ 4095) :
    State.TablesSound { s with peers := ps } where
  order := ho
  peer := hp
  room := h.room
  hold := h.hold
  once := h.once
  announcedOnce := h.announcedOnce
  announcing := h.announcing
  waiting := h.waiting

/-- A change of the Peer Table alone. -/
theorem State.beside_peers {ps : List PeerEntry} (h : s.TablesSound → State.TablesSound { s with peers := ps }) :
    s.Beside { s with peers := ps } :=
  ⟨rfl, rfl, rfl, .inl rfl, id, fun x hx => ⟨x, hx, rfl⟩, h⟩

/-- A change of entries of the Peer Table that keeps stations and bookings. -/
theorem State.TablesSound.mapPeers (h : s.TablesSound) {g : PeerEntry → PeerEntry} (hs : ∀ e, (g e).station = e.station)
    (hb : ∀ e, (g e).bookings = e.bookings) (ha : ∀ e, e.age ≤ 1000 → (g e).age ≤ 1000) :
    State.TablesSound { s with peers := s.peers.map g } := by
  refine h.peers ?_ fun e he => ?_
  · rw [List.pairwise_map]
    exact h.order.imp fun hab => by rwa [hs, hs]
  · obtain ⟨x, hx, rfl⟩ := List.mem_map.1 he
    obtain ⟨h1, h2, h3⟩ := h.peer x hx
    rw [hs, hb]
    exact ⟨h1, ha x h2, h3⟩

theorem State.runs_peerNotice (b : Option Band) (s : State) : s.Runs (s.peerNotice b) := by
  unfold State.peerNotice
  split
  · exact .refl
  · exact State.runs_bandNotice s

/-- A change of the Intent List alone that brings no own entry and leaves the own ones their places. -/
theorem State.TablesSound.entries (h : s.TablesSound) {es : List IntentEntry} (hl : es.length ≤ 24)
    (hh : ∀ e ∈ es, e.hold.isSome = (e.station == s.own))
    (ho : es.Pairwise fun a b => ¬(a.station = b.station ∧ a.channel = b.channel))
    (ha : ∀ c, (es.filter (s.isOwnEntry c)).length ≤ (s.intents.entries.filter (s.isOwnEntry c)).length) :
    (s.setEntries es).TablesSound := by
  have hle : ∀ c, (s.setEntries es).announced c ≤ s.announced c := fun c => by
    rw [State.announced_eq, State.announced_eq]
    exact Nat.add_le_add_left (ha c) _
  refine ⟨h.order, h.peer, hl, hh, ho, fun c => (hle c).trans (h.announcedOnce c), fun c hc => h.announcing c ?_, h.waiting⟩
  have := hle c
  omega

theorem State.beside_setEntries {es : List IntentEntry} (h : s.TablesSound → (s.setEntries es).TablesSound) :
    s.Beside (s.setEntries es) :=
  ⟨rfl, rfl, rfl, .inl rfl, id, fun x hx => ⟨x, hx, rfl⟩, h⟩

/-- R54: a report counts against the sender's entries and against no own entry. -/
theorem State.TablesSound.countReport (h : s.TablesSound) (st : Station) :
    (s.setEntries (countReport s.own st s.intents.entries)).TablesSound := by
  have hsub : (s.intents.entries.filter fun e => !(e.station == st && e.station != s.own && 1 ≤ e.reports)).Sublist
      s.intents.entries := List.filter_sublist
  have hkey : ∀ e : IntentEntry, let g := if e.station = st ∧ e.station ≠ s.own then { e with reports := e.reports + 1 } else e
      g.station = e.station ∧ g.channel = e.channel ∧ g.hold = e.hold := by
    intro e
    dsimp only
    split <;> exact ⟨rfl, rfl, rfl⟩
  unfold Machine.countReport
  refine h.entries ?_ ?_ ?_ fun c => ?_
  · rw [List.length_map]
    exact hsub.length_le.trans h.room
  · intro e he
    obtain ⟨x, hx, rfl⟩ := List.mem_map.1 he
    obtain ⟨h1, -, h3⟩ := hkey x
    rw [h1, h3]
    exact h.hold x (hsub.subset hx)
  · rw [List.pairwise_map]
    refine (h.once.sublist hsub).imp fun {a b} hab => ?_
    obtain ⟨a1, a2, -⟩ := hkey a
    obtain ⟨b1, b2, -⟩ := hkey b
    rwa [a1, a2, b1, b2]
  · rw [List.filter_map, List.length_map]
    refine le_trans (le_of_eq ?_) (hsub.filter (s.isOwnEntry c)).length_le
    refine congrArg List.length (List.filter_congr fun e _ => ?_)
    obtain ⟨h1, h2, -⟩ := hkey e
    simp only [Function.comp, State.isOwnEntry, h1, h2]

theorem drawBooking_le (w : BitVec 16) : drawBooking w ≤ 4095 := Nat.min_le_right _ _

theorem State.runs_takeDraw {st : Station} {b : Band} {v : TierValues} (ho : st ≠ s.own) (hv : ∀ t, v.get t ≤ 4095) :
    s.Runs (s.takeDraw st b v) := by
  have h1 : s.Beside { s with peers := insertPeer ⟨st, v, b, 0, false⟩ s.peers } := State.beside_peers fun h =>
    h.peers (insertPeer_sorted _ h.order) fun e he => by
      rcases mem_insertPeer he with rfl | he
      · exact ⟨ho, Nat.zero_le _, hv⟩
      · exact h.peer e he
  exact (h1.runs.aside (State.beside_setEntries fun h => h.countReport st)).trans (State.runs_peerNotice _ _)

/-! ### The Intent List (R50 to R55) -/

theorem State.runs_overflowOnset (s : State) : s.Runs s.overflowOnset :=
  (State.runs_raise .intentOverflow s).aside .quiet

/-- R50: an INTENT of another station. -/
theorem State.runs_storeIntent {e : IntentEntry} (ho : e.station ≠ s.own) (hh : e.hold = none) :
    s.Runs (s.storeIntent e) := by
  have hown : ∀ c, s.isOwnEntry c e = false := fun c => by simp [State.isOwnEntry, ho]
  have hsub : (s.intents.entries.filter fun x => !(x.station == e.station && x.channel == e.channel)).Sublist
      s.intents.entries := List.filter_sublist
  have hadd : ∀ es : List IntentEntry, es.Sublist s.intents.entries → es.length < 24 →
      (∀ x ∈ es, ¬(x.station = e.station ∧ x.channel = e.channel)) → s.Beside (s.setEntries (es ++ [e])) := by
    intro es hes hlen hne
    refine State.beside_setEntries fun h => h.entries ?_ ?_ ?_ fun c => ?_
    · rw [List.length_append]
      exact hlen
    · intro x hx
      rcases List.mem_append.1 hx with hx | hx
      · exact h.hold x (hes.subset hx)
      · rw [List.mem_singleton.1 hx, hh, beq_false_of_ne ho]
        rfl
    · refine List.pairwise_append.2 ⟨h.once.sublist hes, List.pairwise_singleton _ _, fun x hx y hy => ?_⟩
      rw [List.mem_singleton.1 hy]
      exact hne x hx
    · rw [List.filter_append, List.filter_cons_of_neg (by simp [hown c]), List.filter_nil, List.append_nil]
      exact (hes.filter _).length_le
  unfold State.storeIntent
  dsimp only
  split
  · next hlt =>
    by_cases hr : s.intents.entries.length ≤ 24
    · exact (hadd _ hsub (by omega) fun x hx hc => by simpa [hc] using (List.mem_filter.1 hx).2).runs
    · exact (State.beside_setEntries fun h => absurd h.room hr).runs
  · next hnlt =>
    split
    · next hl =>
      refine (hadd _ (List.Sublist.refl _) hl fun x hx hxe => hnlt ?_).runs
      refine lt_of_le_of_ne hsub.length_le fun he => ?_
      have := hsub.eq_of_length he
      rw [← this] at hx
      simpa [hxe] using (List.mem_filter.1 hx).2
    · exact State.runs_overflowOnset s

theorem State.moves_deferPending_of {xs zs : List TxEntry} {e : TxEntry} (h : s.txQueue = xs ++ e :: zs)
    (he : e.frame.isIntentOf c = true) : s.Moves ((s.setQueue (xs ++ zs)).deferPending c) :=
  (State.Move.loseIntent c h he).moves

/-- R51: an own INTENT has completed. -/
theorem State.runs_ownCompleted {xs zs : List TxEntry} {e : TxEntry} {tr : Tier} {b w : Nat}
    (h : s.txQueue = xs ++ e :: zs) (he : e.frame = .intent c tr b w) :
    s.Runs ((s.setQueue (xs ++ zs)).ownCompleted c tr b w) := by
  have hi : e.frame.isIntentOf c = true := by simp [he, TxFrame.isIntentOf]
  unfold State.ownCompleted
  split
  · next hl => exact (State.Move.complete c _ h hi hl ⟨rfl, rfl, rfl⟩).moves.runs
  · have h1 : s.overflowOnset.Moves ((s.overflowOnset.setQueue (xs ++ zs)).deferPending c) :=
      State.moves_deferPending_of h hi
    exact ((State.runs_overflowOnset s).moves h1).moves (State.moves_send rfl)

/-! ### Completions and expiries (R161, R162, R167) -/

theorem State.runs_endRequest (s : State) : s.Runs s.endRequest := by
  unfold State.endRequest
  split
  · exact .refl
  · split
    · split
      · exact State.Beside.runs .quiet
      · exact State.Beside.runs .quiet
    · exact .refl

theorem State.runs_completed {xs zs : List TxEntry} {e : TxEntry} (h : s.txQueue = xs ++ e :: zs) :
    s.Runs ((s.setQueue (xs ++ zs)).completed e.frame) := by
  have hdrop : s.Runs (s.setQueue (xs ++ zs)) := (State.Move.drop (by
    rw [h]
    exact List.Sublist.append (List.Sublist.refl _) (List.sublist_cons_self _ _))).moves.runs
  unfold State.completed
  split
  · next hf => exact State.runs_ownCompleted h hf
  · exact hdrop.trans (State.runs_endRequest _)
  all_goals exact hdrop

theorem State.runs_expired {xs zs : List TxEntry} {e : TxEntry} (h : s.txQueue = xs ++ e :: zs) :
    s.Runs ((s.setQueue (xs ++ zs)).expired e.frame) := by
  have hdrop : s.Runs (s.setQueue (xs ++ zs)) := (State.Move.drop (by
    rw [h]
    exact List.Sublist.append (List.Sublist.refl _) (List.sublist_cons_self _ _))).moves.runs
  unfold State.expired
  split
  · next c _ _ _ hf => exact (State.moves_deferPending_of h (c := c) (by simp [hf, TxFrame.isIntentOf])).runs
  · exact hdrop.trans (State.runs_endRequest _)
  all_goals exact hdrop

theorem State.runs_beginLoss (s : State) : s.Runs s.beginLoss := by
  have h1 : s.Runs (State.raise .isolated { s with line := { s.line with lineLoss := true } }) :=
    .trans (State.Beside.runs .quiet) (State.runs_raise _ _)
  unfold State.beginLoss
  split
  · exact .refl
  · dsimp only
    split
    all_goals
      next hm =>
      first
      | exact h1
      | exact h1.aside (State.beside_mode (by simp [State.mode] at hm ⊢; simp [hm]) (by simp) rfl rfl)

/-! ### Service requests (R167 to R171) -/

theorem State.runs_serve {st : Station} {b : Byte} {inLimp rejected : Bool} {run : State → State} (h : s.Runs (run s)) :
    s.Runs (s.serve st b inLimp rejected run) := by
  unfold State.serve
  split
  · exact .refl
  · split
    · exact (State.moves_send rfl).runs
    · split
      · exact (State.moves_send rfl).runs
      · exact h

theorem State.beside_carried (st : Station) (l : List (List Byte)) (b : Bool) (s : State) : s.Beside (s.carried st l b) :=
  .quiet

theorem State.runs_clearFlags (p : BitVec 11) (m : BitVec 20) (s : State) : s.Runs (s.clearFlags p m) := by
  unfold State.clearFlags
  refine .moves (State.Beside.runs .quiet) (State.Moves.foldl (fun s c => ?_) _ _)
  split
  · exact State.moves_modChan (.note _ _ _ _ _ _ _ _ ⟨rfl, rfl⟩)
  · exact .refl

/-- R23: what has not begun has not begun once its request has followed. -/
theorem ChannelRecord.Unbegun.follow {r : ChannelRecord} (h : r.Unbegun) : r.follow = r := by
  obtain ⟨-, hraw, heff, hov, hhold, -⟩ := h
  unfold ChannelRecord.follow
  rw [if_pos]
  simp [ChannelRecord.effectiveRequest, hov, hhold, hraw, heff]

theorem State.moves_setOverride {l d : Byte} (h : s.mode ≠ .configuring) : s.Moves (s.setOverride c l d) :=
  State.moves_ask (.mk _ _ _ _ _) fun hm => absurd hm h

theorem State.moves_endOverride (c : Channel) (s : State) : s.Moves (s.endOverride c) := by
  refine State.moves_ask (.mk _ _ _ _ _) fun _ hu => ?_
  obtain ⟨h1, h2, h3, h4, h5, h6⟩ := hu.channels c
  have : ChannelRecord.Unbegun { s.chan c with override := none } := ⟨h1, h2, h3, rfl, h5, h6⟩
  rwa [this.follow]

theorem State.moves_autoOff (c : Channel) (s : State) : s.Moves ((s.modChan c (·.autoOffExpired)).applyRequest c) := by
  refine State.moves_ask (.mk _ _ _ _ _) fun _ hu => ?_
  obtain ⟨h1, h2, h3, h4, h5, h6⟩ := hu.channels c
  have : (s.chan c).autoOffExpired.Unbegun := ⟨h1, h2, h3, h4, by simp [ChannelRecord.autoOffExpired, h2, h5], h6⟩
  rwa [this.follow]

/-! ### Commands -/

/-- The commands by which the part leaves what it does: the resets, and the end of a read. -/
def leavesMode : Instr → Bool
  | .resetRelease _ | .serviceRestart _ | .configurationReadEnd _ => true
  | _ => false

theorem next_inj {s t : State} (h : (Host.Outcome.next s : Host.Outcome State Fault Refusal) = .next t) : s = t :=
  Host.Outcome.next.inj h

/-- A command that acts where a test holds, and otherwise leaves the state as it is. -/
theorem State.runs_ite {p : Prop} [Decidable p] (h : p → s.Runs u)
    (e : (if p then (.next u : Host.Outcome State Fault Refusal) else .next s) = .next t) : s.Runs t := by
  split at e
  · next hp => exact next_inj e ▸ h hp
  · exact next_inj e ▸ .refl

/-- A command that does nothing where a test holds. -/
theorem State.runs_ite_not {p : Prop} [Decidable p] (h : ¬p → s.Runs u)
    (e : (if p then (.next s : Host.Outcome State Fault Refusal) else .next u) = .next t) : s.Runs t := by
  split at e
  · exact next_inj e ▸ .refl
  · next hp => exact next_inj e ▸ h hp

/-- A received frame is a run. -/
theorem State.runs_frame {st : Station} {take : State → State}
    (h : ∀ u : State, u.own = s.own → st ≠ u.own → u.mode ≠ .configuring → u.Runs (take u))
    (e : (.next (s.receive st take).settle : Host.Outcome State Fault Refusal) = .next t) : s.Runs t :=
  next_inj e ▸ (State.runs_receive h).settle

theorem runs_execHoldExpiry (h : execHoldExpiry c s = .next t) : s.Runs t := by
  unfold execHoldExpiry at h
  split at h
  · exact next_inj h ▸ .refl
  · next j hj =>
    split at h
    · exact next_inj h ▸ .refl
    · exact State.runs_ite (fun _ => (State.moves_decide hj).runs.settle) h

theorem runs_execWindowEnd (h : execWindowEnd c s = .next t) : s.Runs t := by
  unfold execWindowEnd at h
  split at h
  · next u hs _ =>
    split at h
    · exact next_inj h ▸ .refl
    · split at h
      · exact next_inj h ▸ (State.moves_modChan (.ending _ hs)).runs
      · exact next_inj h ▸ (State.moves_windowEnd c u s).runs.settle
  · exact next_inj h ▸ .refl

theorem runs_execPhaseTimerExpiry (h : execPhaseTimerExpiry c s = .next t) : s.Runs t := by
  unfold execPhaseTimerExpiry at h
  split at h
  · next p hs _ => exact State.runs_ite (fun _ => (State.moves_modChan (.phase p hs)).runs.settle) h
  · exact next_inj h ▸ .refl

theorem runs_execPeerEntryStale {st : Station} (h : execPeerEntryStale st s = .next t) : s.Runs t := by
  refine next_inj h ▸ State.Runs.settle (.trans (State.Beside.runs (State.beside_peers fun hs => ?_))
    (State.runs_peerNotice _ _))
  refine hs.mapPeers (fun e => ?_) (fun e => ?_) (fun e he => ?_)
  · split <;> rfl
  · split <;> rfl
  · split <;> exact he

theorem runs_execPeerEntryRemoval {st : Station} (h : execPeerEntryRemoval st s = .next t) : s.Runs t := by
  unfold execPeerEntryRemoval at h
  split at h
  · refine next_inj h ▸ State.Beside.runs (State.beside_peers fun hs => ?_)
    refine hs.mapPeers (fun e => ?_) (fun e => ?_) (fun e he => ?_)
    · split <;> rfl
    · split <;> rfl
    · split
      · exact Nat.le_refl _
      · exact he
  · exact next_inj h ▸ State.Beside.runs (State.beside_peers fun hs => hs.dropPeers List.filter_sublist)

theorem runs_execIntent {st : Station} {ch : BitVec 5} {tr : Byte} {b : BitVec 16} {w : Byte}
    (h : execIntent st ch tr b w s = .next t) : s.Runs t := by
  refine State.runs_frame (fun u _ ho _ => ?_) h
  split
  · exact .refl
  · split
    · exact State.runs_storeIntent ho rfl
    · exact .refl

theorem runs_execDraw {st : Station} {w0 w1 w2 w3 : BitVec 16} (h : execDraw st w0 w1 w2 w3 s = .next t) : s.Runs t := by
  refine State.runs_frame (fun u _ ho _ => ?_) h
  split
  · exact .refl
  · refine State.runs_takeDraw ho fun tr => ?_
    unfold TierValues.get
    split <;> exact drawBooking_le _

theorem runs_execTransmissionStart (h : execTransmissionStart s = .next t) : s.Runs t := by
  unfold execTransmissionStart at h
  split at h
  · split at h
    · exact next_inj h ▸ .refl
    · next i _ =>
      refine next_inj h ▸ (State.beside_setQueue ?_).runs
      refine List.ext_getElem? fun j => ?_
      rw [List.getElem?_map, List.getElem?_map, List.getElem?_modify]
      unfold State.txQueue
      cases s.line.queue[j]? with
      | none => rfl
      | some e =>
        simp only [Option.map_eq_map, Option.map_some]
        split <;> rfl
  · exact next_inj h ▸ .refl

/-- The first frame that a test selects, and the queue without it. -/
theorem find?_split {α : Type} {p : α → Bool} {l : List α} {a : α} (h : l.find? p = some a) :
    ∃ xs zs, l = xs ++ a :: zs ∧ p a = true ∧ (∀ x ∈ xs, p x = false) ∧ l.eraseP p = xs ++ zs := by
  obtain ⟨ha, xs, zs, rfl, hx⟩ := List.find?_eq_some_iff_append.1 h
  have hx : ∀ x ∈ xs, p x = false := fun x hm => by simpa using hx x hm
  refine ⟨xs, zs, rfl, ha, hx, ?_⟩
  rw [List.eraseP_append_right _ (by simpa using hx), List.eraseP_cons_of_pos ha]

theorem runs_execTransmissionCompletion (h : execTransmissionCompletion s = .next t) : s.Runs t := by
  unfold execTransmissionCompletion at h
  split at h
  · exact next_inj h ▸ .refl
  · next e he =>
    obtain ⟨xs, zs, hq, -, -, hr⟩ := find?_split he
    rw [hr] at h
    exact next_inj h ▸ (State.runs_completed hq).settle

theorem runs_execQueueExpiry {i : Fin 6} (h : execQueueExpiry i s = .next t) : s.Runs t := by
  unfold execQueueExpiry at h
  split at h
  · exact next_inj h ▸ .refl
  · next e he =>
    obtain ⟨xs, zs, hq, hr⟩ := eraseIdx_split he
    rw [hr] at h
    exact State.runs_ite (fun _ => (State.runs_expired hq).settle) h

theorem runs_execStatusRoll (h : execStatusRoll s = .next t) : s.Runs t :=
  State.runs_ite_not (fun _ => .aside (State.moves_requestStatus _ s).runs .quiet) h

theorem runs_execServiceReplyQueued (h : execServiceReplyQueued s = .next t) : s.Runs t := by
  unfold execServiceReplyQueued at h
  split at h
  · exact next_inj h ▸ .refl
  · next q _ =>
    split at h
    · exact next_inj h ▸ .refl
    · next d rest _ =>
      split at h
      · exact next_inj h ▸ .refl
      · next s1 ho =>
        have h1 : s.Moves s1 := by
          have := State.moves_send (s := s) (f := .reply q.requester d true) rfl
          unfold State.send at this
          rwa [ho] at this
        exact next_inj h ▸ .aside h1.runs .quiet

theorem runs_execReplyListDiscard (h : execReplyListDiscard s = .next t) : s.Runs t := by
  unfold execReplyListDiscard at h
  split at h
  · exact next_inj h ▸ .refl
  · exact State.runs_ite (fun _ => .trans (State.Beside.runs .quiet) (State.runs_endRequest _)) h

theorem runs_execReadChannel {st : Station} {b : Byte} (h : execReadChannel st b s = .next t) : s.Runs t := by
  refine State.runs_frame (fun u _ _ _ => ?_) h
  split
  · exact State.runs_serve .refl
  · exact State.runs_serve (State.beside_carried _ _ _ u).runs

theorem runs_execOverride {st : Station} {b l d : Byte} (h : execOverride st b l d s = .next t) : s.Runs t := by
  refine State.runs_frame (fun u _ _ hm => ?_) h
  split
  · exact State.runs_serve .refl
  · exact State.runs_serve (.aside (State.moves_setOverride hm).runs (State.beside_carried _ _ _ _))

/-- Every command but the resets and the read's end is a run. -/
theorem exec_runs {i : Instr} (hi : leavesMode i = false) (h : exec i s = .next t) : s.Runs t := by
  cases i with
  | resetRelease | configurationReadEnd | serviceRestart => cases hi
  | feedMeasurement b v => exact next_inj h ▸ (State.runs_measureFeed b v s).settle
  | ksupMeasurement v =>
    refine next_inj h ▸ State.Beside.runs .quiet
  | bandFall =>
    replace h : execBandFall s = .next t := h
    unfold execBandFall at h
    split at h
    · exact next_inj h ▸ .refl
    · exact State.runs_ite_not (fun _ => (State.runs_changeBand _ s).settle) h
  | bandRise =>
    replace h : execBandRise s = .next t := h
    unfold execBandRise at h
    split at h
    · exact next_inj h ▸ .refl
    · exact State.runs_ite_not (fun _ => (State.runs_changeBand _ s).settle) h
  | dieTemperatureMeasurement x => exact next_inj h ▸ (State.runs_measureDie x s).settle
  | currentSample c v x => exact next_inj h ▸ (State.moves_sample c v x s).runs.settle
  | pwmPeriodStart c => exact State.runs_ite (fun _ => (State.moves_modChan .period).runs) h
  | update c => exact State.runs_ite_not (fun _ => (State.moves_updateChannel c s).runs.settle) h
  | stall c =>
    exact State.runs_ite (fun _ => State.Runs.settle (.moves
      (State.moves_modChan (ChannelRecord.keeps_prot _ _ (by exact ⟨rfl, rfl⟩))).runs (State.moves_handFault c _ _))) h
  | openLoad c =>
    exact State.runs_ite (fun _ => State.Runs.settle (.moves
      (State.moves_modChan (ChannelRecord.keeps_prot _ _ (by exact ⟨rfl, rfl⟩))).runs (State.moves_handFault c _ _))) h
  | retryTimerExpiry c => exact State.runs_ite (fun _ => (State.moves_tryCooldownExit c s).runs.settle) h
  | cleanRunTimerExpiry c => exact State.runs_ite_not (fun _ => (State.moves_modChan .cleanRun).runs) h
  | wiredInputPinChange => exact next_inj h ▸ State.Beside.runs .quiet
  | debounceExpiry i => exact State.runs_ite (fun _ => (State.runs_debouncedChange i s).settle) h
  | ageingStep => exact State.runs_ite_not (fun _ => s.runs_ageTable.settle) h
  | signal st l => exact State.runs_frame (fun u _ _ _ => State.runs_takeSignals st l u) h
  | draw => exact runs_execDraw h
  | peerEntryStale => exact runs_execPeerEntryStale h
  | peerEntryRemoval => exact runs_execPeerEntryRemoval h
  | intent => exact runs_execIntent h
  | withdraw st ch =>
    refine State.runs_frame (fun u _ _ _ => ?_) h
    split
    · exact (State.Move.forget List.filter_sublist).moves.runs
    · exact .refl
  | overflowTimerExpiry => exact State.runs_ite (fun _ => State.Beside.runs .quiet) h
  | peerIntentAgeExpiry => exact next_inj h ▸ (State.Move.forget List.filter_sublist).moves.runs
  | otherFrameReceived => exact State.runs_frame (fun u _ _ _ => .refl) h
  | silenceTimeout =>
    replace h : execSilenceTimeout s = .next t := h
    unfold execSilenceTimeout at h
    split at h
    · exact State.runs_ite (fun _ => s.runs_beginLoss) h
    · exact next_inj h ▸ .refl
  | busOff =>
    refine next_inj h ▸ .trans (State.Beside.runs (.quiet (hf := ?_))) (State.runs_beginLoss _)
    exact (List.map_map).trans (List.map_congr_left fun _ _ => rfl)
  | busOffRecovery => exact next_inj h ▸ State.Beside.runs .quiet
  | listenExpiry =>
    exact State.runs_ite (fun hm => (State.beside_mode (l := { s.line with listen := none }) (.inl hm.1)
      PartMode.noConfusion rfl rfl).runs) h
  | holdExpiry => exact runs_execHoldExpiry h
  | budgetRound => exact State.runs_ite_not (fun _ => s.runs_periodicRound.settle) h
  | windowEnd => exact runs_execWindowEnd h
  | phaseTimerExpiry => exact runs_execPhaseTimerExpiry h
  | autoOffExpiry c => exact State.runs_ite (fun _ => (State.moves_autoOff c s).runs.settle) h
  | overrideExpiry c =>
    replace h : execOverrideExpiry c s = .next t := h
    unfold execOverrideExpiry at h
    split at h
    · exact State.runs_ite (fun _ => (State.moves_endOverride c s).runs.settle) h
    · exact next_inj h ▸ .refl
  | transmissionStart => exact runs_execTransmissionStart h
  | transmissionCompletion => exact runs_execTransmissionCompletion h
  | transmissionFailure =>
    refine next_inj h ▸ (State.beside_setQueue ?_).runs
    exact (List.map_map).trans (List.map_congr_left fun _ _ => rfl)
  | queueExpiry => exact runs_execQueueExpiry h
  | statusRoll => exact runs_execStatusRoll h
  | serviceReplyQueued => exact runs_execServiceReplyQueued h
  | replyListDiscard => exact runs_execReplyListDiscard h
  | clearFault st b =>
    exact State.runs_frame (fun u _ _ _ => State.runs_serve
      (.aside (State.moves_clearAll _ u).runs (State.beside_carried _ _ _ _))) h
  | clearEvents st p m =>
    exact State.runs_frame (fun u _ _ _ => State.runs_serve
      (.aside (State.runs_clearFlags _ _ u) (State.beside_carried _ _ _ _))) h
  | readChannel => exact runs_execReadChannel h
  | readPeers => exact State.runs_frame (fun u _ _ _ => State.runs_serve (State.beside_carried _ _ _ u).runs) h
  | readEvents => exact State.runs_frame (fun u _ _ _ => State.runs_serve (State.Beside.runs .quiet)) h
  | override => exact runs_execOverride h
  | restart => exact State.runs_frame (fun u _ _ _ => State.runs_serve (State.beside_carried _ _ _ u).runs) h
  | unknownCommand => exact State.runs_frame (fun u _ _ _ => State.runs_serve .refl) h

end Sys2Proof.Machine
end

-- ==== Proofs: writes ====
section
/-! SUPPORT. What a budget round, a band notice and the hearing of a frame write (R60, R67, R156). -/

namespace Sys2Proof.Machine

variable {s t u : State}

/-! ### Budget rounds -/

/-- `t` differs from `s` in what channel activity writes, the part event flags and the overbooked indicator alone. -/
def State.Rounds (s t : State) : Prop :=
  { (s.active t).flagged t with budget := { s.budget with overbooked := t.budget.overbooked } } = t

theorem State.Rounds.trans (h : s.Rounds t) (k : t.Rounds u) : s.Rounds u := by
  unfold State.Rounds State.flagged State.active at *
  rw [← k, ← h]

theorem State.Acts.rounds (h : s.Acts t) : s.Rounds t := by
  unfold State.Acts at h
  unfold State.Rounds State.flagged
  rw [← h]
  rfl

theorem State.rounds_raise (e : PartEvent) (s : State) : s.Rounds (s.raise e) := rfl

theorem State.rounds_judgeOverbooked (s : State) : s.Rounds s.judgeOverbooked := by
  unfold State.judgeOverbooked
  dsimp only
  split <;> rfl

theorem State.rounds_shedStage (s : State) : s.Rounds s.shedStage :=
  s.rounds_judgeOverbooked.trans (State.moves_shedStage s).acts.rounds

theorem State.rounds_takeRound (s : State) : s.Rounds s.takeRound := by
  have hreport : ∀ u : State, u.Rounds u.reportStage := fun u => (State.acts_send _ u).rounds
  unfold State.takeRound
  split
  · exact (State.Acts.refl s).rounds
  · exact s.rounds_shedStage.trans (hreport _)
  · exact s.rounds_shedStage.trans (hreport _)
  · exact (s.rounds_shedStage.trans (State.moves_restoreStages _ _).acts.rounds).trans (hreport _)
  · exact s.rounds_shedStage
  · exact hreport s

theorem State.Rounds.mode (h : s.Rounds t) : t.mode = s.mode := by rw [← h]; rfl

end Sys2Proof.Machine
end

-- ==== Proofs: step ====
section
/-! SUPPORT. One step: the front command, a reset, the read's end, or the part's own clock. What they keep. -/

namespace Sys2Proof.Machine

variable {s t u : State} {c : Channel}

/-! ### Resets (R172, R179) -/

theorem ChannelRecord.reset_unbegun (theta : Nat) (f : FaultRecord) : (ChannelRecord.reset theta f).Unbegun :=
  ⟨.inl rfl, rfl, rfl, rfl, rfl, rfl⟩

theorem ChannelRecord.reset_sound (theta : Nat) (f : FaultRecord) : (ChannelRecord.reset theta f).Sound := by
  constructor <;> simp [ChannelRecord.reset]

theorem ChannelRecord.reset_ruled (theta : Nat) (f : FaultRecord) : (ChannelRecord.reset theta f).Ruled := by
  constructor <;> simp [ChannelRecord.reset, ChannelRecord.effectiveRequest, ChannelConfig.dutyFor, ChannelState.books]

/-- The part as a reset leaves it: every record at its reset value, tables, bindings and queues empty. -/
structure State.Fresh (s : State) : Prop where
  records : ∀ c, ∃ theta f, s.chan c = .reset theta f
  bindings : s.bind.bindings = []
  sequencer : s.sequencer.queue = []
  peers : s.peers = []
  entries : s.intents.entries = []
  queue : s.line.queue = []

theorem State.Fresh.sound (h : s.Fresh) : s.Sound := by
  intro c
  obtain ⟨theta, f, e⟩ := h.records c
  rw [e]
  exact ChannelRecord.reset_sound theta f

theorem State.Fresh.ruled (h : s.Fresh) : s.Ruled where
  channels c := by
    obtain ⟨theta, f, e⟩ := h.records c
    rw [e]
    exact ChannelRecord.reset_ruled theta f
  waiting c hc := by simp [h.sequencer] at hc
  unbegun _ := by
    refine ⟨fun c => ?_, h.bindings, h.sequencer⟩
    obtain ⟨theta, f, e⟩ := h.records c
    rw [e]
    exact ChannelRecord.reset_unbegun theta f

theorem State.Fresh.announced (h : s.Fresh) (c : Channel) : s.announced c = 0 := by
  simp [State.announced_eq, h.queue, h.entries]

theorem State.Fresh.tables (h : s.Fresh) : s.TablesSound where
  order := by simp [h.peers]
  peer := by simp [h.peers]
  room := by simp [h.entries]
  hold := by simp [h.entries]
  once := by simp [h.entries]
  announcedOnce c := by simp [h.announced]
  announcing c hc := absurd (h.announced c) hc
  waiting c hc := by simp [h.sequencer] at hc

theorem State.reset_chan (c : Channel) : State.reset.chan c = .reset 0 .empty := by
  simp [State.chan, State.reset]

theorem State.reset_fresh : State.reset.Fresh :=
  ⟨fun c => ⟨0, .empty, State.reset_chan c⟩, rfl, rfl, rfl, rfl, rfl⟩

theorem State.released_chan (straps : BitVec 4) (s : State) (c : Channel) :
    (s.released straps).chan c = .reset 0 .empty := State.reset_chan c

theorem State.restarted_chan (straps : BitVec 4) (s : State) (c : Channel) :
    (s.restarted straps).chan c = .reset (s.chan c).prot.theta (s.chan c).faults := by
  simp [State.chan, State.restarted, ChannelRecord.restarted]

theorem State.released_fresh (straps : BitVec 4) (s : State) : (s.released straps).Fresh :=
  ⟨fun c => ⟨0, .empty, State.released_chan straps s c⟩, rfl, rfl, rfl, rfl, rfl⟩

theorem State.restarted_fresh (straps : BitVec 4) (s : State) : (s.restarted straps).Fresh :=
  ⟨fun c => ⟨_, _, State.restarted_chan straps s c⟩, rfl, rfl, rfl, rfl, rfl⟩

/-! ### The read's end (R174 to R178) -/

/-- R176: a record with other static fields. -/
def ChannelRecord.withCfg (k : ChannelConfig) (r : ChannelRecord) : ChannelRecord := { r with cfg := k }

theorem State.installFields_chan (f : Channel → ChannelConfig) (s : State) (c : Channel) :
    (s.installFields f).chan c = (s.chan c).withCfg (f c) := by
  simp [State.installFields, State.chan, ChannelRecord.withCfg]

theorem State.beginHeat_chan (s : State) (c : Channel) :
    s.beginHeat.chan c = (s.chan c).beginHeat s.loader.resetKind := by
  simp [State.beginHeat, State.chan]

/-- A channel that has not begun follows its rules whatever its static fields say. -/
theorem ChannelRecord.Unbegun.ruled {r : ChannelRecord} (h : r.Unbegun) (hr : r.Ruled) (k : ChannelConfig) :
    (r.withCfg k).Ruled := by
  obtain ⟨hs, -, he, -, -, hn⟩ := h
  have hb : r.state.books = false := by rcases hs with e | e <;> rw [e] <;> rfl
  have hd : r.duty = 0 := by simp [hr.duty, he, ChannelConfig.dutyFor]
  refine ⟨hr.eff, ?_, fun hx => ?_, hr.unbooked, by simp [ChannelRecord.withCfg, hn], by simp [ChannelRecord.withCfg, hn]⟩
  · simp [ChannelRecord.withCfg, hd, he, ChannelConfig.dutyFor]
  · exact absurd (hb.symm.trans hx) (by simp)

/-- R178: channels in INHIBITED return to OFF, and stay there. -/
theorem State.moves_freeAll (l : List Channel) : ∀ s : State,
    (∀ c ∈ l, (s.chan c).state = .off ∨ (s.chan c).state = .inhibited) →
    s.Moves (l.foldl (fun s c => s.enter c fun r => { r.idle .off with causes := ⟨false, false, false⟩ }) s) := by
  induction l with
  | nil => exact fun s _ => .refl
  | cons c l ih =>
    intro s h
    have hc := h c (by simp)
    have hne : (s.chan c).state ≠ .pending ∧ (s.chan c).state ≠ .latched := by
      rcases hc with e | e <;> simp [e]
    refine (State.moves_enter (.idle .off _ _ (.inl rfl) fun e => absurd e hne.2) hne.1).trans (ih _ fun d hd => ?_)
    exact State.enter_chan_cases (s := s) (P := fun r q => (r.state = .off ∨ r.state = .inhibited) →
      (q.state = .off ∨ q.state = .inhibited)) (fun _ => id) (fun _ => .inl rfl) d (h d (by simp [hd]))

theorem State.moves_freeUnused (s : State) : s.Moves s.freeUnused := by
  refine State.moves_freeAll _ s fun c hc => .inr ?_
  simpa using And.right (by simpa using (List.mem_filter.1 hc).2)

theorem State.moves_takeStored (s : State) : s.Moves s.takeStored := by
  refine State.Moves.foldl (fun s c => ?_) _ s
  split
  · next h =>
    simp only [Bool.and_eq_true, beq_iff_eq, bne_iff_ne] at h
    exact State.moves_beginRequest (ChannelRecord.not_unbegun_of_eff h.2) (by simp [h.1]) (by simp [h.1])
  · exact .refl

theorem State.moves_inhibitMarked (s : State) : s.Moves s.inhibitMarked :=
  State.Moves.foldl (fun s c => State.moves_inhibit c _ s) _ s

theorem State.moves_limpRequests (h : s.mode = .limp) : s.Moves s.limpRequests := by
  have hfold : ∀ (l : List WiredInput) (u : State), u.mode = .limp → u.Moves (l.foldl (fun s i => s.limpFollow i) u) := by
    intro l
    induction l with
    | nil => exact fun u _ => .refl
    | cons i l ih =>
      intro u hu
      have h1 := State.moves_limpFollow i hu
      exact h1.trans (ih _ (h1.acts.mode.trans hu))
  exact hfold _ s h

@[simp] theorem State.leaveConfiguring_mode (m : PartMode) (s : State) : (s.leaveConfiguring m).mode = m := rfl

/-- What the runs of the read's end keep: beside the runs of the other commands it fills in values, begins the heat
model, and leaves CONFIGURING. The static fields are left to `State.judgeImage_keeps`. -/
structure State.ReadKeeps (I : State → Prop) : Prop where
  runs : ∀ {s t : State}, s.Runs t → I s → I t
  values : ∀ {s : State} (b : BudgetUnit) (v : ServiceUnit) (m : BindingMap), I s →
    I { s with budget := b, service := v, bind := m }
  heat : ∀ {s : State}, I s → I s.beginHeat
  leave : ∀ {s : State} (m : PartMode), I s → I (s.leaveConfiguring m)

theorem State.beside_service (v : ServiceUnit) (s : State) : s.Beside { s with service := v } := .quiet
theorem State.beside_setThresholds (t : Thresholds) (s : State) : s.Beside (s.setThresholds t) := .quiet
theorem State.beside_setMasks (p : BitVec 11) (m : BitVec 20) (s : State) : s.Beside (s.setMasks p m) := .quiet

variable {I : State → Prop}

theorem State.ReadKeeps.enterListening (k : State.ReadKeeps I) (h : I s) : I s.enterListening := by
  have h1 := k.runs (State.Beside.runs (t := { s.leaveConfiguring .listening with
    line := { (s.leaveConfiguring .listening).line with listen := some Config.listenMs } }) .quiet) (k.leave .listening h)
  exact k.runs ((State.runs_setWorst _).trans (State.runs_takeRound _)) h1

/-- R176: the installation. -/
theorem State.ReadKeeps.install (k : State.ReadKeeps I) (image : List Byte)
    (h : I (s.installFields (channelConfig image))) : I (s.install image) := by
  have h1 : I (s.installImage image) := by
    unfold State.installImage
    dsimp only
    split
    · exact k.runs (State.runs_raise _ _) (k.values _ _ _ h)
    · exact k.values _ _ _ h
  have h2 : I (s.installImage image).buildTable :=
    k.runs (.moves (State.Beside.runs .quiet) (State.Moves.foldl (fun s c => State.moves_reevaluate c s) _ _)) h1
  have h4 := k.heat (k.runs (State.beside_setThresholds (headerThresholds image) _).runs h2)
  have h6 := k.runs ((State.beside_setMasks (headerPartMask image) (headerChannelMask image) _).runs.moves
    (State.moves_inhibitMarked _)) h4
  exact k.runs (State.moves_takeStored _).runs (k.enterListening h6)

/-- R178: the built-in values, before the part leaves CONFIGURING. -/
def State.limpValues (s : State) : State :=
  let s1 := ((s.raise .limp).installFields limpConfig).freeUnused
  let s2 := { s1 with service := { s1.service with mask := BitVec.allOnes 16 } }
  (s2.setThresholds ⟨270, 240, 200⟩).beginHeat.setMasks (BitVec.allOnes 11) (BitVec.allOnes 20)

theorem State.enterLimp_eq (s : State) : s.enterLimp = (s.limpValues.leaveConfiguring .limp).takeRound.limpRequests := rfl

theorem State.runs_limpRound (s : State) :
    (s.leaveConfiguring .limp).Runs (s.leaveConfiguring .limp).takeRound.limpRequests :=
  (State.runs_takeRound _).moves (State.moves_limpRequests (State.rounds_takeRound _).mode)

theorem State.ReadKeeps.limpValues (k : State.ReadKeeps I) (h : I ((s.raise .limp).installFields limpConfig)) :
    I s.limpValues := by
  have h1 := k.runs (State.moves_freeUnused _).runs h
  have h2 := k.runs (State.beside_service { ((s.raise .limp).installFields limpConfig).freeUnused.service with
    mask := BitVec.allOnes 16 } _).runs h1
  have h3 := k.heat (k.runs (State.beside_setThresholds ⟨270, 240, 200⟩ _).runs h2)
  exact k.runs (State.beside_setMasks (BitVec.allOnes 11) (BitVec.allOnes 20) _).runs h3

/-- R178: the entry to LIMP. -/
theorem State.ReadKeeps.enterLimp (k : State.ReadKeeps I) (h : I ((s.raise .limp).installFields limpConfig)) :
    I s.enterLimp := by
  rw [State.enterLimp_eq]
  exact k.runs (State.runs_limpRound _) (k.leave .limp (k.limpValues h))

/-- R174: the read's end. -/
theorem State.judgeImage_keeps (k : State.ReadKeeps I) (image : List Byte)
    (h : ∀ (u : State) f, s.Beside u → I (u.installFields f)) : I (s.judgeImage image) := by
  unfold State.judgeImage
  dsimp only
  split
  · exact k.install image (h _ _ .quiet)
  · exact k.enterLimp (h _ _ .quiet)

theorem State.ReadKeeps.and {J : State → Prop} (k : State.ReadKeeps I) (l : State.ReadKeeps J) :
    State.ReadKeeps fun s => I s ∧ J s where
  runs m h := ⟨k.runs m h.1, l.runs m h.2⟩
  values b v m h := ⟨k.values b v m h.1, l.values b v m h.2⟩
  heat h := ⟨k.heat h.1, l.heat h.2⟩
  leave m h := ⟨k.leave m h.1, l.leave m h.2⟩

theorem ChannelRecord.Sound.setCfg {r : ChannelRecord} (h : r.Sound) (k : ChannelConfig) :
    (r.withCfg k).Sound :=
  h.congr rfl (fun _ => ⟨rfl, rfl⟩) rfl rfl rfl id id fun _ => .inl rfl

theorem ChannelRecord.Sound.beginHeat {r : ChannelRecord} (h : r.Sound) (k : Option ResetKind) : (r.beginHeat k).Sound :=
  h.congr rfl (fun _ => ⟨rfl, rfl⟩) rfl rfl rfl id id fun _ => .inl rfl

theorem State.readKeeps_sound : State.ReadKeeps State.Sound where
  runs m h := m.sound h
  values _ _ _ h := h
  heat {s} h c := by
    rw [State.beginHeat_chan]
    exact (h c).beginHeat _
  leave _ h := h

/-- The rules of `State.Ruled` that do not speak of CONFIGURING. -/
def State.RuledCore (s : State) : Prop := s.Waiting ∧ ∀ c, (s.chan c).Ruled

theorem State.Runs.ruledCore (h : s.Runs t) : s.RuledCore → t.RuledCore := by
  induction h with
  | refl => exact id
  | moves _ m ih => exact fun hs => m.ruled (ih hs)
  | aside _ b ih =>
    intro hs
    obtain ⟨hw, hr⟩ := ih hs
    exact ⟨hw.congr (by rw [b.sequencer]) fun c => by rw [b.chan], fun c => by
      rw [b.chan]
      exact hr c⟩

theorem ChannelRecord.Ruled.beginHeat {r : ChannelRecord} (h : r.Ruled) (k : Option ResetKind) : (r.beginHeat k).Ruled :=
  h.congr rfl rfl rfl rfl rfl rfl rfl (.inl rfl)

theorem State.readKeeps_ruledCore : State.ReadKeeps State.RuledCore where
  runs m h := m.ruledCore h
  values _ _ _ h := h
  heat h := by
    obtain ⟨hw, hr⟩ := h
    exact ⟨hw.congr rfl fun c => by rw [State.beginHeat_chan]; rfl, fun c => by
      rw [State.beginHeat_chan]
      exact (hr c).beginHeat _⟩
  leave _ h := h

theorem State.readKeeps_tables : State.ReadKeeps State.TablesSound where
  runs m h := m.tables h
  values _ _ _ h := h.congr rfl rfl rfl rfl rfl rfl
  heat h := h.congrStates (fun c => by rw [State.beginHeat_chan]; rfl) rfl rfl rfl rfl rfl
  leave _ h := h.congr rfl rfl rfl rfl rfl rfl

theorem State.enterListening_mode (s : State) : s.enterListening.mode = .listening := by
  have hw : ∀ u : State, u.setWorst.mode = u.mode := fun u => by
    unfold State.setWorst
    split <;> rfl
  exact (State.rounds_takeRound _).mode.trans (hw _)

theorem State.enterLimp_mode (s : State) : s.enterLimp.mode = .limp := by
  have hround := (State.rounds_takeRound (s.limpValues.leaveConfiguring .limp)).mode
  rw [State.enterLimp_eq, (State.moves_limpRequests hround).acts.mode, hround, State.leaveConfiguring_mode]

/-- R174: the read's end leaves CONFIGURING. -/
theorem State.judgeImage_mode (image : List Byte) (s : State) :
    (s.judgeImage image).mode = if imageVerdict image = .memory then .listening else .limp := by
  unfold State.judgeImage
  dsimp only
  split
  · exact (State.moves_takeStored _).acts.mode.trans (State.enterListening_mode _)
  · exact State.enterLimp_mode _

theorem State.judgeImage_sound (image : List Byte) (h : s.Sound) : (s.judgeImage image).Sound :=
  State.judgeImage_keeps State.readKeeps_sound image fun u f b c => by
    rw [State.installFields_chan]
    exact ((b.sound h) c).setCfg _

/-- What the installation of the static fields leaves. -/
theorem State.installFields_rest (f : Channel → ChannelConfig) (s : State) :
    (s.installFields f).sequencer = s.sequencer ∧ (s.installFields f).peers = s.peers ∧ (s.installFields f).own = s.own
      ∧ (s.installFields f).intents = s.intents ∧ (s.installFields f).line = s.line := by
  unfold State.installFields State.own
  exact ⟨rfl, rfl, rfl, rfl, rfl⟩

theorem State.TablesSound.installFields (h : s.TablesSound) (f : Channel → ChannelConfig) :
    (s.installFields f).TablesSound := by
  obtain ⟨hq, hp, ho, hi, hl⟩ := State.installFields_rest f s
  refine h.congrStates (fun c => ?_) hq hp ho (by rw [hi]) (by rw [hl])
  rw [State.installFields_chan f s c]
  simp only [ChannelRecord.withCfg]

theorem State.judgeImage_tables (image : List Byte) (h : s.TablesSound) : (s.judgeImage image).TablesSound :=
  State.judgeImage_keeps State.readKeeps_tables image fun _ f b => (b.tables h).installFields f

theorem State.judgeImage_ruled (image : List Byte) (hm : s.mode = .configuring) (h : s.Ruled) :
    (s.judgeImage image).Ruled := by
  have hu := h.unbegun hm
  have hcore : (s.judgeImage image).RuledCore := State.judgeImage_keeps State.readKeeps_ruledCore image fun u f b => by
    refine ⟨fun c hc => ?_, fun c => ?_⟩
    · replace hc : c ∈ u.sequencer.queue := hc
      rw [b.sequencer, hu.queue] at hc
      cases hc
    · rw [State.installFields_chan, b.chan]
      exact (hu.channels c).ruled (h.channels c) _
  refine ⟨hcore.2, hcore.1, fun e => ?_⟩
  rw [State.judgeImage_mode] at e
  split at e <;> cases e

/-! ### The part's own clock (log 1) -/

theorem State.passMs_chan (s : State) (c : Channel) : s.passMs.chan c = (s.chan c).passMs := by
  simp [State.passMs, State.chan]

theorem ChannelRecord.keeps_passMs (r : ChannelRecord) : r.Keeps r.passMs := .pass

theorem State.passMs_sound (h : s.Sound) : s.passMs.Sound := by
  intro c
  rw [State.passMs_chan]
  exact (ChannelRecord.keeps_passMs _).sound (h c)

theorem State.passMs_ruled (h : s.Ruled) : s.passMs.Ruled where
  channels c := by
    rw [State.passMs_chan]
    exact (ChannelRecord.keeps_passMs _).ruled (h.channels c)
  waiting c hc := by
    rw [State.passMs_chan, (ChannelRecord.keeps_passMs _).state_eq]
    exact h.waiting c hc
  unbegun hm := by
    obtain ⟨hu, hb, hq⟩ := h.unbegun hm
    refine ⟨fun c => ?_, hb, hq⟩
    rw [State.passMs_chan]
    exact (ChannelRecord.keeps_passMs _).unbegun (hu c)

theorem State.passMs_frames (s : State) : s.passMs.line.queue.map (·.frame) = s.line.queue.map (·.frame) :=
  (List.map_map).trans (List.map_congr_left fun _ _ => rfl)

theorem State.TablesSound.passPeers (h : s.TablesSound) : State.TablesSound { s with peers := s.peers.map (·.passMs) } :=
  h.mapPeers (fun _ => rfl) (fun _ => rfl) fun _ _ => Nat.min_le_right _ _

theorem State.TablesSound.passEntries (h : s.TablesSound) :
    (s.setEntries (s.intents.entries.map (·.passMs))).TablesSound := by
  refine h.entries ((List.length_map _).trans_le h.room) (fun e he => ?_) ?_ fun c => ?_
  · obtain ⟨x, hx, rfl⟩ := List.mem_map.1 he
    exact Option.isSome_map.trans (h.hold x hx)
  · rw [List.pairwise_map]
    exact h.once
  · rw [List.filter_map, List.length_map]
    exact Nat.le_refl _

theorem State.passMs_tables (h : s.TablesSound) : s.passMs.TablesSound :=
  h.passPeers.passEntries.congrStates (fun c => by
    rw [State.passMs_chan, (ChannelRecord.keeps_passMs _).state_eq]
    rfl) rfl rfl rfl rfl s.passMs_frames

/-! ### A step -/

/-- A step keeps what runs, resets, the read's end and a millisecond keep. -/
theorem step_keeps {I : State → Prop} (runs : ∀ {s t : State}, s.Runs t → I s → I t)
    (fresh : ∀ {t : State}, t.Fresh → I t)
    (read : ∀ {s : State} (image : List Byte), s.mode = .configuring → I s → I (s.judgeImage image))
    (pass : ∀ {s : State}, I s → I s.passMs) (hs : I s) (h : step s = .next t) : I t := by
  have hpending : ∀ {u : State} (p : List Instr), I u → I { u with pending := p } :=
    fun p hu => runs (State.Beside.runs .quiet) hu
  unfold step at h
  split at h
  · rw [← next_inj h]
    unfold State.idleStep
    split
    · exact hpending _ (pass hs)
    · exact hpending _ hs
  · next i rest _ =>
    have hu : I { s with pending := rest } := hpending rest hs
    cases hi : leavesMode i with
    | false => exact runs (exec_runs hi h) hu
    | true =>
      cases i with
      | resetRelease straps =>
        rw [← next_inj h]
        exact fresh (State.released_fresh _ _)
      | serviceRestart straps =>
        rw [← next_inj h]
        exact fresh (State.restarted_fresh _ _)
      | configurationReadEnd image =>
        replace h : execConfigurationReadEnd image { s with pending := rest } = .next t := h
        unfold execConfigurationReadEnd at h
        split at h
        · cases h
        · split at h
          · next hm =>
            rw [← next_inj h]
            exact runs (State.Runs.refl.settle) (read image hm hu)
          · rw [← next_inj h]
            exact hu
      | _ => cases hi

end Sys2Proof.Machine

/-- Settles O4: every move, change and millisecond keeps each record sound. -/
theorem everyStepKeepsChannelsSound : Obligations.EveryStepKeepsChannelsSound := fun _ _ hs h =>
  Sys2Proof.Machine.step_keeps Sys2Proof.Machine.State.Runs.sound Sys2Proof.Machine.State.Fresh.sound
    (fun image _ => Sys2Proof.Machine.State.judgeImage_sound image) Sys2Proof.Machine.State.passMs_sound hs h

/-- Settles O5: every move follows the rules once the slot queue holds channels in SLOTWAIT alone; the static fields change
only while nothing has begun. -/
theorem everyStepKeepsBookingRules : Obligations.EveryStepKeepsBookingRules := fun _ _ hs h =>
  Sys2Proof.Machine.step_keeps Sys2Proof.Machine.State.Runs.ruled Sys2Proof.Machine.State.Fresh.ruled
    Sys2Proof.Machine.State.judgeImage_ruled Sys2Proof.Machine.State.passMs_ruled hs h

/-- Settles O8: an announcement is undone wherever its channel leaves PENDING. -/
theorem everyStepKeepsTablesSound : Obligations.EveryStepKeepsTablesSound := fun _ _ hs h =>
  Sys2Proof.Machine.step_keeps Sys2Proof.Machine.State.Runs.tables Sys2Proof.Machine.State.Fresh.tables
    (fun image _ => Sys2Proof.Machine.State.judgeImage_tables image) Sys2Proof.Machine.State.passMs_tables hs h
end

-- ==== Proofs: resets ====
section
/-! PROOFS. Resets (R172, R173, R179, R180): O11 and O12. -/

namespace Sys2Proof.Machine

variable {s t : State}

theorem ChannelRecord.reset_heatSound {theta : Nat} (h : theta ≤ 1046529) (f : FaultRecord) :
    (ChannelRecord.reset theta f).HeatSound where
  samples := by simp [ChannelRecord.reset, Protection.reset]
  theta := h

theorem ChannelRecord.reset_atReset (theta : Nat) (f : FaultRecord) : (ChannelRecord.reset theta f).AtReset := by
  constructor <;> simp [ChannelRecord.reset, Protection.reset]

theorem State.Fresh.slots (h : s.Fresh) (h0 : s.sequencer.slot0 = none) (h1 : s.sequencer.slot1 = none) : s.SlotsSound where
  slot0 c hc := by simp [h0] at hc
  slot1 c hc := by simp [h1] at hc
  distinct c hc := by simp [h0] at hc
  waiting c := by
    obtain ⟨theta, f, e⟩ := h.records c
    simp [h.sequencer, e, ChannelRecord.reset]
  once := by simp [h.sequencer]
  order := by simp [h.sequencer]
  handed hn := absurd h.sequencer hn
  configuring _ := h.sequencer

theorem State.Fresh.queueSound (h : s.Fresh) : s.QueueSound := by
  constructor <;> simp [State.queued, h.queue]

theorem State.reset_bandSound : State.reset.BandSound where
  order th ht := by cases ht
  range := ⟨by decide, by decide⟩
  apart := .inl rfl
  band _ := rfl
  worst _ k hk := by cases hk
  unset _ := ⟨rfl, rfl, rfl⟩

/-- R164: nothing is alerted where no flag is set and no channel is masked in. -/
theorem State.alert_eq_false (hf : s.events.flags = 0) (hm : s.events.channelMask = 0) : s.alert = false := by
  simp [State.alert, hf, hm]

theorem State.released_atReset (straps : BitVec 4) (s : State) : s.AtReset straps (s.released straps) where
  mode := rfl
  station := by
    have := straps.isLt
    simp [State.released]
    omega
  source := rfl
  records c := by
    rw [State.released_chan]
    exact ChannelRecord.reset_atReset 0 .empty
  echoes := rfl
  map := rfl
  inputs i := by simp [State.released, WiredInputState.atReset, Config.debounceMs]
  peers := rfl
  intents := rfl
  budget := rfl
  slots := rfl
  feeds b := by
    fin_cases b <;> rfl
  band := ⟨rfl, rfl, rfl, rfl⟩
  temp := rfl
  line := rfl
  events := rfl
  alert := State.alert_eq_false rfl rfl
  service := ⟨rfl, rfl⟩

theorem State.restarted_atReset (straps : BitVec 4) (s : State) : s.AtReset straps (s.restarted straps) :=
  { State.released_atReset straps s with
    alert := State.alert_eq_false rfl rfl
    records := fun c => by
      rw [State.restarted_chan]
      exact ChannelRecord.reset_atReset _ _ }

end Sys2Proof.Machine

/-- Settles O11: the reset state is empty, and emptiness has every property. -/
theorem resetIsSound : Obligations.ResetIsSound := by
  open Sys2Proof.Machine in
  refine ⟨State.reset_fresh.sound, State.reset_fresh.ruled, State.reset_fresh.slots rfl rfl, State.reset_fresh.queueSound,
    State.reset_fresh.tables, State.reset_bandSound, fun c => ?_⟩
  rw [Sys2Proof.Machine.State.reset_chan]
  exact Sys2Proof.Machine.ChannelRecord.reset_heatSound (Nat.zero_le _) _

/-- Settles O12. -/
theorem resetsRestoreEveryBlock : Obligations.ResetsRestoreEveryBlock := by
  intro straps s
  refine ⟨⟨_, rfl, Sys2Proof.Machine.State.released_atReset straps s, rfl, fun c => ?_⟩,
    ⟨_, rfl, Sys2Proof.Machine.State.restarted_atReset straps s, rfl, fun c => ?_⟩⟩
  · rw [Sys2Proof.Machine.State.released_chan]
    exact ⟨rfl, rfl⟩
  · rw [Sys2Proof.Machine.State.restarted_chan]
    exact ⟨rfl, rfl⟩
end

-- ==== Proofs: frame ====
section
/-! SUPPORT. The frame of every command (O3): relations of the form "what `t` writes over `s` gives `t`", each closed under
composition, from the shared operations up to the commands. -/

namespace Sys2Proof.Machine

variable {s t u : State} {c : Channel}

/-! ### Activity and event flags -/

/-- `t` differs from `s` in what channel activity writes and the part event flags alone. -/
def State.Stirs (s t : State) : Prop := (s.active t).flagged t = t

theorem State.Stirs.trans (h : s.Stirs t) (k : t.Stirs u) : s.Stirs u := by
  unfold State.Stirs State.flagged State.active at *
  rw [← k, ← h]

theorem State.Acts.stirs (h : s.Acts t) : s.Stirs t := by
  unfold State.Acts at h
  rw [← h]
  rfl

theorem State.stirs_raise (e : PartEvent) (s : State) : s.Stirs (s.raise e) := rfl

theorem State.stirs_feedLoss (b : Bank) (s : State) : s.Stirs (s.feedLoss b) :=
  (State.moves_inhibitAll _ _ s).acts.stirs.trans (State.stirs_raise _ _)

theorem State.stirs_clearFlags (p : BitVec 11) (m : BitVec 20) (s : State) : s.Stirs (s.clearFlags p m) := by
  have h1 : s.Stirs { s with events := { s.events with flags := s.events.flags &&& ~~~p } } := rfl
  refine h1.trans (State.Acts.stirs (State.acts_foldl _ (fun s c => ?_) _ _))
  split
  · exact s.acts_modChan c _
  · exact State.Acts.refl s

/-! ### Band notices (R60) -/

/-- `t` differs from `s` in what a change of a supply band writes alone. -/
def State.Bands (s t : State) : Prop := s.banded t = t

theorem State.Bands.trans (h : s.Bands t) (k : t.Bands u) : s.Bands u := by
  unfold State.Bands State.banded State.flagged State.active at *
  rw [← k, ← h]

theorem State.Rounds.bands (h : s.Rounds t) : s.Bands t := by
  unfold State.Rounds at h
  rw [← h]
  rfl

theorem State.Acts.bands (h : s.Acts t) : s.Bands t := h.rounds.bands

theorem State.bands_setWorst (s : State) : s.Bands s.setWorst := by
  unfold State.setWorst
  split <;> rfl

theorem State.bands_bandNotice (s : State) : s.Bands s.bandNotice := by
  unfold State.bandNotice
  dsimp only
  split
  · exact s.bands_setWorst.trans ((State.rounds_raise _ _).trans (State.rounds_takeRound _)).bands
  · exact s.bands_setWorst

theorem State.bands_peerNotice (b : Option Band) (s : State) : s.Bands (s.peerNotice b) := by
  unfold State.peerNotice
  split
  · exact (State.Acts.refl s).bands
  · exact s.bands_bandNotice

/-! ### Frames received (R156) -/

/-- `s` with what hearing a frame writes taken from `t`, the peers whatever they are. -/
def State.hearsOf (s t : State) : State :=
  { (s.active t).flagged t with
    loader := { s.loader with mode := t.loader.mode }
    peers := t.peers
    line := { t.line with busOff := s.line.busOff } }

/-- `t` differs from `s` in what hearing a frame writes alone. -/
structure State.Hears (s t : State) : Prop where
  rest : s.hearsOf t = t
  peers : ∃ p, t.peers = s.peers.filter p

/-- What is left of a list, told by what is left. -/
theorem filter_contains_filter {α : Type} [BEq α] [LawfulBEq α] (l : List α) (p : α → Bool) :
    l.filter (fun e => (l.filter p).contains e) = l.filter p :=
  List.filter_congr fun e he => by
    rw [List.contains_eq_mem]
    simp [List.mem_filter, he]

/-- The peers of `hearsOf` are those of `heardOf` where peers have but gone. -/
theorem State.heardOf_eq (h : ∃ p, t.peers = s.peers.filter p) : s.heardOf t = s.hearsOf t := by
  obtain ⟨p, hp⟩ := h
  unfold State.heardOf State.hearsOf
  rw [hp, filter_contains_filter]

theorem State.Hears.refl (s : State) : s.Hears s := ⟨rfl, fun _ => true, by simp⟩

theorem State.Acts.hears (h : s.Acts t) : s.Hears t := by
  refine ⟨?_, fun _ => true, by simp [h.peers]⟩
  unfold State.Acts at h
  rw [← h]
  rfl

theorem State.Hears.trans (h : s.Hears t) (k : t.Hears u) : s.Hears u := by
  refine ⟨?_, ?_⟩
  · have h := h.rest
    have k := k.rest
    unfold State.hearsOf State.flagged State.active at *
    rw [← k, ← h]
  · obtain ⟨p, hp⟩ := h.peers
    obtain ⟨q, hq⟩ := k.peers
    exact ⟨_, by rw [hq, hp, List.filter_filter]⟩

theorem State.hears_heard (s : State) : s.Hears s.heard := ⟨rfl, fun _ => true, by simp [State.heard]⟩

theorem State.hears_dropHeldPeers (s : State) : s.Hears s.dropHeldPeers := ⟨rfl, _, rfl⟩

/-- A change of the part mode and of the line. -/
theorem State.hears_mode (m : PartMode) {l : LineInterface} (hl : l.busOff = s.line.busOff) :
    s.Hears { s.setMode m with line := l } := by
  refine ⟨?_, fun _ => true, by simp⟩
  unfold State.hearsOf
  rw [← hl]
  rfl

theorem State.hears_endIsolation (s : State) : s.Hears s.endIsolation := by
  unfold State.endIsolation
  split
  · exact (s.hears_dropHeldPeers.trans (State.hears_mode _ (by rfl))).trans (State.acts_setQueue _ _).hears
  · exact .refl s

theorem State.hears_enterClashed (s : State) : s.Hears s.enterClashed := by
  have hmove : ∀ u : State,
      u.Hears ({ u.setMode .clashed with line := { u.line with listen := none } } : State).holdBack.discardIntents :=
    fun u => ((State.hears_mode .clashed (l := { u.line with listen := none }) rfl).trans
      (State.acts_setQueue _ _).hears).trans (State.acts_discardIntents _).hears
  unfold State.enterClashed
  dsimp only
  split
  · exact s.hears_dropHeldPeers.trans (hmove _)
  · exact hmove s

theorem State.hears_clashFrame (s : State) : s.Hears s.clashFrame := by
  have h1 : s.Hears (State.raise .clash { s with line := { s.line with clashMark := true } }) :=
    ⟨rfl, fun _ => true, by simp⟩
  unfold State.clashFrame
  split
  · exact .refl s
  · dsimp only
    split
    · exact h1.trans (State.hears_enterClashed _)
    · exact h1.trans (State.hears_enterClashed _)
    · exact h1.trans (State.hears_enterClashed _)
    all_goals exact h1

/-- R156: a received frame is dropped or heard, or heard and handed to its block. -/
theorem State.receive_cases (st : Station) (take : State → State) (s : State) :
    s.Hears (s.receive st take) ∨ ∃ u, s.Hears u ∧ s.receive st take = take u := by
  unfold State.receive
  split
  · exact .inl (.refl s)
  · split
    · exact .inl (s.hears_heard.trans (State.hears_clashFrame _))
    · exact .inr ⟨_, s.hears_heard.trans (State.hears_endIsolation _), rfl⟩

/-- The frame of a received frame: what hearing writes, what its block writes, and what follows. -/
theorem State.frame_of_receive {R : State → State → Prop} {st : Station} {take : State → State}
    (hears : ∀ {u}, s.Hears u → R s u) (take_of : ∀ {u}, s.Hears u → R s (take u))
    (acts : ∀ {u v}, R s u → u.Acts v → R s v)
    (e : (.next (s.receive st take).settle : Host.Outcome State Fault Refusal) = .next t) : R s t := by
  rw [← next_inj e]
  refine acts ?_ (State.acts_settle _)
  rcases State.receive_cases st take s with h | ⟨u, h, he⟩
  · exact hears h
  · rw [he]
    exact take_of h

end Sys2Proof.Machine
end

-- ==== Proofs: frame2 ====
section
namespace Sys2Proof.Machine

variable {s t u : State} {c : Channel} {i : Instr}

/-! ### The frames of frames -/

/-- Nothing but what hearing a frame writes. -/
theorem State.Hears.heardOf (h : s.Hears t) : s.heardOf t = t := by
  rw [State.heardOf_eq h.peers]
  exact h.rest

/-- `t` differs from `s` in what hearing a frame and a SIGNAL's entries write alone (R27, R28). -/
structure State.Signals (s t : State) : Prop where
  rest : { s.hearsOf t with
    bind := { s.bind with bindings := t.bind.bindings, table := t.bind.table, foreign := t.bind.foreign } } = t
  peers : ∃ p, t.peers = s.peers.filter p

theorem State.Hears.signals (h : s.Hears t) : s.Signals t := by
  refine ⟨?_, h.peers⟩
  have h := h.rest
  unfold State.hearsOf at *
  rw [← h]
  rfl

theorem State.Signals.stirs (h : s.Signals t) (k : t.Stirs u) : s.Signals u := by
  unfold State.Stirs at k
  refine ⟨?_, by rw [← k]; exact h.peers⟩
  have h := h.rest
  unfold State.hearsOf State.flagged State.active at *
  rw [← k, ← h]

theorem State.Signals.table (h : s.Signals t) (l : List SignalEntry) :
    s.Signals { t with bind := { t.bind with table := l } } := by
  refine ⟨?_, h.peers⟩
  have h := h.rest
  unfold State.hearsOf at *
  rw [← h]
  rfl

theorem State.Signals.foreign (h : s.Signals t) (p : Option (Byte × Station)) :
    s.Signals { t with bind := { t.bind with foreign := p } } := by
  refine ⟨?_, h.peers⟩
  have h := h.rest
  unfold State.hearsOf at *
  rw [← h]
  rfl

theorem State.Signals.takeSignal (h : s.Signals t) (st : Station) (n v : Byte) : s.Signals (t.takeSignal st n v) := by
  have hev : ∀ (l : List Channel) (u : State), u.Stirs (l.foldl (fun s c => s.reevaluate c) u) :=
    fun l u => (State.acts_foldl _ (fun s c => State.acts_reevaluate c s) l u).stirs
  have hno : ∀ (l : List Channel) (u : State), u.Stirs (l.foldl (fun s c => s.notice c) u) :=
    fun l u => (State.acts_foldl _ (fun s c => (State.moves_notice c s).acts) l u).stirs
  unfold State.takeSignal
  dsimp only
  refine State.Signals.stirs ?_ (hev _ _)
  split
  · exact h.table _
  · exact (h.table _).stirs (hno _ _)

theorem State.Signals.foreignOnset (h : s.Signals t) (st : Station) (n : Byte) : s.Signals (t.foreignOnset st n) := by
  unfold State.foreignOnset
  dsimp only
  split
  · exact h.stirs (State.stirs_raise _ _)
  · exact (h.foreign _).stirs (State.stirs_raise _ _)

theorem State.Signals.takeSignals (h : s.Signals t) (st : Station) (l : List (Byte × Byte)) :
    s.Signals (t.takeSignals st l) := by
  have hfold : ∀ (l : List (Byte × Byte)) (t : State), s.Signals t → s.Signals (l.foldl (fun s p => s.signalEntry st p) t) := by
    intro l
    induction l with
    | nil => exact fun t h => h
    | cons p l ih =>
      intro t h
      refine ih _ ?_
      unfold State.signalEntry
      dsimp only
      split
      · exact h
      · split
        · exact h.takeSignal st _ _
        · exact h.foreignOnset st _
  unfold State.takeSignals
  split
  · exact h
  · exact hfold l t h

theorem frame_execSignal {st : Station} {l : List (Byte × Byte)} (h : execSignal st l s = .next t) :
    s.writtenBy (.signal st l) t = t := by
  have hs : s.Signals t := State.frame_of_receive State.Hears.signals (fun h => h.signals.takeSignals st l)
    (fun h k => h.stirs k.stirs) h
  have := hs.rest
  rwa [← State.heardOf_eq hs.peers] at this

/-- `t` differs from `s` in what hearing a frame and a DRAW write alone (R43). -/
def State.Draws (s t : State) : Prop := { s.hearsOf t with budget := (s.banded t).budget } = t

theorem State.Hears.draws (h : s.Hears t) : s.Draws t := by
  have h := h.rest
  unfold State.Draws State.hearsOf at *
  rw [← h]
  rfl

theorem State.Draws.bands (h : s.Draws t) (k : t.Bands u) : s.Draws u := by
  unfold State.Bands State.Draws State.hearsOf State.banded State.flagged State.active at *
  rw [← k, ← h]

theorem State.Draws.peers (h : s.Draws t) (ps : List PeerEntry) : s.Draws { t with peers := ps } := by
  unfold State.Draws at *
  rw [← h]
  rfl

theorem frame_execDraw {st : Station} {w0 w1 w2 w3 : BitVec 16} (h : execDraw st w0 w1 w2 w3 s = .next t) :
    s.writtenBy (.draw st w0 w1 w2 w3) t = t := by
  refine State.frame_of_receive (R := State.Draws) State.Hears.draws (fun {u} h => ?_) (fun h k => h.bands k.bands) h
  split
  · exact h.draws
  · unfold State.takeDraw
    dsimp only
    exact ((h.draws.peers _).bands (State.acts_setEntries _ _).bands).bands (State.bands_peerNotice _ _)

/-- `t` differs from `s` in what hearing a frame and an INTENT or WITHDRAW write alone (R50, R53). -/
structure State.Intends (s t : State) : Prop where
  rest : { s.hearsOf t with intents := t.intents } = t
  peers : ∃ p, t.peers = s.peers.filter p

theorem State.Hears.intends (h : s.Hears t) : s.Intends t := by
  refine ⟨?_, h.peers⟩
  have h := h.rest
  unfold State.hearsOf at *
  rw [← h]
  rfl

theorem State.Intends.stirs (h : s.Intends t) (k : t.Stirs u) : s.Intends u := by
  unfold State.Stirs at k
  refine ⟨?_, by rw [← k]; exact h.peers⟩
  have h := h.rest
  unfold State.hearsOf State.flagged State.active at *
  rw [← k, ← h]

theorem State.Intends.overflow (h : s.Intends t) (n : Option Nat) :
    s.Intends { t with intents := { t.intents with overflow := n } } := by
  refine ⟨?_, h.peers⟩
  have h := h.rest
  unfold State.hearsOf at *
  rw [← h]
  rfl

theorem State.Intends.storeIntent (h : s.Intends t) (e : IntentEntry) : s.Intends (t.storeIntent e) := by
  have hset : ∀ es, s.Intends (t.setEntries es) := fun es => h.stirs (t.acts_setEntries es).stirs
  unfold State.storeIntent State.overflowOnset
  dsimp only
  split
  · exact hset _
  · split
    · exact hset _
    · exact (h.stirs (State.stirs_raise _ _)).overflow _

theorem State.Intends.written (h : s.Intends t) : { s.heardOf t with intents := t.intents } = t := by
  have := h.rest
  rwa [← State.heardOf_eq h.peers] at this

theorem frame_execIntent {st : Station} {ch : BitVec 5} {tr : Byte} {b : BitVec 16} {w : Byte}
    (h : execIntent st ch tr b w s = .next t) : s.writtenBy (.intent st ch tr b w) t = t := by
  refine State.Intends.written (State.frame_of_receive State.Hears.intends (fun h => ?_) (fun h k => h.stirs k.stirs) h)
  split
  · exact h.intends
  · split
    · exact h.intends.storeIntent _
    · exact h.intends

theorem frame_execWithdraw {st : Station} {ch : BitVec 5} (h : execWithdraw st ch s = .next t) :
    s.writtenBy (.withdraw st ch) t = t := by
  refine State.Intends.written (State.frame_of_receive State.Hears.intends (fun h => ?_) (fun h k => h.stirs k.stirs) h)
  split
  · exact h.intends.stirs (State.acts_setEntries _ _).stirs
  · exact h.intends

/-! ### Service requests -/

/-- `t` differs from `s` in what hearing a frame and a service request write alone (R167 to R171), and in the counter of
free values (log 22). -/
structure State.Requests (s t : State) : Prop where
  rest : { s.hearsOf t with
    service := { s.service with request := t.service.request }, freeCount := t.freeCount } = t
  peers : ∃ p, t.peers = s.peers.filter p

theorem State.Hears.requests (h : s.Hears t) : s.Requests t := by
  refine ⟨?_, h.peers⟩
  have h := h.rest
  unfold State.hearsOf at *
  rw [← h]
  rfl

theorem State.Requests.stirs (h : s.Requests t) (k : t.Stirs u) : s.Requests u := by
  unfold State.Stirs at k
  refine ⟨?_, by rw [← k]; exact h.peers⟩
  have h := h.rest
  unfold State.hearsOf State.flagged State.active at *
  rw [← k, ← h]

theorem State.Requests.carried (h : s.Requests t) (st : Station) (l : List (List Byte)) (b : Bool) :
    s.Requests (t.carried st l b) := by
  refine ⟨?_, h.peers⟩
  have h := h.rest
  unfold State.hearsOf State.carried at *
  rw [← h]
  rfl

/-- Requests that leave the counter of free values. -/
def State.Serving (s t : State) : Prop := s.Requests t ∧ t.freeCount = s.freeCount

theorem State.Hears.serving (h : s.Hears t) : s.Serving t := by
  refine ⟨h.requests, ?_⟩
  rw [← h.rest]
  rfl

theorem State.Serving.stirs (h : s.Serving t) (k : t.Stirs u) : s.Serving u := by
  refine ⟨h.1.stirs k, ?_⟩
  unfold State.Stirs at k
  rw [← k]
  exact h.2

theorem State.Serving.carried (h : s.Serving t) (st : Station) (l : List (List Byte)) (b : Bool) :
    s.Serving (t.carried st l b) := ⟨h.1.carried st l b, h.2⟩

theorem State.Serving.written (h : s.Serving t) :
    { s.heardOf t with service := { s.service with request := t.service.request } } = t := by
  have hr := h.1.rest
  rw [← State.heardOf_eq h.1.peers, h.2] at hr
  exact hr

/-- R167: a request carried out, answered or ignored. -/
theorem State.serve_cases {R : State → Prop} {st : Station} {b : Byte} {inLimp rejected : Bool} {run : State → State}
    (stirs : ∀ {u}, s.Stirs u → R u) (hrun : R (run s)) : R (s.serve st b inLimp rejected run) := by
  unfold State.serve
  split
  · exact stirs (State.Acts.refl s).stirs
  · split
    · exact stirs (State.acts_send _ s).stirs
    · split
      · exact stirs (State.acts_send _ s).stirs
      · exact hrun

/-- The frame of a service request. -/
theorem State.frame_of_request {st : Station} {take : State → State}
    (ht : ∀ {u}, s.Serving u → s.Serving (take u))
    (e : (.next (s.receive st take).settle : Host.Outcome State Fault Refusal) = .next t) :
    { s.heardOf t with service := { s.service with request := t.service.request } } = t :=
  State.Serving.written (State.frame_of_receive State.Hears.serving (fun h => ht h.serving) (fun h k => h.stirs k.stirs) e)

theorem frame_execReadEvents {st : Station} (h : execReadEvents st s = .next t) :
    s.writtenBy (.readEvents st) t = t := by
  have hs : s.Requests t := State.frame_of_receive State.Hears.requests
    (fun {u} h => State.serve_cases (fun k => h.requests.stirs k) ?_) (fun h k => h.stirs k.stirs) h
  · have := hs.rest
    rwa [← State.heardOf_eq hs.peers] at this
  · have hc := h.requests.carried st [u.eventsReply1, u.eventsReply2] false
    refine ⟨?_, hc.peers⟩
    have hr := hc.rest
    unfold State.hearsOf at *
    rw [← hr]
    rfl

end Sys2Proof.Machine
end

-- ==== Proofs: frame3 ====
section
namespace Sys2Proof.Machine

variable {s t u : State} {c : Channel} {i : Instr}

/-! ### The read's end -/

/-- `t` differs from `s` in what the end of a read writes alone (R174 to R178). -/
def State.Reads (s t : State) : Prop :=
  { t with
    loader := { s.loader with mode := t.loader.mode, source := t.loader.source }
    wired := s.wired
    peers := s.peers
    freeCount := s.freeCount
    pending := s.pending
    line := { t.line with lineLoss := s.line.lineLoss, clashMark := s.line.clashMark, busOff := s.line.busOff }
    service := { s.service with mask := t.service.mask } } = t

theorem State.Reads.trans (h : s.Reads t) (k : t.Reads u) : s.Reads u := by
  unfold State.Reads at *
  rw [← k, ← h]

theorem State.Rounds.reads (h : s.Rounds t) : s.Reads t := by
  unfold State.Rounds at h
  rw [← h]
  rfl

theorem State.Acts.reads (h : s.Acts t) : s.Reads t := h.rounds.reads

theorem State.reads_installFields (f : Channel → ChannelConfig) (s : State) : s.Reads (s.installFields f) := by
  unfold State.Reads State.installFields
  rfl

theorem State.reads_installImage (image : List Byte) (s : State) : s.Reads (s.installImage image) := by
  have h : ∀ (b : BudgetUnit) (m : BitVec 16) (d : BindingMap) (u : State),
      u.Reads { u with budget := b, service := { u.service with mask := m }, bind := d } := fun _ _ _ _ => rfl
  unfold State.installImage
  dsimp only
  split
  · exact (State.reads_installFields _ s).trans ((h _ _ _ _).trans (State.rounds_raise _ _).reads)
  · exact (State.reads_installFields _ s).trans (h _ _ _ _)

theorem State.reads_buildTable (s : State) : s.Reads s.buildTable := by
  have h : ∀ d : BindingMap, s.Reads { s with bind := d } := fun _ => rfl
  exact (h _).trans (State.acts_foldl _ (fun s c => State.acts_reevaluate c s) _ _).reads

theorem State.reads_setThresholds (th : Thresholds) (s : State) : s.Reads (s.setThresholds th) := rfl
theorem State.reads_beginHeat (s : State) : s.Reads s.beginHeat := rfl
theorem State.reads_setMasks (p : BitVec 11) (m : BitVec 20) (s : State) : s.Reads (s.setMasks p m) := rfl
theorem State.reads_leaveConfiguring (m : PartMode) (s : State) : s.Reads (s.leaveConfiguring m) := rfl
theorem State.reads_mask (m : BitVec 16) (s : State) : s.Reads { s with service := { s.service with mask := m } } := rfl
theorem State.reads_source (k : Option ConfigSource) (s : State) :
    s.Reads { s with loader := { s.loader with source := k } } := rfl

theorem State.reads_enterListening (s : State) : s.Reads s.enterListening := by
  have hl : ∀ (n : Option Nat) (u : State), u.Reads { u with line := { u.line with listen := n } } := fun _ _ => rfl
  have hw : ∀ u : State, u.Reads u.setWorst := fun u => by
    unfold State.setWorst
    split <;> rfl
  exact (State.reads_leaveConfiguring .listening s).trans
    (((hl _ _).trans (hw _)).trans (State.rounds_takeRound _).reads)

theorem State.reads_install (image : List Byte) (s : State) : s.Reads (s.install image) := by
  have h2 := (State.reads_installImage image s).trans (State.reads_buildTable _)
  have h4 := (h2.trans (State.reads_setThresholds (headerThresholds image) _)).trans (State.reads_beginHeat _)
  have h6 := (h4.trans (State.reads_setMasks (headerPartMask image) (headerChannelMask image) _)).trans
    (State.moves_inhibitMarked _).acts.reads
  exact (h6.trans (State.reads_enterListening _)).trans (State.moves_takeStored _).acts.reads

theorem State.reads_limpValues (s : State) : s.Reads s.limpValues := by
  have h1 := ((State.rounds_raise .limp s).reads.trans (State.reads_installFields limpConfig _)).trans
    (State.moves_freeUnused _).acts.reads
  have h2 := (h1.trans (State.reads_mask (BitVec.allOnes 16) _)).trans (State.reads_setThresholds ⟨270, 240, 200⟩ _)
  exact (h2.trans (State.reads_beginHeat _)).trans (State.reads_setMasks (BitVec.allOnes 11) (BitVec.allOnes 20) _)

theorem State.reads_enterLimp (s : State) : s.Reads s.enterLimp := by
  have hround := State.rounds_takeRound (s.limpValues.leaveConfiguring .limp)
  rw [State.enterLimp_eq]
  exact ((s.reads_limpValues.trans (State.reads_leaveConfiguring .limp _)).trans hround.reads).trans
    (State.moves_limpRequests hround.mode).acts.reads

theorem State.reads_judgeImage (image : List Byte) (s : State) : s.Reads (s.judgeImage image) := by
  unfold State.judgeImage
  dsimp only
  split
  · exact (State.reads_source _ s).trans (State.reads_install image _)
  · exact (State.reads_source _ s).trans (State.reads_enterLimp _)

theorem frame_execConfigurationReadEnd {image : List Byte} (h : execConfigurationReadEnd image s = .next t) :
    s.writtenBy (.configurationReadEnd image) t = t := by
  unfold execConfigurationReadEnd at h
  split at h
  · cases h
  · split at h
    · rw [← next_inj h]
      exact (State.reads_judgeImage image s).trans (State.acts_settle _).reads
    · rw [← next_inj h]
      exact (State.Acts.refl s).reads

/-! ### Feeds, band and temperature -/

/-- `t` differs from `s` in what a feed measurement writes alone (R134, R172). -/
def State.Feeds (s t : State) : Prop :=
  { (s.active t).flagged t with
    feed := { s.feed with feeds := t.feed.feeds }
    loader := { s.loader with resetKind := t.loader.resetKind } } = t

theorem State.Feeds.stirs (h : s.Feeds t) (k : t.Stirs u) : s.Feeds u := by
  unfold State.Stirs State.Feeds State.flagged State.active at *
  rw [← k, ← h]

theorem State.feeds_measureFeed (b : Bank) (v : Nat) (s : State) : s.Feeds (s.measureFeed b v) := by
  have hset : ∀ f, s.Feeds (s.setFeed b f) := fun _ => rfl
  have hfirst : ∀ k f, s.Feeds (State.setFeed { s with loader := { s.loader with resetKind := k } } b f) := fun _ _ => rfl
  unfold State.measureFeed
  split
  · dsimp only
    split
    · exact hfirst _ _
    · exact (hfirst _ _).stirs (State.stirs_feedLoss b _)
  · dsimp only
    split
    · exact (hset _).stirs (State.stirs_feedLoss b _)
    · split
      · exact (hset _).stirs (State.moves_recoverAll _ _ _).acts.stirs
      · exact hset _

/-- `t` differs from `s` in what a change of the own band writes alone (R140). -/
def State.Shifts (s t : State) : Prop :=
  { s.banded t with feed := { s.feed with ownBand := t.feed.ownBand, fall := t.feed.fall, rise := t.feed.rise } } = t

theorem State.Shifts.bands (h : s.Shifts t) (k : t.Bands u) : s.Shifts u := by
  unfold State.Bands State.Shifts State.banded State.flagged State.active at *
  rw [← k, ← h]

theorem State.shifts_changeBand (b : Band) (s : State) : s.Shifts (s.changeBand b) := by
  have h : s.Shifts { s with
      feed := { s.feed with ownBand := some b, fall := 0, rise := 0 }
      budget := { s.budget with ownBand := some b } } := rfl
  exact h.bands (State.bands_bandNotice _)

theorem State.shifts_settle (b : Band) (s : State) : s.Shifts (s.changeBand b).settle :=
  (s.shifts_changeBand b).bands (State.acts_settle _).bands

theorem frame_execBandFall (h : execBandFall s = .next t) : s.writtenBy .bandFall t = t := by
  unfold execBandFall at h
  split at h
  · rw [← next_inj h]
    rfl
  · split at h
    · rw [← next_inj h]
      rfl
    · rw [← next_inj h]
      exact State.shifts_settle _ s

theorem frame_execBandRise (h : execBandRise s = .next t) : s.writtenBy .bandRise t = t := by
  unfold execBandRise at h
  split at h
  · rw [← next_inj h]
    rfl
  · split at h
    · rw [← next_inj h]
      rfl
    · rw [← next_inj h]
      exact State.shifts_settle _ s

theorem frame_execKsupMeasurement {v : Nat} (h : execKsupMeasurement v s = .next t) :
    s.writtenBy (.ksupMeasurement v) t = t := by
  have hf : { s.feed with
      ksup := (s.feed.measureKsup v).ksup, fall := (s.feed.measureKsup v).fall, rise := (s.feed.measureKsup v).rise }
      = s.feed.measureKsup v := by
    unfold FeedMonitor.measureKsup
    split <;> rfl
  rw [← next_inj h]
  exact congrArg (fun f => { s with feed := f }) hf

/-- `t` differs from `s` in what a die temperature measurement writes alone (R141). -/
def State.Warms (s t : State) : Prop := { (s.active t).flagged t with feed := { s.feed with temp := t.feed.temp } } = t

theorem State.Warms.stirs (h : s.Warms t) (k : t.Stirs u) : s.Warms u := by
  unfold State.Stirs State.Warms State.flagged State.active at *
  rw [← k, ← h]

theorem State.warms_measureDie (x : Int) (s : State) : s.Warms (s.measureDie x) := by
  have h1 : ∀ p : PartTemp, s.Warms { s with feed := { s.feed with temp := p } } := fun _ => rfl
  have h2 : ∀ p : PartTemp, s.Warms (if s.feed.temp = .normal ∧ p ≠ .normal
      then State.raise .dieHot { s with feed := { s.feed with temp := p } } else { s with feed := { s.feed with temp := p } }) := by
    intro p
    split
    · exact (h1 p).stirs (State.stirs_raise _ _)
    · exact h1 p
  unfold State.measureDie
  dsimp only
  split
  · exact ((h2 _).stirs (State.stirs_raise _ _)).stirs (State.moves_inhibitAll _ _ _).acts.stirs
  · split
    · exact (h2 _).stirs (State.moves_recoverAll _ _ _).acts.stirs
    · exact h2 _

/-! ### Channels, timers and inputs -/

/-- A command that acts where a test holds writes what its act writes. -/
theorem State.frame_ite {R : State → State → Prop} {p : Prop} [Decidable p] (refl : R s s) (act : p → R s u)
    (e : (if p then (.next u : Host.Outcome State Fault Refusal) else .next s) = .next t) : R s t := by
  split at e
  · next hp => exact next_inj e ▸ act hp
  · exact next_inj e ▸ refl

/-- A change of a record that leaves the echo. -/
theorem State.modChan_quiet {f : ChannelRecord → ChannelRecord} (h : (f (s.chan c)).echo = (s.chan c).echo) :
    { s with channels := (s.modChan c f).channels } = s.modChan c f := by
  have he : echoChange c (s.chan c) (f (s.chan c)) = [] := if_pos h
  unfold State.modChan State.setChan
  rw [he, List.append_nil]

theorem ChannelRecord.echo_periodStart (r : ChannelRecord) : r.periodStart.echo = r.echo := by
  unfold ChannelRecord.periodStart
  split <;> rfl

theorem frame_execPwmPeriodStart (h : execPwmPeriodStart c s = .next t) : s.writtenBy (.pwmPeriodStart c) t = t :=
  State.frame_ite (R := fun s t => { s with channels := t.channels } = t) rfl
    (fun _ => State.modChan_quiet (ChannelRecord.echo_periodStart _)) h

theorem frame_execCleanRunTimerExpiry (h : execCleanRunTimerExpiry c s = .next t) :
    s.writtenBy (.cleanRunTimerExpiry c) t = t := by
  unfold execCleanRunTimerExpiry at h
  split at h
  · rw [← next_inj h]
    rfl
  · rw [← next_inj h]
    exact State.modChan_quiet rfl

theorem acts_execUpdate (h : execUpdate c s = .next t) : s.Acts t := by
  unfold execUpdate at h
  split at h
  · exact next_inj h ▸ State.Acts.refl s
  · exact next_inj h ▸ (State.moves_updateChannel c s).acts.trans (State.acts_settle _)

theorem acts_execWindowEnd (h : execWindowEnd c s = .next t) : s.Acts t := by
  unfold execWindowEnd at h
  split at h
  · split at h
    · exact next_inj h ▸ State.Acts.refl s
    · split at h
      · exact next_inj h ▸ s.acts_modChan c _
      · exact next_inj h ▸ (State.moves_windowEnd c _ s).acts.trans (State.acts_settle _)
  · exact next_inj h ▸ State.Acts.refl s

theorem acts_execPhaseTimerExpiry (h : execPhaseTimerExpiry c s = .next t) : s.Acts t := by
  unfold execPhaseTimerExpiry at h
  split at h
  · exact State.frame_ite (State.Acts.refl s) (fun _ => (s.acts_modChan c _).trans (State.acts_settle _)) h
  · exact next_inj h ▸ State.Acts.refl s

theorem acts_execOverrideExpiry (h : execOverrideExpiry c s = .next t) : s.Acts t := by
  unfold execOverrideExpiry at h
  split at h
  · exact State.frame_ite (State.Acts.refl s) (fun _ => (State.moves_endOverride c s).acts.trans (State.acts_settle _)) h
  · exact next_inj h ▸ State.Acts.refl s

theorem acts_execHoldExpiry (h : execHoldExpiry c s = .next t) : s.Acts t := by
  unfold execHoldExpiry at h
  split at h
  · exact next_inj h ▸ State.Acts.refl s
  · next j hj =>
    split at h
    · exact next_inj h ▸ State.Acts.refl s
    · exact State.frame_ite (State.Acts.refl s) (fun _ => (State.moves_decide hj).acts.trans (State.acts_settle _)) h

/-- `t` differs from `s` in what an input's debounce writes alone (R37). -/
def State.Inputs (s t : State) : Prop := { s.active t with wired := t.wired } = t

theorem State.Inputs.acts (h : s.Inputs t) (k : t.Acts u) : s.Inputs u := by
  unfold State.Acts State.Inputs State.active at *
  rw [← k, ← h]

theorem State.inputs_debouncedChange (i : WiredInput) (s : State) : s.Inputs (s.debouncedChange i) := by
  have h0 : s.Inputs (s.setWired i { s.wired[i] with debounced := (s.wired[i]).pin, timer := none }) := rfl
  have ha := (State.moves_activityEdge i (s.setWired i { s.wired[i] with debounced := (s.wired[i]).pin, timer := none })).acts
  unfold State.debouncedChange
  dsimp only
  generalize State.activityEdge i _ = u at ha
  split
  · next hm => exact (h0.acts ha).acts (State.moves_limpFollow i (ha.mode.trans hm)).acts
  · exact (h0.acts ha).acts (State.acts_sourceChanged _ _)

/-- `t` differs from `s` in what an ageing step writes alone (R29). -/
def State.Ages (s t : State) : Prop :=
  { s.active t with
    bind := { s.bind with bindings := t.bind.bindings, table := t.bind.table, ageing := t.bind.ageing } } = t

theorem State.Ages.acts (h : s.Ages t) (k : t.Acts u) : s.Ages u := by
  unfold State.Acts State.Ages State.active at *
  rw [← k, ← h]

theorem frame_execAgeingStep (h : execAgeingStep s = .next t) : s.writtenBy .ageingStep t = t := by
  unfold execAgeingStep at h
  split at h
  · rw [← next_inj h]
    rfl
  · rw [← next_inj h]
    have h0 : s.Ages { s with
      bind := { s.bind with table := s.bind.table.map (·.aged), ageing := some Config.ageingStepMs } } := rfl
    exact h0.acts ((State.acts_foldl _ (fun s c => State.acts_reevaluate c s) _ _).trans (State.acts_settle _))

/-! ### Tables and the line -/

theorem frame_execPeerEntryStale {st : Station} (h : execPeerEntryStale st s = .next t) :
    s.writtenBy (.peerEntryStale st) t = t := by
  have hp : ∀ (ps : List PeerEntry) (u : State), State.Bands { s with peers := ps } u →
      { s.banded u with peers := u.peers } = u := fun ps u k => by
    unfold State.Bands at k
    rw [← k]
    rfl
  exact next_inj h ▸ hp _ _ ((State.bands_peerNotice _ _).trans (State.acts_settle _).bands)

theorem frame_execPeerEntryRemoval {st : Station} (h : execPeerEntryRemoval st s = .next t) :
    s.writtenBy (.peerEntryRemoval st) t = t := by
  unfold execPeerEntryRemoval at h
  split at h <;> exact next_inj h ▸ rfl

/-- `t` differs from `s` in the part mode, the part event flags and the line alone (R158, R159). -/
def State.Lines (s t : State) : Prop :=
  { s.flagged t with loader := { s.loader with mode := t.loader.mode }, line := t.line } = t

theorem State.Lines.trans (h : s.Lines t) (k : t.Lines u) : s.Lines u := by
  unfold State.Lines State.flagged at *
  rw [← k, ← h]

theorem State.lines_beginLoss (s : State) : s.Lines s.beginLoss := by
  unfold State.beginLoss
  split
  · rfl
  · dsimp only
    split <;> rfl

theorem lines_execSilenceTimeout (h : execSilenceTimeout s = .next t) : s.Lines t := by
  unfold execSilenceTimeout at h
  split at h
  · exact State.frame_ite (R := State.Lines) rfl (fun _ => s.lines_beginLoss) h
  · exact next_inj h ▸ rfl

theorem lines_execBusOff (h : execBusOff s = .next t) : s.Lines t := by
  have h0 : ∀ l : LineInterface, s.Lines { s with line := l } := fun _ => rfl
  exact next_inj h ▸ (h0 _).trans (State.lines_beginLoss _)

/-- `t` differs from `s` in the transmit queue alone. -/
def State.Queues (s t : State) : Prop := { s with line := { s.line with queue := t.line.queue } } = t

theorem queues_execTransmissionStart (h : execTransmissionStart s = .next t) : s.Queues t := by
  unfold execTransmissionStart at h
  split at h
  · split at h <;> exact next_inj h ▸ rfl
  · exact next_inj h ▸ rfl

/-- `t` differs from `s` in what the end of a queued frame writes alone (R161, R162, R167). -/
def State.Ends (s t : State) : Prop :=
  { s.active t with service := { s.service with request := t.service.request, restartDue := t.service.restartDue } } = t

theorem State.Ends.trans (h : s.Ends t) (k : t.Ends u) : s.Ends u := by
  unfold State.Ends State.active at *
  rw [← k, ← h]

theorem State.Acts.ends (h : s.Acts t) : s.Ends t := by
  unfold State.Acts at h
  rw [← h]
  rfl

theorem State.ends_endRequest (s : State) : s.Ends s.endRequest := by
  unfold State.endRequest
  split
  · rfl
  · split
    · split <;> rfl
    · rfl

theorem ends_execQueueExpiry {p : Fin 6} (h : execQueueExpiry p s = .next t) : s.Ends t := by
  have hex : ∀ (f : TxFrame) (u : State), u.Ends (u.expired f) := fun f u => by
    unfold State.expired
    split
    · exact (State.acts_deferPending _ u).ends
    · exact u.ends_endRequest
    all_goals exact (State.Acts.refl u).ends
  unfold execQueueExpiry at h
  split at h
  · exact next_inj h ▸ (State.Acts.refl s).ends
  · exact State.frame_ite (R := State.Ends) (State.Acts.refl s).ends
      (fun _ => ((State.acts_setQueue _ _).ends.trans (hex _ _)).trans (State.acts_settle _).ends) h

/-- `t` differs from `s` in what a completed transmission writes alone (R51, R55, R167). -/
def State.Completes (s t : State) : Prop :=
  { (s.active t).flagged t with
    intents := t.intents
    service := { s.service with request := t.service.request, restartDue := t.service.restartDue } } = t

theorem State.Completes.trans (h : s.Completes t) (k : t.Completes u) : s.Completes u := by
  unfold State.Completes State.flagged State.active at *
  rw [← k, ← h]

theorem State.Ends.completes (h : s.Ends t) : s.Completes t := by
  unfold State.Ends at h
  rw [← h]
  rfl

theorem State.completes_completed (f : TxFrame) (s : State) : s.Completes (s.completed f) := by
  unfold State.completed
  split
  · next c tr b w =>
    unfold State.ownCompleted
    split
    · exact (State.acts_setEntries _ _).ends.completes
    · have h1 : s.Completes s.overflowOnset := rfl
      exact h1.trans ((State.acts_deferPending c _).trans (State.acts_send _ _)).ends.completes
  · exact s.ends_endRequest.completes
  all_goals exact (State.Acts.refl s).ends.completes

theorem completes_execTransmissionCompletion (h : execTransmissionCompletion s = .next t) : s.Completes t := by
  unfold execTransmissionCompletion at h
  split at h
  · exact next_inj h ▸ (State.Acts.refl s).ends.completes
  · exact next_inj h ▸ ((State.acts_setQueue _ _).ends.completes.trans (State.completes_completed _ _)).trans
      (State.acts_settle _).ends.completes

theorem frame_execStatusRoll (h : execStatusRoll s = .next t) : s.writtenBy .statusRoll t = t := by
  unfold execStatusRoll at h
  split at h
  · exact next_inj h ▸ rfl
  · obtain ⟨q, hq⟩ := State.requestStatus_eq s.events.rollPointer s
    dsimp only at h
    rw [hq] at h
    exact next_inj h ▸ rfl

/-- `t` differs from `s` in the transmit queue and the service request alone (R167). -/
def State.Replies (s t : State) : Prop :=
  { s with
    line := { s.line with queue := t.line.queue }
    service := { s.service with request := t.service.request, restartDue := t.service.restartDue } } = t

theorem replies_execServiceReplyQueued (h : execServiceReplyQueued s = .next t) : s.Replies t := by
  unfold execServiceReplyQueued at h
  split at h
  · exact next_inj h ▸ rfl
  · split at h
    · exact next_inj h ▸ rfl
    · split at h
      · exact next_inj h ▸ rfl
      · next hu =>
        obtain ⟨_, q, _, hq⟩ := State.offer_eq_some hu
        rw [← next_inj h, hq]
        rfl

theorem replies_execReplyListDiscard (h : execReplyListDiscard s = .next t) : s.Replies t := by
  unfold execReplyListDiscard at h
  split at h
  · exact next_inj h ▸ rfl
  · refine State.frame_ite (R := State.Replies) rfl (fun _ => ?_) h
    unfold State.endRequest
    dsimp only
    split
    · split <;> rfl
    · rfl

/-! ### Every command -/

theorem exec_frame (i : Instr) (h : exec i s = .next t) : s.writtenBy i t = t := by
  cases i with
  | resetRelease => exact next_inj h ▸ rfl
  | serviceRestart => exact next_inj h ▸ rfl
  | configurationReadEnd => exact frame_execConfigurationReadEnd h
  | feedMeasurement b v => exact next_inj h ▸ (State.feeds_measureFeed b v s).stirs (State.acts_settle _).stirs
  | ksupMeasurement => exact frame_execKsupMeasurement h
  | bandFall => exact frame_execBandFall h
  | bandRise => exact frame_execBandRise h
  | dieTemperatureMeasurement x => exact next_inj h ▸ (State.warms_measureDie x s).stirs (State.acts_settle _).stirs
  | currentSample c v x => exact next_inj h ▸ (State.moves_sample c v x s).acts.trans (State.acts_settle _)
  | pwmPeriodStart => exact frame_execPwmPeriodStart h
  | update => exact acts_execUpdate h
  | stall c =>
    exact State.frame_ite (R := State.Acts) (State.Acts.refl s)
      (fun _ => ((s.acts_modChan c _).trans (State.acts_handFault c _ _)).trans (State.acts_settle _)) h
  | openLoad c =>
    exact State.frame_ite (R := State.Acts) (State.Acts.refl s)
      (fun _ => ((s.acts_modChan c _).trans (State.acts_handFault c _ _)).trans (State.acts_settle _)) h
  | retryTimerExpiry c =>
    exact State.frame_ite (R := State.Acts) (State.Acts.refl s)
      (fun _ => (State.moves_tryCooldownExit c s).acts.trans (State.acts_settle _)) h
  | cleanRunTimerExpiry => exact frame_execCleanRunTimerExpiry h
  | wiredInputPinChange => exact next_inj h ▸ rfl
  | debounceExpiry i =>
    exact State.frame_ite (R := State.Inputs) rfl (fun _ => (s.inputs_debouncedChange i).acts (State.acts_settle _)) h
  | ageingStep => exact frame_execAgeingStep h
  | signal => exact frame_execSignal h
  | draw => exact frame_execDraw h
  | peerEntryStale => exact frame_execPeerEntryStale h
  | peerEntryRemoval => exact frame_execPeerEntryRemoval h
  | intent => exact frame_execIntent h
  | withdraw => exact frame_execWithdraw h
  | overflowTimerExpiry => exact State.frame_ite (R := fun s t => { s with intents := t.intents } = t) rfl (fun _ => rfl) h
  | peerIntentAgeExpiry => exact next_inj h ▸ rfl
  | otherFrameReceived =>
    exact State.Hears.heardOf (State.frame_of_receive id id (fun h k => h.trans k.hears) h)
  | silenceTimeout => exact lines_execSilenceTimeout h
  | busOff => exact lines_execBusOff h
  | busOffRecovery => exact next_inj h ▸ rfl
  | listenExpiry => exact State.frame_ite (R := State.Lines) rfl (fun _ => by rfl) h
  | holdExpiry => exact acts_execHoldExpiry h
  | budgetRound =>
    replace h : execBudgetRound s = .next t := h
    unfold execBudgetRound at h
    split at h
    · exact next_inj h ▸ rfl
    · have hr : ∀ (n : Option Nat) (u : State), State.Rounds { s with budget := { s.budget with round := n } } u →
          s.writtenBy .budgetRound u = u := fun n u k => by
        unfold State.Rounds at k
        rw [← k]
        rfl
      exact next_inj h ▸ hr _ _ ((State.rounds_takeRound _).trans (State.acts_settle _).rounds)
  | windowEnd => exact acts_execWindowEnd h
  | phaseTimerExpiry => exact acts_execPhaseTimerExpiry h
  | autoOffExpiry c =>
    exact State.frame_ite (R := State.Acts) (State.Acts.refl s)
      (fun _ => (State.moves_autoOff c s).acts.trans (State.acts_settle _)) h
  | overrideExpiry => exact acts_execOverrideExpiry h
  | transmissionStart => exact queues_execTransmissionStart h
  | transmissionCompletion => exact completes_execTransmissionCompletion h
  | transmissionFailure => exact next_inj h ▸ rfl
  | queueExpiry => exact ends_execQueueExpiry h
  | statusRoll => exact frame_execStatusRoll h
  | serviceReplyQueued => exact replies_execServiceReplyQueued h
  | replyListDiscard => exact replies_execReplyListDiscard h
  | clearFault st b =>
    exact State.frame_of_request (fun {u} h => State.serve_cases h.stirs
      ((h.stirs (State.moves_clearAll _ u).acts.stirs).carried _ _ _)) h
  | clearEvents st p m =>
    exact State.frame_of_request (fun {u} h => State.serve_cases h.stirs
      ((h.stirs (State.stirs_clearFlags _ _ u)).carried _ _ _)) h
  | readChannel st b =>
    refine State.frame_of_request (fun {u} h => ?_) h
    split
    · exact State.serve_cases h.stirs h
    · exact State.serve_cases h.stirs (h.carried _ _ _)
  | readPeers => exact State.frame_of_request (fun {u} h => State.serve_cases h.stirs (h.carried _ _ _)) h
  | readEvents => exact frame_execReadEvents h
  | override st b l d =>
    refine State.frame_of_request (fun {u} h => ?_) h
    split
    · exact State.serve_cases h.stirs h
    · exact State.serve_cases h.stirs ((h.stirs ((u.acts_modChan _ _).trans (State.acts_applyRequest _ _)).stirs).carried _ _ _)
  | restart => exact State.frame_of_request (fun {u} h => State.serve_cases h.stirs (h.carried _ _ _)) h
  | unknownCommand => exact State.frame_of_request (fun {u} h => State.serve_cases h.stirs h) h

end Sys2Proof.Machine

/-- Settles O3: each command's work is made of the operations whose frames are known. -/
theorem commandsKeepToTheirBlocks : Obligations.CommandsKeepToTheirBlocks := fun i _ _ h =>
  (Sys2Proof.Machine.exec_frame i h).symm
end

-- ==== Proofs: levels ====
section
/-! PROOFS. The levels of a channel (R5 to R7): O18. -/

namespace Sys2Proof.Machine

/-- R7: the rounding up is exact. -/
theorem ceilDiv_eq_ceil (a : Nat) {b : Nat} (hb : 0 < b) : ceilDiv a b = ⌈(a : ℚ) / b⌉₊ := by
  have hb' : (0 : ℚ) < b := by exact_mod_cast hb
  refine eq_of_forall_ge_iff fun n => ?_
  rw [Nat.ceil_le, div_le_iff₀ hb']
  unfold ceilDiv
  rw [← Nat.lt_add_one_iff, Nat.div_lt_iff_lt_mul hb]
  have : ((a : ℚ) ≤ n * b) ↔ a ≤ n * b := by exact_mod_cast Iff.rfl
  rw [this, Nat.add_mul]
  omega

/-- R6: the larger of two levels. -/
theorem maxByte_toNat (a b : Byte) : (maxByte a b).toNat = max a.toNat b.toNat := by
  unfold maxByte
  split
  · next h => exact (Nat.max_eq_right (BitVec.lt_def.1 h).le).symm
  · next h => exact (Nat.max_eq_left (not_lt.1 fun hn => h (BitVec.lt_def.2 hn))).symm

/-- R6: the duty of a request above 0. -/
theorem ChannelConfig.dutyFor_pwm {k : ChannelConfig} {v : Byte} (h : v ≠ 0) (hm : k.dutyMode = .pwm) :
    k.dutyFor v = maxByte v k.minDuty := by
  rw [ChannelConfig.dutyFor, if_neg h, hm]

theorem ChannelConfig.dutyFor_slowCycle {k : ChannelConfig} {v : Byte} (h : v ≠ 0) (hm : k.dutyMode = .slowCycle) :
    k.dutyFor v = 255 := by
  rw [ChannelConfig.dutyFor, if_neg h, hm]

end Sys2Proof.Machine

/-- Settles O18. -/
theorem levelsOfAChannel : Obligations.LevelsOfAChannel := by
  open Sys2Proof.Machine in
  intro r v d th
  refine ⟨fun o ho => ?_, fun ho hh => ?_, fun ho hh => ?_, rfl, fun hv hm => ?_, fun hv hm => ?_, fun hm => ?_, fun hm => ?_,
    fun hm => ?_⟩
  · simp [ChannelRecord.effectiveRequest, ho]
  · simp [ChannelRecord.effectiveRequest, ho, hh]
  · simp [ChannelRecord.effectiveRequest, ho, hh]
  · rw [ChannelConfig.dutyFor_pwm hv hm, maxByte_toNat]
  · exact ChannelConfig.dutyFor_slowCycle hv hm
  · simp [ChannelConfig.bookingFor, hm, ceilDiv_eq_ceil]
  · simp [ChannelConfig.bookingFor, hm]
  · simp [ChannelConfig.bookingFor, hm, ceilDiv_eq_ceil]
end

-- ==== Proofs: clock ====
section
/-! PROOFS. The front command and the part's own clock (log 1, log 5): O1. -/

namespace Sys2Proof.Machine

variable {s t : State} {c : Channel} {i : Instr}

/-! ### Room in the transmit queue (R160) -/

theorem State.hasRoom_of_replyRoom (h : s.replyRoom) (f : TxFrame) : hasRoom f s.txQueue = true := by
  have h1 : otherCount s.txQueue < 5 := by
    refine lt_of_le_of_lt (le_of_eq ?_) h.1
    unfold otherCount State.queued State.txQueue
    congr 1
  have h2 : statusReplyCount s.txQueue < 4 := by
    refine lt_of_le_of_lt (le_of_eq ?_) h.2
    unfold statusReplyCount State.queued State.txQueue
    congr 1
    refine List.filter_congr fun e _ => ?_
    cases e.frame <;> rfl
  simp [hasRoom, Config.otherEntries, Config.statusReplyEntries, h1, h2]

/-- R160: a frame that has room joins the end of the queue. -/
theorem State.offer_of_room {f : TxFrame} (hd : f.isDraw = false) (hx : s.discards f = false)
    (h : hasRoom f s.txQueue = true) : s.offer f = some (s.withFrame f) := by
  have ho : offerTo f s.txQueue = some (s.txQueue ++ [⟨f, 0, none⟩]) := by simp [offerTo, hd, h]
  rw [State.offer, hx, ho]
  rfl

theorem State.discards_of_kind {f : TxFrame} (h0 : f.kind ≠ 0) (h1 : f.isDraw = false) : s.discards f = false := by
  simp [State.discards, h0, h1]

/-! ### Commands due (log 5) -/

/-- A part with a command due queues what is due. -/
theorem step_of_due (hp : s.pending = []) (h : s.dueNow ≠ []) : step s = .next { s with pending := s.dueNow } := by
  have hne : s.dueNow.isEmpty = false := by simpa using h
  simp [step, hp, State.idleStep, hne]

theorem step_queues (hp : s.pending = []) {P : List Instr → Prop} (hi : i ∈ s.dueNow) (h : P s.dueNow) :
    ∃ l, step s = .next { s with pending := l } ∧ P l :=
  ⟨_, step_of_due hp (List.ne_nil_of_mem hi), h⟩

theorem State.mem_dueNow : i ∈ s.dueNow ↔ i ∈ s.restartDueNow ∨ (∃ c, i ∈ s.detectorsDue c) ∨ i ∈ s.bandDue
    ∨ i ∈ s.replyDue ∨ i ∈ s.startDue := by
  simp [State.dueNow, allChannels]

theorem ChannelRecord.running_of {r : ChannelRecord}
    (h : r.state = .on ∨ ∃ left, r.state = .cycling ∧ r.phase = some ⟨true, left⟩) : r.running = true := by
  rcases h with h | ⟨left, h, hp⟩
  · simp [ChannelRecord.running, h]
  · simp [ChannelRecord.running, ChannelRecord.inOnPhase, h, hp]

theorem State.stall_mem_dueNow (hr : (s.chan c).running = true) (ht : (s.chan c).cfg.stallThreshold ≠ 0)
    (hm : (s.chan c).prot.stallMark = false) (hn : (s.chan c).cfg.stallTime * 10 ≤ (s.chan c).prot.stallTimer) :
    Instr.stall c ∈ s.dueNow :=
  State.mem_dueNow.2 (.inr (.inl ⟨c, by simp [State.detectorsDue, ChannelRecord.stallDue, hr, ht, hm, hn]⟩))

theorem State.openLoad_mem_dueNow (hr : (s.chan c).running = true) (hm : (s.chan c).prot.openMark = false)
    (hn : 50 ≤ (s.chan c).prot.openTimer) : Instr.openLoad c ∈ s.dueNow :=
  State.mem_dueNow.2 (.inr (.inl ⟨c, by simp [State.detectorsDue, ChannelRecord.openDue, Config.openUpdates, hr, hm, hn]⟩))

theorem State.reply_mem_dueNow {q : ServiceRequest} {d : List Byte} {ds : List (List Byte)}
    (hq : s.service.request = some q) (hd : q.replies = d :: ds) (h : s.replyRoom) :
    Instr.serviceReplyQueued ∈ s.dueNow := by
  have hk : (TxFrame.reply q.requester d true).kind ≠ 0 := by simp [TxFrame.kind]
  have ho := State.offer_of_room (f := .reply q.requester d true) rfl (State.discards_of_kind hk rfl)
    (State.hasRoom_of_replyRoom h _)
  refine State.mem_dueNow.2 (.inr (.inr (.inr (.inl ?_))))
  simp [State.replyDue, hq, hd, ho]

/-- R161: a frame that may be offered makes the queue offer one. -/
theorem State.nextOffer_isSome {x : TxEntry} (hx : x ∈ s.line.queue) (h : s.mayOffer x.frame = true) :
    s.nextOffer.isSome = true := by
  have hk : x.frame.kind ∈ ([0, 1, 4, 5] : List Nat) := by cases x.frame <;> simp [TxFrame.kind]
  unfold State.nextOffer
  rw [List.isSome_findSome?]
  refine List.any_eq_true.2 ⟨_, hk, ?_⟩
  rw [List.findIdx?_isSome]
  exact List.any_eq_true.2 ⟨x, hx, by simp [h]⟩

theorem State.start_mem_dueNow (hb : s.line.busOff = false) (ha : ∀ x ∈ s.line.queue, x.attempt = none)
    (h : ∃ x ∈ s.line.queue, s.mayOffer x.frame = true) : Instr.transmissionStart ∈ s.dueNow := by
  obtain ⟨x, hx, hm⟩ := h
  have hfree : s.controllerFree = true := by
    simp only [State.controllerFree, hb, Bool.not_false, Bool.true_and, List.all_eq_true]
    intro y hy
    simp [ha y hy]
  refine State.mem_dueNow.2 (.inr (.inr (.inr (.inr ?_))))
  simp [State.startDue, hfree, State.nextOffer_isSome hx hm]

theorem State.restart_head (h : s.service.restartDue = true) :
    s.dueNow.head? = some (.serviceRestart (BitVec.ofNat 4 s.own.val)) := by
  simp [State.dueNow, State.restartDueNow, h]

/-! ### One millisecond (log 1) -/

theorem ChannelRecord.missedSample_rest (r : ChannelRecord) :
    r.missedSample.autoOff = r.autoOff ∧ r.missedSample.retry = r.retry := by
  have h1 : ∀ r : ChannelRecord, (r.startSample 0).autoOff = r.autoOff ∧ (r.startSample 0).retry = r.retry := fun r => by
    unfold ChannelRecord.startSample
    split <;> exact ⟨rfl, rfl⟩
  have h2 : ∀ r : ChannelRecord, (r.shortSample 0).autoOff = r.autoOff ∧ (r.shortSample 0).retry = r.retry := fun r => by
    unfold ChannelRecord.shortSample
    split
    · split <;> exact ⟨rfl, rfl⟩
    · exact ⟨rfl, rfl⟩
  unfold ChannelRecord.missedSample
  split
  · exact ⟨rfl, rfl⟩
  · obtain ⟨ha, hr⟩ := h1 (r.takeSample 0)
    obtain ⟨hb, hq⟩ := h2 ((r.takeSample 0).startSample 0)
    exact ⟨hb.trans ha, hq.trans hr⟩

theorem ChannelRecord.passMs_rest (r : ChannelRecord) :
    r.passMs.autoOff = r.autoOff.map (· - 1) ∧ r.passMs.retry = r.retry.map (· - 1) := by
  obtain ⟨ha, hr⟩ := r.missedSample_rest
  exact ⟨congrArg countDown ha, congrArg countDown hr⟩

/-- With no command waiting and none due a millisecond passes, and its expiries are queued. -/
theorem step_of_idle (hp : s.pending = []) (h : s.dueNow = []) : step s = .next { s.passMs with pending := s.expiries } := by
  simp [step, hp, State.idleStep, h]

theorem State.mem_expiries_channel (h : i ∈ (s.chan c).expiries c) : i ∈ s.expiries := by
  have : i ∈ allChannels.flatMap fun c => (s.chan c).expiries c :=
    List.mem_flatMap.2 ⟨c, List.mem_finRange c, h⟩
  simp only [State.expiries, List.mem_append]
  tauto

theorem expiring_some {n : Option Nat} (h : n = some 1) : expiring n = true := by simp [expiring, h]

/-- R84: a window that is at its end in this millisecond. -/
theorem ChannelRecord.windowEnd_mem_expiries {r : ChannelRecord} {u : StartRecord} (hu : r.start = some u) (hl : u.left = 1)
    (he : u.entered = false) : Instr.windowEnd c ∈ r.expiries c := by
  have hw : expiring r.windowLeft = true := by
    simp [ChannelRecord.windowLeft, ChannelRecord.justEntered, hu, hl, he, expiring]
  simp [ChannelRecord.expiries, hw]

/-- R145: a period that is at its end in this millisecond, with no window end beside it. -/
theorem ChannelRecord.period_mem_expiries {r : ChannelRecord} (hs : r.state = .starting ∨ r.state = .on)
    (hp : 4 ≤ r.pwmPos) (hu : ∀ u, r.start = some u → u.left ≠ 1 ∧ u.ending = false ∧ u.entered = false) :
    Instr.pwmPeriodStart c ∈ r.expiries c := by
  have hj : r.justEntered = false := by
    unfold ChannelRecord.justEntered
    split
    · next u h => exact (hu u h).2.2
    · rfl
  have hw : expiring r.windowLeft = false := by
    simp only [ChannelRecord.windowLeft, hj, expiring]
    cases h : r.start with
    | none => rfl
    | some u => simpa using (hu u h).1
  have ha : r.awaits = false := by
    unfold ChannelRecord.awaits
    split
    · next u h => simp [(hu u h).2.1]
    · rfl
  have hi : r.inPeriods = true := by
    rcases hs with h | h <;> simp [ChannelRecord.inPeriods, h, hj]
  simp [ChannelRecord.expiries, hw, ha, hi, Config.periodMs, hp]

/-- R162: a queued frame that reaches its expiry in this millisecond. -/
theorem State.queueExpiry_mem {p : Fin 6} {e : TxEntry} {n : Nat} (he : s.line.queue[p.val]? = some e)
    (hn : e.frame.expiryMs = some n) (ha : n ≤ e.age + 1) : Instr.queueExpiry p ∈ s.queueExpiries := by
  refine List.mem_flatMap.2 ⟨p, by fin_cases p <;> decide, ?_⟩
  simp [State.txQueue, he, hn, ha]

/-- R162: how long a frame of each kind waits. -/
theorem TxFrame.expiryMs_eq {f : TxFrame} (h : f.kind ≠ 1) :
    f.expiryMs = some (if f.kind = 0 then 200 else if f.kind = 4 then 500 else 1000) := by
  cases f with
  | draw => exact absurd rfl h
  | _ => rfl

theorem State.mem_expiries_intent {e : IntentEntry} (he : e ∈ s.intents.entries) (h : i ∈ e.expiries s.own) :
    i ∈ s.expiries := by
  have : i ∈ s.intents.entries.flatMap (·.expiries s.own) := List.mem_flatMap.2 ⟨e, he, h⟩
  simp only [State.expiries, List.mem_append]
  tauto

theorem State.mem_expiries_peer {e : PeerEntry} (he : e ∈ s.peers) (h : i ∈ e.expiries) : i ∈ s.expiries := by
  have : i ∈ s.peers.flatMap (·.expiries) := List.mem_flatMap.2 ⟨e, he, h⟩
  simp only [State.expiries, List.mem_append]
  tauto

/-- R52: an own entry at the end of its hold. -/
theorem IntentEntry.hold_mem_expiries {e : IntentEntry} {own : Station} (ho : e.station = own) (hc : e.channel.val = c.val)
    (hh : e.hold = some 1) : Instr.holdExpiry c ∈ e.expiries own := by
  have hl : e.channel.val < 20 := hc ▸ c.isLt
  have he : (⟨e.channel.val, hl⟩ : Channel) = c := Fin.ext hc
  simp [IntentEntry.expiries, ho, hl, he, hh, expiring]

theorem State.mem_expiries_input {w : WiredInput} (h : (s.wired[w]).timer = some 1) : Instr.debounceExpiry w ∈ s.expiries := by
  have : Instr.debounceExpiry w ∈
      (List.finRange 8).flatMap fun i => if expiring (s.wired[i]).timer then [Instr.debounceExpiry i] else [] :=
    List.mem_flatMap.2 ⟨w, List.mem_finRange w, by
      rw [if_pos (expiring_some h)]
      exact List.mem_singleton_self _⟩
  simp only [State.expiries, List.mem_append]
  tauto

theorem State.mem_expiries_queue {p : Fin 6} {e : TxEntry} (he : s.line.queue[p.val]? = some e) (hk : e.frame.kind ≠ 1)
    (ha : e.age = if e.frame.kind = 0 then 199 else if e.frame.kind = 4 then 499 else 999) :
    Instr.queueExpiry p ∈ s.expiries := by
  have : Instr.queueExpiry p ∈ s.queueExpiries := by
    refine State.queueExpiry_mem he (TxFrame.expiryMs_eq hk) ?_
    rw [ha]
    split
    · exact Nat.le_refl _
    · split <;> exact Nat.le_refl _
  simp only [State.expiries, List.mem_append]
  tauto

end Sys2Proof.Machine

/-- Settles O1. -/
theorem stepTakesTheFrontCommand : Obligations.StepTakesTheFrontCommand := by
  open Sys2Proof.Machine Sys2Proof in
  refine ⟨fun c rest s h => by simp [step, h], fun s hp => ?_⟩
  refine ⟨fun h => ⟨_, step_of_due hp ?_, State.restart_head h⟩, fun q d ds hq hd hr => ?_, fun hb ha hx => ?_,
    fun c hc => ⟨fun ht hm hn => ?_, fun hm hn => ?_⟩, fun ht hn => ?_, fun hb hn => ?_, fun hd => ?_⟩
  · intro he
    have := State.restart_head h
    simp [he] at this
  · exact step_queues hp (State.reply_mem_dueNow hq hd hr) (State.reply_mem_dueNow hq hd hr)
  · exact step_queues hp (State.start_mem_dueNow hb ha hx) (State.start_mem_dueNow hb ha hx)
  · have := State.stall_mem_dueNow (ChannelRecord.running_of hc) ht hm hn
    exact step_queues hp this this
  · have := State.openLoad_mem_dueNow (ChannelRecord.running_of hc) hm hn
    exact step_queues hp this this
  · have : Instr.bandFall ∈ s.dueNow := State.mem_dueNow.2 (.inr (.inr (.inl (by
      simp [State.bandDue, Option.isSome_iff_ne_none.2 ht, Config.fallCount, hn]))))
    exact step_queues hp this this
  · have : Instr.bandRise ∈ s.dueNow := State.mem_dueNow.2 (.inr (.inr (.inl (by
      simp [State.bandDue, Option.isSome_iff_ne_none.2 hb, Config.riseCount, hn]))))
    exact step_queues hp this this
  · refine ⟨_, step_of_idle hp hd, fun c => ?_, fun i => State.mem_expiries_input, ?_, fun e he hs ha => ?_,
      fun e he hs ha => ?_, fun e he ho ha => ?_, ?_, fun i e => State.mem_expiries_queue, fun q hq ha => ?_, ?_, ?_, ?_, ?_⟩
    · have hrest := (s.chan c).passMs_rest
      rw [← s.passMs_chan] at hrest
      obtain ⟨hauto, hretry⟩ := hrest
      refine ⟨hauto, fun h => ?_, hretry, fun h => ?_, fun h => ?_, fun h => ?_,
        fun u hu hl he => State.mem_expiries_channel (ChannelRecord.windowEnd_mem_expiries hu hl he),
        fun hs h4 hu => State.mem_expiries_channel (ChannelRecord.period_mem_expiries hs h4 hu),
        fun p h hl => ?_, fun o h hl => ?_,
        fun e he ho hc hh => State.mem_expiries_intent he (IntentEntry.hold_mem_expiries ho hc hh)⟩
      all_goals
        refine State.mem_expiries_channel (c := c) ?_
        simp [ChannelRecord.expiries, *, expiring, Config.cleanRunMs]
    · intro h
      simp [State.expiries, h, expiring]
    · exact State.mem_expiries_peer he (by simp [PeerEntry.expiries, hs, ha, Config.peerStaleMs])
    · exact State.mem_expiries_peer he (by simp [PeerEntry.expiries, hs, ha, Config.peerRemovalMs])
    · exact State.mem_expiries_intent he (by simp [IntentEntry.expiries, ho, ha, Config.intentAgeMs])
    · intro h
      simp [State.expiries, h, expiring]
    · simp [State.expiries, hq, ha, Config.replyListMs]
    all_goals
      intro h
      simp [State.expiries, h, expiring, Config.silenceMs]
end

-- ==== Proofs: offer ====
section
/-! PROOFS. Transmission attempts (R161): O50. -/

namespace Sys2Proof.Machine

variable {s t : State}

theorem modify_length_append {α : Type} (f : α → α) (xs zs : List α) (e : α) :
    (xs ++ e :: zs).modify xs.length f = xs ++ f e :: zs := by
  induction xs with
  | nil => rfl
  | cons x xs ih => simp [ih]

theorem TxFrame.kind_cases (f : TxFrame) : f.kind = 0 ∨ f.kind = 1 ∨ f.kind = 4 ∨ f.kind = 5 := by
  cases f <;> simp [TxFrame.kind]

/-- R161: what the part mode holds back. -/
theorem State.mayOffer_eq_false {f : TxFrame} : s.mayOffer f = false ↔
    (s.mode = .listening ∧ ∃ c tr b w, f = .intent c tr b w) ∨ (s.mode = .clashed ∧ f.kind = 1) := by
  have hi : f.isIntent = true ↔ ∃ c tr b w, f = .intent c tr b w := by cases f <;> simp [TxFrame.isIntent]
  have hd : f.isDraw = true ↔ f.kind = 1 := by simp [TxFrame.isDraw]
  by_cases hl : s.mode = .listening
  · simp [State.mayOffer, hl, hi]
  · by_cases hc : s.mode = .clashed
    · simp [State.mayOffer, hc, ← hd]
    · simp [State.mayOffer, hl, hc]

/-- R161: the place of the frame offered: no frame of a lower kind may be offered, and none of its kind before it. -/
theorem State.nextOffer_eq {xs zs : List TxEntry} {e : TxEntry} (hq : s.txQueue = xs ++ e :: zs)
    (he : s.mayOffer e.frame = true) (hx : ∀ x ∈ xs, s.mayOffer x.frame = true → e.frame.kind < x.frame.kind)
    (hz : ∀ z ∈ zs, s.mayOffer z.frame = true → e.frame.kind ≤ z.frame.kind) : s.nextOffer = some xs.length := by
  have hfirst : s.txQueue.findIdx? (fun x => x.frame.kind == e.frame.kind && s.mayOffer x.frame) = some xs.length := by
    rw [hq, List.findIdx?_append, List.findIdx?_eq_none_iff.2 fun x hm => ?_]
    · simp [List.findIdx?_cons, he]
    · by_contra hn
      obtain ⟨hk, ho⟩ : x.frame.kind = e.frame.kind ∧ s.mayOffer x.frame = true := by simpa using hn
      have := hx x hm ho
      omega
  have hnone : ∀ k, k < e.frame.kind →
      s.txQueue.findIdx? (fun x => x.frame.kind == k && s.mayOffer x.frame) = none := by
    intro k hk
    refine List.findIdx?_eq_none_iff.2 fun x hm => ?_
    by_contra hn
    obtain ⟨hxk, ho⟩ : x.frame.kind = k ∧ s.mayOffer x.frame = true := by simpa using hn
    rw [hq, List.mem_append, List.mem_cons] at hm
    rcases hm with hm | rfl | hm
    · have := hx x hm ho
      omega
    · omega
    · have := hz x hm ho
      omega
  unfold State.nextOffer
  rcases e.frame.kind_cases with hk | hk | hk | hk <;> rw [hk] at hfirst hnone
  · simp [List.findSome?, hfirst]
  · simp [List.findSome?, hfirst, hnone 0]
  · simp [List.findSome?, hfirst, hnone 0, hnone 1]
  · simp [List.findSome?, hfirst, hnone 0, hnone 1, hnone 4]

theorem State.nextOffer_eq_none (h : ∀ x ∈ s.line.queue, s.mayOffer x.frame = false) : s.nextOffer = none := by
  refine List.findSome?_eq_none_iff.2 fun k _ => List.findIdx?_eq_none_iff.2 fun x hx => ?_
  simp [h x hx]

theorem State.controllerFree_iff :
    s.controllerFree = true ↔ s.line.busOff = false ∧ ∀ x ∈ s.line.queue, x.attempt = none := by
  simp [State.controllerFree, State.txQueue]

end Sys2Proof.Machine

/-- Settles O50. -/
theorem attemptsTakeTheLowestKind : Obligations.AttemptsTakeTheLowestKind := by
  open Sys2Proof.Machine in
  intro xs zs e s
  dsimp only
  simp only [← State.mayOffer_eq_false, ← State.controllerFree_iff, Bool.not_eq_false]
  refine ⟨fun h => ?_, fun hf hq he hx hz => ?_, rfl⟩
  · show execTransmissionStart s = .next s
    unfold execTransmissionStart
    split
    · next hf =>
      rw [State.nextOffer_eq_none (h.resolve_left (not_not.2 hf))]
    · rfl
  · show execTransmissionStart s = _
    unfold execTransmissionStart
    rw [if_pos hf, State.nextOffer_eq hq he hx hz]
    dsimp only [State.txQueue]
    rw [hq, modify_length_append]
    rfl
end

-- ==== Proofs: image ====
section
/-! PROOFS. The fields of an image (R137, R175, R183, section 12.4): O16. -/

namespace Sys2Proof.Machine

variable {image : List Byte}

theorem clamp_eq {lo hi : Nat} (h : lo ≤ hi) (v : Nat) : clamp lo hi v = max lo (min v hi) := by
  unfold clamp
  split
  · omega
  · split <;> omega

theorem imageByte_lt (image : List Byte) (i : Nat) : imageByte image i < 256 := BitVec.isLt _

theorem imageWord_lt (image : List Byte) (i : Nat) : imageWord image i < 65536 := by
  have h1 := imageByte_lt image i
  have h2 := imageByte_lt image (i + 1)
  unfold imageWord
  omega

/-- R118: what a mode code installs. -/
theorem installedAction_cases (allowed : List ActionMode) (code : Nat) :
    (code = 0 → installedAction allowed code = .latch)
      ∧ (code = 1 → installedAction allowed code = if .retry ∈ allowed then .retry else .latch)
      ∧ (code = 2 → installedAction allowed code = if .report ∈ allowed then .report else .latch)
      ∧ (code = 3 → installedAction allowed code = if .ignore ∈ allowed then .ignore else .latch)
      ∧ (3 < code → installedAction allowed code = .latch) := by
  refine ⟨fun h => ?_, fun h => ?_, fun h => ?_, fun h => ?_, fun h => ?_⟩
  · simp [installedAction, actionOfCode, h]
  · simp [installedAction, actionOfCode, h]
  · simp [installedAction, actionOfCode, h]
  · simp [installedAction, actionOfCode, h]
  · obtain ⟨n, rfl⟩ := Nat.exists_eq_add_of_le' (Nat.succ_le_of_lt h)
    rfl

theorem activityOfCode_eq_some {v : Nat} {w : WiredInput} : activityOfCode v = some w ↔ v = w.val + 1 := by
  have hw := w.isLt
  unfold activityOfCode
  split
  · next h =>
    simp only [Option.some.injEq, Fin.ext_iff]
    omega
  · next h =>
    simp only [false_iff, reduceCtorEq]
    omega

/-! ### Thresholds (R137) -/

theorem clampThresholds_eq (tc tb tl : Nat) :
    let th := clampThresholds tc tb tl
    let b := max 1 (min tb 399)
    let l := min tl 398
    th.charging = max 2 (min tc 400) ∧ th.battery = (if b < th.charging then b else th.charging - 1)
      ∧ th.low = (if l < th.battery then l else th.battery - 1)
      ∧ th.low < th.battery ∧ th.battery < th.charging ∧ th.charging ≤ 400 := by
  simp only [clampThresholds, clamp_eq (show (2 : Nat) ≤ 400 by decide), clamp_eq (show (1 : Nat) ≤ 399 by decide),
    clamp_eq (show (0 : Nat) ≤ 398 by decide)]
  refine ⟨trivial, ?_, ?_, ?_, ?_, ?_⟩
  · split <;> omega
  · split <;> omega
  all_goals omega

/-! ### Binding records (R39, R40) -/

/-- R40: the records accepted are among those examined. -/
theorem mem_of_mem_followCheck {b : Binding} (l : List Binding) : ∀ es, b ∈ (followCheck es l).1 → b ∈ l := by
  induction l with
  | nil => exact fun es h => h
  | cons x l ih =>
    intro es h
    unfold followCheck at h
    split at h
    · rcases List.mem_cons.1 h with rfl | h
      · exact List.mem_cons_self
      · exact List.mem_cons_of_mem _ (ih _ h)
    · split at h
      · rcases List.mem_cons.1 h with rfl | h
        · exact List.mem_cons_self
        · exact List.mem_cons_of_mem _ (ih _ h)
      · exact List.mem_cons_of_mem _ (ih _ h)

/-- R39: a valid record is that of a place whose valid flag is set. -/
theorem bindingRecord_of_mem {b : Binding} (h : b ∈ validBindings image) :
    ∃ i, i < 32 ∧ bindingFlagged image i = true ∧ bindingRecord image i = some b := by
  obtain ⟨o, ho, he⟩ := List.mem_filterMap.1 (mem_of_mem_followCheck _ _ h)
  obtain ⟨i, hi, rfl⟩ := List.mem_map.1 ho
  obtain ⟨hr, hf⟩ := List.mem_filter.1 hi
  exact ⟨i, List.mem_range.1 hr, hf, he⟩

theorem bindingModeOfCode_eq_some {n : Nat} {m : BindingMode} (h : bindingModeOfCode n = some m) :
    n < 3 ∧ m = if n = 0 then .switch else if n = 1 then .inverse else .level := by
  unfold bindingModeOfCode at h
  split at h <;> simp_all

theorem fallbackOfCode_eq_some {n : Nat} {f : Fallback} (h : fallbackOfCode n = some f) :
    n < 3 ∧ f = if n = 0 then .hold else if n = 1 then .off else .full := by
  unfold fallbackOfCode at h
  split at h <;> simp_all

theorem channelOfByte_eq_some {b : Byte} {c : Channel} (h : channelOfByte b = some c) : c.val = b.toNat := by
  unfold channelOfByte at h
  split at h
  · rw [← Option.some.inj h]
  · cases h

/-- R39, section 12.4: what a record holds. -/
theorem bindingRecord_eq_some {i : Nat} {b : Binding} (h : bindingRecord image i = some b) :
    let byte := fun j => imageByte image (bindingBase i + j)
    b.index = i ∧ b.source.toNat = byte 1 ∧ b.source.toNat < 252 ∧ b.target.val = byte 2 ∧ b.threshold.toNat = byte 3
      ∧ b.staleness = byte 4 ∧ b.mask.toNat = imageWord image (bindingBase i + 6) ∧ b.held = 0
      ∧ bindingModeOfCode (byte 0 / 16 % 4) = some b.mode ∧ fallbackOfCode (byte 0 % 4) = some b.fallback := by
  have hbyte : ∀ j, (BitVec.ofNat 8 (imageByte image (bindingBase i + j))).toNat = imageByte image (bindingBase i + j) :=
    fun j => by
      rw [BitVec.toNat_ofNat]
      exact Nat.mod_eq_of_lt (imageByte_lt _ _)
  have hword : (BitVec.ofNat 16 (imageWord image (bindingBase i + 6))).toNat = imageWord image (bindingBase i + 6) := by
    rw [BitVec.toNat_ofNat]
    exact Nat.mod_eq_of_lt (imageWord_lt _ _)
  unfold bindingRecord at h
  dsimp only at h
  split at h
  · next ht hm hf =>
    split at h
    · next hs =>
      rw [← Option.some.inj h]
      exact ⟨rfl, hbyte 1, (hbyte 1).trans_lt hs, (channelOfByte_eq_some ht).trans (hbyte 2), hbyte 3, rfl, hword, rfl,
        hm, hf⟩
    · cases h
  · cases h

/-! ### Channel records (R175) -/

theorem switchRating_le (c : Channel) : 1 ≤ switchRating c ∧ switchRating c ≤ 1023 := by
  unfold switchRating
  split <;> omega

theorem channelConfig_nominal (c : Channel) : (channelConfig image c).nominal
    = max 1 (min (imageWord image (channelBase c + 4)) (switchRating c)) := clamp_eq (switchRating_le c).1 _

theorem channelConfig_iTrip (c : Channel) : (channelConfig image c).iTrip
    = max (channelConfig image c).nominal (min (imageWord image (channelBase c + 6)) 1023) := by
  refine clamp_eq ?_ _
  rw [clamp_eq (switchRating_le c).1]
  have := (switchRating_le c).2
  omega

theorem channelConfig_minDuty (c : Channel) :
    (channelConfig image c).minDuty.toNat = max 1 (imageByte image (channelBase c + 9)) := by
  have := imageByte_lt image (channelBase c + 9)
  show (BitVec.ofNat 8 (max (imageByte image (channelBase c + 9)) 1)).toNat = _
  rw [BitVec.toNat_ofNat]
  omega

theorem channelConfig_tier (c : Channel) : (channelConfig image c).tier.val = min (imageByte image (channelBase c)) 3 := by
  show (min (imageByte image (channelBase c)) 3) % 4 = _
  omega

end Sys2Proof.Machine

/-- Settles O16. -/
theorem installedFieldsLieInRange : Obligations.InstalledFieldsLieInRange := by
  open Sys2Proof.Machine Sys2Proof in
  intro image
  refine ⟨⟨rfl, rfl, rfl, rfl, clamp_eq (by decide) _, fun b => ?_⟩, clampThresholds_eq _ _ _, fun c => ?_, fun b hb => ?_⟩
  · exact (Vector.getElem_ofFn _).trans rfl
  · refine ⟨channelConfig_tier c, rfl, rfl, channelConfig_nominal c, ?_, clamp_eq (by decide) _, channelConfig_minDuty c,
      clamp_eq (by decide) _, rfl, rfl, Nat.max_comm _ _, clamp_eq (by decide) _, installedAction_cases _ _,
      installedAction_cases _ _, installedAction_cases _ _, installedAction_cases _ _, installedAction_cases _ _,
      Nat.max_comm _ _, rfl, rfl, rfl, rfl, rfl, fun w => activityOfCode_eq_some⟩
    rw [channelConfig_iTrip, channelConfig_nominal]
    rfl
  · obtain ⟨i, hi, hflag, hrec⟩ := bindingRecord_of_mem hb
    obtain ⟨rfl, hs, hlt, ht, hth, hst, hm, hh, hmode, hfall⟩ := bindingRecord_eq_some hrec
    obtain ⟨hm3, hmode⟩ := bindingModeOfCode_eq_some hmode
    obtain ⟨hf3, hfall⟩ := fallbackOfCode_eq_some hfall
    exact ⟨hi, hflag, hs, hlt, ht, hth, hst, hm, hh, hm3, hf3, hmode, hfall⟩
end

-- ==== Proofs: ops ====
section
/-! SUPPORT. Operations at one channel while no channel waits for a slot: nothing else changes (`State.Touches`), and what
the channel's record becomes. -/

namespace Sys2Proof.Machine

variable {s t u : State} {c d : Channel} {f : ChannelRecord → ChannelRecord} {k : FaultKind}

/-! ### One channel touched -/

/-- Activity at one channel, with no channel waiting for a slot afterwards: no other record changes, and no binding. -/
structure State.Touches (c : Channel) (s t : State) : Prop where
  acts : s.Acts t
  bind : t.bind = s.bind
  noQueue : t.sequencer.queue = []
  others : ∀ d, d ≠ c → t.chan d = s.chan d

theorem State.Touches.refl (h : s.sequencer.queue = []) : State.Touches c s s := ⟨State.Acts.refl s, rfl, h, fun _ _ => rfl⟩

theorem State.Touches.trans (h : State.Touches c s t) (k : State.Touches c t u) : State.Touches c s u where
  acts := h.acts.trans k.acts
  bind := k.bind.trans h.bind
  noQueue := k.noQueue
  others d hd := (k.others d hd).trans (h.others d hd)

/-- What touches one channel leaves nothing to follow. -/
theorem State.Touches.plain (h : State.Touches c s t) (p : s.Plain) : t.Plain :=
  ⟨h.bind ▸ p.noFollower, h.noQueue⟩

/-- The other records once the event has ended. -/
theorem State.Touches.echoed_others (h : State.Touches c s t) (hd : d ≠ c) : t.echoed.chan d = (s.chan d).followed := by
  rw [State.echoed_chan, h.others d hd]

theorem State.touches_modChan (h : s.sequencer.queue = []) : State.Touches c s (s.modChan c f) :=
  ⟨s.acts_modChan c f, rfl, h, fun _ hd => State.modChan_chan_ne _ hd _⟩

theorem State.touches_enter (h : s.sequencer.queue = []) : State.Touches c s (s.enter c f) :=
  ⟨State.acts_enter c f s, by simp, State.enter_noQueue c f h, fun _ hd => State.enter_chan_ne hd f s⟩

theorem State.touches_setQueue (h : s.sequencer.queue = []) (q : List TxEntry) : State.Touches c s (s.setQueue q) :=
  ⟨s.acts_setQueue q, rfl, h, fun _ _ => rfl⟩

theorem State.touches_setEntries (h : s.sequencer.queue = []) (es : List IntentEntry) : State.Touches c s (s.setEntries es) :=
  ⟨s.acts_setEntries es, rfl, h, fun _ _ => rfl⟩

theorem State.touches_send (h : s.sequencer.queue = []) (x : TxFrame) : State.Touches c s (s.send x) := by
  obtain ⟨q, e⟩ := State.send_eq x s
  rw [e]
  exact State.touches_setQueue h q

theorem State.touches_requestStatus (h : s.sequencer.queue = []) (d : Channel) : State.Touches c s (s.requestStatus d) := by
  obtain ⟨q, e⟩ := State.requestStatus_eq d s
  rw [e]
  exact State.touches_setQueue h q

theorem State.touches_takeFault (h : s.sequencer.queue = []) : State.Touches c s (s.takeFault c k) := by
  have hm : ∀ f, State.Touches c s ((s.modChan c f).requestStatus c) :=
    fun f => (State.touches_modChan h).trans (State.touches_requestStatus (by exact h) c)
  have he : ∀ f, State.Touches c s ((s.enter c f).requestStatus c) := fun f =>
    (State.touches_enter h).trans (State.touches_requestStatus (State.enter_noQueue c f h) c)
  unfold State.takeFault
  dsimp only
  split
  · exact hm _
  · split
    · cases (s.chan c).cfg.actionFor k with
      | latch => exact he _
      | retry => exact he _
      | report => exact hm _
      | ignore => exact .refl h
    · exact .refl h

theorem State.touches_startChannel (h : s.sequencer.queue = []) : State.Touches c s (s.startChannel c) := by
  have h1 : State.Touches c s (s.enter c (·.toStarting)) := State.touches_enter h
  unfold State.startChannel
  dsimp only
  split
  · exact h1.trans (State.touches_takeFault h1.noQueue)
  · exact h1

theorem State.touches_freeSlot (h : s.sequencer.queue = []) : State.Touches c s (s.freeSlot c) := by
  have hq : ∀ q : StartSequencer, q.queue = [] → State.Touches c s { s with sequencer := q } :=
    fun q hq => ⟨s.acts_sequencer q, rfl, hq, fun _ _ => rfl⟩
  unfold State.freeSlot
  rw [State.handSlots_of_noQueue (by exact h)]
  exact hq _ h

theorem State.touches_handFault (h : s.sequencer.queue = []) : State.Touches c s (s.handFault c k) := by
  unfold State.handFault
  split
  · exact (State.touches_freeSlot h).trans (State.touches_takeFault (State.touches_freeSlot (c := c) h).noQueue)
  · exact State.touches_takeFault h

theorem State.touches_announce (h : s.sequencer.queue = []) : State.Touches c s (s.announce c) := by
  have h1 : State.Touches c s (s.enter c (·.idle .pending)) := State.touches_enter h
  unfold State.announce
  dsimp only
  split
  · next ho =>
    obtain ⟨_, q, _, rfl⟩ := State.offer_eq_some ho
    exact h1.trans (State.touches_setQueue h1.noQueue q)
  · exact h1.trans (State.touches_enter h1.noQueue)

theorem State.touches_undoAnnouncement (h : s.sequencer.queue = []) : State.Touches c s (s.undoAnnouncement c) := by
  unfold State.undoAnnouncement
  split
  · exact State.touches_setQueue h _
  · split
    · exact (State.touches_setEntries h _).trans (State.touches_send (by exact h) _)
    · exact .refl h

theorem State.touches_beginRequest (h : s.sequencer.queue = []) : State.Touches c s (s.beginRequest c) := by
  have hstart : State.Touches c s (s.startChannel c) := State.touches_startChannel h
  have hdefer : State.Touches c s (s.enter c (·.idle .deferred)) := State.touches_enter h
  unfold State.beginRequest
  split
  · exact .refl h
  · split
    · exact hstart
    · exact .refl h
  · split
    · exact hstart
    · exact State.touches_announce h
  all_goals
    split
    · exact hstart
    · exact hdefer

theorem State.touches_requestRise (h : s.sequencer.queue = []) : State.Touches c s (s.requestRise c) := by
  unfold State.requestRise
  split
  · exact State.touches_beginRequest h
  · exact .refl h

theorem State.touches_requestFall (h : s.sequencer.queue = []) : State.Touches c s (s.requestFall c) := by
  have hundo : State.Touches c s (s.undoAnnouncement c) := State.touches_undoAnnouncement h
  have hfree : State.Touches c s (s.freeSlot c) := State.touches_freeSlot h
  unfold State.requestFall
  split
  · exact hundo.trans (State.touches_enter hundo.noQueue)
  · exact hfree.trans (State.touches_enter hfree.noQueue)
  iterate 5 exact State.touches_enter h
  all_goals exact .refl h

theorem State.touches_applyRequest (h : s.sequencer.queue = []) : State.Touches c s (s.applyRequest c) := by
  have h1 : ∀ v, State.Touches c s (s.modChan c (·.withRequest v)) := fun v => State.touches_modChan h
  unfold State.applyRequest
  dsimp only
  split
  · exact .refl h
  · split
    · exact (h1 _).trans (State.touches_requestRise h)
    · split
      · exact (h1 _).trans (State.touches_requestFall h)
      · exact h1 _

theorem State.touches_setRaw (h : s.sequencer.queue = []) (v : Byte) : State.Touches c s (s.setRaw c v) := by
  unfold State.setRaw
  split
  · exact .refl h
  · exact (State.touches_modChan h).trans (State.touches_applyRequest h)

theorem State.touches_freshStart (h : s.sequencer.queue = []) : State.Touches c s (s.freshStart c) := by
  have h1 : State.Touches c s (s.enter c (·.idle .off)) := State.touches_enter h
  unfold State.freshStart
  dsimp only
  split
  · exact h1
  · exact h1.trans (State.touches_beginRequest h1.noQueue)

theorem State.touches_release (h : s.sequencer.queue = []) : State.Touches c s (s.release c) := by
  unfold State.release
  split
  · exact State.touches_enter h
  · exact State.touches_freshStart h

theorem State.touches_tryCooldownExit (h : s.sequencer.queue = []) : State.Touches c s (s.tryCooldownExit c) := by
  unfold State.tryCooldownExit
  split
  · exact State.touches_release h
  · exact .refl h

/-! ### Starts (R85, R115) -/

/-- R115: a start over a hot switch is stopped by THERMAL at its entry. -/
theorem State.startChannel_hot (h : (s.chan c).prot.hot = true) : (s.chan c).StoppedHot ((s.startChannel c).chan c) := by
  have h1 : ((s.enter c (·.toStarting)).chan c) = (s.chan c).toStarting := State.enter_chan_self c _ s
  have hh : (s.chan c).toStarting.prot.hot = true := h
  have hq : (s.startChannel c).chan c = (s.chan c).toStarting.retryStop .thermal := by
    unfold State.startChannel
    dsimp only
    rw [h1, if_pos hh]
    unfold State.takeFault
    dsimp only
    rw [h1]
    have ht : (s.chan c).toStarting.takesFault .thermal = true := rfl
    have ha : (s.chan c).toStarting.cfg.actionFor .thermal = .retry := rfl
    have hn : ((s.chan c).toStarting.state == .cooldown && FaultKind.thermal == .thermal) = false := rfl
    rw [if_neg (Bool.eq_false_iff.1 hn), if_pos ht, ha, State.requestStatus_chan, State.enter_chan_self, h1]
  rw [hq]
  unfold ChannelRecord.StoppedHot ChannelRecord.retryStop
  dsimp only
  have hlimit : (s.chan c).toStarting.cfg.retryLimit = (s.chan c).cfg.retryLimit := rfl
  have hcount : (s.chan c).toStarting.retryCount = (s.chan c).retryCount := rfl
  rw [hlimit, hcount]
  split
  · exact ⟨rfl, rfl, rfl, rfl, rfl, rfl, rfl⟩
  · exact ⟨rfl, rfl, rfl, rfl, rfl, rfl, rfl⟩

/-! ### Beginning (R11, R12, R22) -/

theorem State.beginRequest_tier0 (hm : s.mode ≠ .configuring) (ht : (s.chan c).cfg.tier = 0) :
    s.beginRequest c = s.startChannel c := by
  unfold State.beginRequest
  split
  · next h => exact absurd h hm
  all_goals rw [if_pos ht]

theorem State.beginRequest_running (hm : s.mode = .running) (ht : (s.chan c).cfg.tier ≠ 0) :
    s.beginRequest c = s.announce c := by
  unfold State.beginRequest
  rw [hm]
  exact if_neg ht

theorem State.beginRequest_defers (hm : s.mode = .listening ∨ s.mode = .isolated ∨ s.mode = .clashed)
    (ht : (s.chan c).cfg.tier ≠ 0) : s.beginRequest c = s.enter c (·.idle .deferred) := by
  unfold State.beginRequest
  rcases hm with hm | hm | hm <;> rw [hm] <;> exact if_neg ht

/-- R13 to R21: the states that a fall of the request ends. -/
def ChannelState.falls : ChannelState → Bool
  | .pending | .deferred | .slotwait | .starting | .on | .cycling | .shed => true
  | .off | .cooldown | .latched | .inhibited => false

/-- R13 to R21: the record after a fall of the request. -/
theorem State.requestFall_chan (h : s.sequencer.queue = []) :
    (s.requestFall c).chan c = if (s.chan c).state.falls then (s.chan c).idle .off else s.chan c := by
  unfold State.requestFall
  split
  all_goals
    next hs => simp [hs, ChannelState.falls, State.freeSlot_chan h]

/-- R21, R136: a channel without a request is OFF when it is free to run again. -/
theorem State.freshStart_off (he : (s.chan c).eff = 0) : s.freshStart c = s.enter c (·.idle .off) := by
  unfold State.freshStart
  dsimp only
  rw [State.enter_chan_self]
  exact if_pos he

/-- R21, R136: a channel with a request begins when it is free to run again. -/
theorem State.freshStart_begins (he : (s.chan c).eff ≠ 0) : s.freshStart c = (s.enter c (·.idle .off)).beginRequest c := by
  unfold State.freshStart
  dsimp only
  rw [State.enter_chan_self]
  exact if_neg he

end Sys2Proof.Machine
end

-- ==== Proofs: request ====
section
/-! SUPPORT. Changes of the effective request (R5, R10), folds over channels, and a source's single target. -/

namespace Sys2Proof.Machine

variable {s t u : State} {c d : Channel} {v : Byte}

/-! ### The effective request (R5, R10) -/

theorem State.applyRequest_same (h : (s.chan c).effectiveRequest = (s.chan c).eff) : s.applyRequest c = s := if_pos h

theorem State.applyRequest_level (h : (s.chan c).effectiveRequest ≠ (s.chan c).eff) (he : (s.chan c).eff ≠ 0)
    (hv : (s.chan c).effectiveRequest ≠ 0) :
    s.applyRequest c = s.modChan c (·.withRequest (s.chan c).effectiveRequest) := by
  unfold State.applyRequest
  dsimp only
  rw [if_neg h, if_neg he, if_neg hv]

theorem State.applyRequest_rise (h : (s.chan c).effectiveRequest ≠ 0) (he : (s.chan c).eff = 0) :
    s.applyRequest c = (s.modChan c (·.withRequest (s.chan c).effectiveRequest)).requestRise c := by
  unfold State.applyRequest
  dsimp only
  rw [if_neg (by rwa [he]), if_pos he]

theorem State.applyRequest_fall (h : (s.chan c).effectiveRequest = 0) (he : (s.chan c).eff ≠ 0) :
    s.applyRequest c = (s.modChan c (·.withRequest 0)).requestFall c := by
  unfold State.applyRequest
  dsimp only
  rw [if_neg (by rw [h]; exact Ne.symm he), if_neg he, if_pos h, h]

/-- R13 to R21: the record once its request has fallen. -/
theorem State.applyRequest_fall_chan (hq : s.sequencer.queue = []) (h : (s.chan c).effectiveRequest = 0)
    (he : (s.chan c).eff ≠ 0) : (s.applyRequest c).chan c =
      if (s.chan c).state.falls then ((s.chan c).withRequest 0).idle .off else (s.chan c).withRequest 0 := by
  have hf := State.requestFall_chan (s := s.modChan c (·.withRequest 0)) (c := c) hq
  rw [State.modChan_chan_self] at hf
  rw [State.applyRequest_fall h he, hf]
  rfl

/-- R5: what a change of the request at a record gives where the request falls. -/
theorem State.ask_fall {f : ChannelRecord → ChannelRecord} (hq : s.sequencer.queue = [])
    (h : (f (s.chan c)).effectiveRequest = 0) (he : (f (s.chan c)).eff ≠ 0) (hs : (f (s.chan c)).state.falls = true) :
    ((s.modChan c f).applyRequest c).chan c = ((f (s.chan c)).withRequest 0).idle .off := by
  have h1 := State.modChan_chan_self s c f
  have h2 := State.applyRequest_fall_chan (s := s.modChan c f) (c := c) hq (by rwa [h1]) (by rwa [h1])
  rw [h1, if_pos hs] at h2
  exact h2

/-- R5: what a change of the request at a record gives where a request stands before and after. -/
theorem State.ask_level {f : ChannelRecord → ChannelRecord} (he : (f (s.chan c)).eff ≠ 0)
    (h : (f (s.chan c)).effectiveRequest ≠ 0) : ((s.modChan c f).applyRequest c).chan c =
      if (f (s.chan c)).effectiveRequest = (f (s.chan c)).eff then f (s.chan c)
      else (f (s.chan c)).withRequest (f (s.chan c)).effectiveRequest := by
  have h1 := State.modChan_chan_self s c f
  split
  · next e => rw [State.applyRequest_same (by rwa [h1]), h1]
  · next e => rw [State.applyRequest_level (by rwa [h1]) (by rwa [h1]) (by rwa [h1]), State.modChan_chan_self, h1]

/-- R5: a change of a record, and of the request that follows. -/
theorem State.touches_ask {f : ChannelRecord → ChannelRecord} (hq : s.sequencer.queue = []) :
    State.Touches c s ((s.modChan c f).applyRequest c) :=
  (State.touches_modChan hq).trans (State.touches_applyRequest hq)

theorem State.setRaw_same (h : v = (s.chan c).raw) : s.setRaw c v = s := if_pos h

/-- R34, R153: the record with a raw request handed to it. -/
def ChannelRecord.withRaw (v : Byte) (r : ChannelRecord) : ChannelRecord := { r with raw := v, hold := r.hold && v != 0 }

theorem State.setRaw_ne (h : v ≠ (s.chan c).raw) : s.setRaw c v = (s.modChan c (·.withRaw v)).applyRequest c := if_neg h

/-- R10: a rise acts in OFF alone. -/
theorem State.requestRise_off (h : (s.chan c).state = .off) : s.requestRise c = s.beginRequest c := by
  simp [State.requestRise, h]

/-! ### Folds over channels -/

/-- A fold of operations that each change the record of their own channel alone. -/
theorem State.foldl_chan {op : State → Channel → State} {F : ChannelRecord → ChannelRecord}
    (self : ∀ (s : State) (c : Channel), (op s c).chan c = F (s.chan c))
    (others : ∀ (s : State) (c d : Channel), d ≠ c → (op s c).chan d = s.chan d) (l : List Channel) (hl : l.Nodup) :
    ∀ (s : State) (d : Channel), (l.foldl op s).chan d = if d ∈ l then F (s.chan d) else s.chan d := by
  induction l with
  | nil => simp
  | cons c l ih =>
    intro s d
    obtain ⟨hc, hl⟩ := List.nodup_cons.1 hl
    rw [List.foldl_cons, ih hl]
    by_cases e : d = c
    · rw [e, if_neg hc, if_pos List.mem_cons_self, self]
    · rw [others s c d e]
      simp [e]

theorem allChannels_nodup : allChannels.Nodup := List.nodup_finRange 20

theorem mem_allChannels (c : Channel) : c ∈ allChannels := List.mem_finRange c

/-- R151: the record after an edge of an activity input. -/
def ChannelRecord.edged (i : WiredInput) (r : ChannelRecord) : ChannelRecord :=
  if r.cfg.activityInput = some i then r.reloadAutoOff else r

theorem State.activityEdge_chan (i : WiredInput) (s : State) (d : Channel) :
    (s.activityEdge i).chan d = (s.chan d).edged i := by
  unfold State.activityEdge
  rw [State.foldl_chan (F := ChannelRecord.edged i) (fun s c => ?_) (fun s c d hd => ?_) _ allChannels_nodup,
    if_pos (mem_allChannels d)]
  · unfold ChannelRecord.edged
    by_cases h : (s.chan c).cfg.activityInput = some i <;> simp [h]
  · by_cases h : (s.chan c).cfg.activityInput = some i <;> simp [h, State.modChan_chan_ne _ hd]

/-- R151: the record after a sign of use. -/
theorem ChannelRecord.reloadAutoOff_eq (r : ChannelRecord) : r.reloadAutoOff = { r with
    autoOff := if r.state = .starting ∨ r.state = .on ∨ r.state = .cycling then r.cfg.autoOffFull else r.autoOff } := by
  unfold ChannelRecord.reloadAutoOff
  split
  · next h => rw [if_pos (by simpa [or_assoc] using h)]
  · next h => rw [if_neg (by simpa [or_assoc] using h)]

theorem ChannelRecord.edged_eq (i : WiredInput) (r : ChannelRecord) : r.edged i = { r with
    autoOff := if r.cfg.activityInput = some i ∧ (r.state = .starting ∨ r.state = .on ∨ r.state = .cycling)
      then r.cfg.autoOffFull else r.autoOff } := by
  unfold ChannelRecord.edged
  rw [ChannelRecord.reloadAutoOff_eq]
  by_cases h : r.cfg.activityInput = some i <;> simp [h]

theorem State.activityEdge_sequencer (i : WiredInput) (s : State) : (s.activityEdge i).sequencer = s.sequencer := by
  refine List.foldlRecOn (motive := fun (t : State) => t.sequencer = s.sequencer) _ _ rfl fun t ht c _ => ?_
  split
  · exact ht
  · exact ht

theorem State.activityEdge_bind (i : WiredInput) (s : State) : (s.activityEdge i).bind = s.bind := by
  refine List.foldlRecOn (motive := fun (t : State) => t.bind = s.bind) _ _ rfl fun t ht c _ => ?_
  split
  · exact ht
  · exact ht

/-! ### Sources (R25, R36) -/

theorem State.targetsOf_nil (h : s.bind.bindings = []) (n : Byte) : s.targetsOf n = [] := by
  simp [State.targetsOf, h]

/-- A source that one channel's bindings name alone. -/
theorem State.targetsOf_single {n : Byte} {b : Binding} (hb : b ∈ s.bind.bindings) (hn : b.source = n) (hc : b.target = c)
    (hone : ∀ x ∈ s.bind.bindings, x.source = n → x.target = c) : s.targetsOf n = [c] := by
  have hp : ∀ d : Channel, (s.bind.bindings.any fun x => x.source == n && x.target == d) = (d == c) := by
    intro d
    rw [Bool.eq_iff_iff, List.any_eq_true, beq_iff_eq]
    constructor
    · rintro ⟨x, hx, e⟩
      obtain ⟨e1, e2⟩ : x.source = n ∧ x.target = d := by simpa using e
      rw [← e2, hone x hx e1]
    · rintro rfl
      exact ⟨b, hb, by simp [hn, hc]⟩
  unfold State.targetsOf
  simp only [hp]
  rw [List.filter_beq, List.count_eq_one_of_mem allChannels_nodup (mem_allChannels c)]
  rfl

end Sys2Proof.Machine
end

-- ==== Proofs: signal ====
section
/-! SUPPORT. A SIGNAL pair on a source that one binding names (R27, R31 to R35). -/

namespace Sys2Proof.Machine

variable {s t u : State} {c d : Channel} {v n : Byte} {b : Binding} {sender : Station}

@[simp] theorem State.heardFrame_wired (s : State) : s.heardFrame.wired = s.wired := by
  unfold State.heardFrame
  split <;> rfl

/-- R25: what the value of a source reads. -/
theorem State.sourceValue_congr (he : t.bind.entry n = s.bind.entry n) (hw : t.wired = s.wired)
    (hc : ∀ d, (t.chan d).echoTaken = (s.chan d).echoTaken) : t.sourceValue n = s.sourceValue n := by
  unfold State.sourceValue State.valueOf State.wiredValue
  rw [BitVec.ofNat_toNat, BitVec.setWidth_eq, he, hw, hc]

/-- R31 to R33: what an evaluation reads. -/
theorem State.evaluate_congr (he : t.bind.entry b.source = s.bind.entry b.source) (hw : t.wired = s.wired)
    (hc : ∀ d, (t.chan d).echoTaken = (s.chan d).echoTaken) : t.evaluate b = s.evaluate b := by
  have hj : t.judgeFresh b = s.judgeFresh b := by
    unfold State.judgeFresh
    rw [he]
  unfold State.evaluate
  rw [hj, State.sourceValue_congr he hw hc]

/-- R27: the Signal Table once a pair is taken. -/
def takenTable (sender : Station) (n v : Byte) (l : List SignalEntry) : List SignalEntry :=
  l.map fun e => if e.signal = n then { e with value := v, publisher := some sender, age := 0, taken := true } else e

/-- R27: the state once a pair is taken by the table. -/
def State.taken (sender : Station) (n v : Byte) (s : State) : State :=
  { s with bind := { s.bind with table := takenTable sender n v s.bind.table } }

/-- R27: the entry of a pair taken. -/
theorem entry_takenTable (m : BindingMap) (h : ∃ e ∈ m.table, e.signal = n) :
    ∃ e, BindingMap.entry { m with table := takenTable sender n v m.table } n = some e ∧ e.value = v
      ∧ e.publisher = some sender ∧ e.age = 0 ∧ e.taken = true := by
  unfold BindingMap.entry takenTable
  obtain ⟨e, he, hn⟩ := h
  have hsome : (m.table.find? fun e => e.signal == n).isSome = true := List.find?_isSome.2 ⟨e, he, by simp [hn]⟩
  obtain ⟨x, hx⟩ := Option.isSome_iff_exists.1 hsome
  have hxn : x.signal = n := by simpa using List.find?_some hx
  have hp : ((fun e : SignalEntry => e.signal == n) ∘
      fun e => if e.signal = n then { e with value := v, publisher := some sender, age := 0, taken := true } else e)
      = fun e => e.signal == n := by
    funext e
    simp only [Function.comp]
    split <;> rfl
  rw [List.find?_map, hp, hx]
  exact ⟨_, rfl, by simp [hxn]⟩

/-- R27: the entries of the other signals. -/
theorem entry_takenTable_ne (m : BindingMap) {k : Byte} (h : k ≠ n) :
    BindingMap.entry { m with table := takenTable sender n v m.table } k = m.entry k := by
  unfold BindingMap.entry takenTable
  have hp : ((fun e : SignalEntry => e.signal == k) ∘
      fun e => if e.signal = n then { e with value := v, publisher := some sender, age := 0, taken := true } else e)
      = fun e => e.signal == k := by
    funext e
    simp only [Function.comp]
    split <;> rfl
  rw [List.find?_map, hp]
  cases hx : m.table.find? fun e => e.signal == k with
  | none => rfl
  | some x =>
    have hxk : x.signal = k := by simpa using List.find?_some hx
    have : x.signal ≠ n := hxk ▸ h
    simp [this]

/-- R31, R32: a binding on a pair just taken from a permitted publisher is FRESH. -/
theorem State.evaluate_of_entry {e : SignalEntry} (hn : b.source.toNat < 224) (he : s.bind.entry b.source = some e)
    (hv : e.value = v) (hp : e.publisher = some sender) (ha : e.age = 0) (ht : e.taken = true)
    (hm : inMask b.mask sender = true) :
    s.evaluate b = { b with
      fresh := true, held := b.mode.output v b.threshold, present := b.mode.output v b.threshold } := by
  have hj : s.judgeFresh b = true := by simp [State.judgeFresh, isLink, hn, he, hp, ha, ht, hm]
  have hs : s.sourceValue b.source = v := by simp [State.sourceValue, State.valueOf, hn, he, hv]
  unfold State.evaluate
  rw [if_pos hj, hs]

/-- R27, R34, R36: a pair on a signal that one binding names is taken, noticed where it is a change, and its channel
re-evaluated. -/
theorem execSignal_single (hm : s.mode ≠ .configuring) (hl : s.mode ≠ .limp) (hb : s.line.busOff = false)
    (ho : sender ≠ s.own) (he : ∃ e ∈ s.bind.table, e.signal = n) (hmem : b ∈ s.bind.bindings) (hn : b.source = n)
    (hc : b.target = c) (hmask : inMask b.mask sender = true) (hone : ∀ x ∈ s.bind.bindings, x.source = n → x.target = c) :
    exec (.signal sender [(n, v)]) s = .next ((if v = s.sourceValue n then s.heardFrame.taken sender n v
      else (s.heardFrame.taken sender n v).notice c).reevaluate c).settle := by
  have hentry : ∃ e, s.heardFrame.bind.entry n = some e := by
    obtain ⟨e, hmem, hs⟩ := he
    rw [State.heardFrame_bind]
    exact Option.isSome_iff_exists.1 (List.find?_isSome.2 ⟨e, hmem, by simp [hs]⟩)
  have hany : (s.heardFrame.bind.bindings.any fun x => x.source == n && inMask x.mask sender) = true := by
    rw [State.heardFrame_bind]
    exact List.any_eq_true.2 ⟨b, hmem, by simp [hn, hmask]⟩
  have hts : (s.heardFrame.taken sender n v).targetsOf n = [c] := by
    refine State.targetsOf_single (b := b) ?_ hn hc ?_
    · show b ∈ s.heardFrame.bind.bindings
      rwa [State.heardFrame_bind]
    · show ∀ x ∈ s.heardFrame.bind.bindings, _
      rwa [State.heardFrame_bind]
  have hval : s.heardFrame.sourceValue n = s.sourceValue n :=
    State.sourceValue_congr (by rw [State.heardFrame_bind]) (by simp) (fun d => by simp)
  have hmode : s.heardFrame.mode ≠ .limp := by
    rw [State.heardFrame_mode]
    split
    · simp
    · exact hl
  obtain ⟨e, hentry⟩ := hentry
  have htake : s.heardFrame.takeSignals sender [(n, v)]
      = (if v = s.sourceValue n then s.heardFrame.taken sender n v
        else (s.heardFrame.taken sender n v).notice c).reevaluate c := by
    unfold State.takeSignals
    rw [if_neg hmode]
    simp only [List.foldl_cons, List.foldl_nil, State.signalEntry, hentry, hany, if_true]
    unfold State.takeSignal
    dsimp only
    rw [hval]
    show (State.targetsOf (s.heardFrame.taken sender n v) n).foldl _ _ = _
    rw [hts]
    split
    · rfl
    · show State.reevaluate c ((State.targetsOf (s.heardFrame.taken sender n v) n).foldl _ _) = _
      rw [hts]
      rfl
  show Host.Outcome.next (s.receive sender (·.takeSignals sender [(n, v)])).settle = _
  rw [State.receive_other _ hm hb ho, htake]

end Sys2Proof.Machine
end

-- ==== Proofs: timers ====
section
/-! PROOFS. The auto-off time, the end of an override, and the reload by use (R150 to R154, R170): O47. -/

namespace Sys2Proof.Machine

variable {s t u : State} {c d : Channel} {v n : Byte} {b : Binding} {sender : Station}

theorem ChannelConfig.autoOffFull_eq (k : ChannelConfig) :
    k.autoOffFull = if k.autoOffTime = 0 then none else some (k.autoOffTime * 10000) := rfl

/-- R13 to R19: the record of a channel whose request has fallen to 0 is OFF. -/
theorem ChannelRecord.fallen_off {r : ChannelRecord} :
    let q := (r.withRequest 0).idle .off
    q.state = .off ∧ q.eff = 0 ∧ q.duty = 0 ∧ q.booking = 0 ∧ q.span = 0 ∧ q.autoOff = none :=
  ⟨rfl, rfl, rfl, rfl, rfl, rfl⟩

theorem ChannelState.falls_of_runs {st : ChannelState} (h : st = .starting ∨ st = .on ∨ st = .cycling) : st.falls = true := by
  rcases h with h | h | h <;> rw [h] <;> rfl

/-- R5: the effective request without an override. -/
theorem ChannelRecord.effectiveRequest_none {r : ChannelRecord} (h : r.override = none) :
    r.effectiveRequest = if r.hold then 0 else r.raw := by
  simp [ChannelRecord.effectiveRequest, h]

theorem ChannelRecord.effectiveRequest_some {r : ChannelRecord} {o : Override} (h : r.override = some o) :
    r.effectiveRequest = o.level := by
  simp [ChannelRecord.effectiveRequest, h]

theorem exec_autoOffExpiry (h : (s.chan c).autoOff = some 0) :
    exec (.autoOffExpiry c) s = .next ((s.modChan c (·.autoOffExpired)).applyRequest c).settle :=
  if_pos (by simp [ended, h])

theorem exec_overrideExpiry {o : Override} (h : (s.chan c).override = some o) (hl : o.left = 0) :
    exec (.overrideExpiry c) s = .next (s.endOverride c).settle := by
  show execOverrideExpiry c s = _
  unfold execOverrideExpiry
  rw [h]
  exact if_pos hl

/-- The state after an operation at one channel of a state in which nothing follows. -/
theorem State.Touches.settle (h : State.Touches c s t) (p : s.Plain) : t.settle = t.echoed := (h.plain p).settle

/-- R170: a record whose override has ended. -/
def ChannelRecord.unoverridden (r : ChannelRecord) : ChannelRecord := { r with override := none }

theorem State.endOverride_eq (c : Channel) (s : State) :
    s.endOverride c = (s.modChan c (·.unoverridden)).applyRequest c := rfl

theorem maxByte_zero (v : Byte) : maxByte 0 v = v := by
  unfold maxByte
  split
  · rfl
  · next h =>
    refine BitVec.eq_of_toNat_eq ?_
    have : ¬(0 : Byte).toNat < v.toNat := fun hn => h (BitVec.lt_def.2 hn)
    have h0 : v.toNat = 0 := by simpa using this
    rw [h0]
    rfl

/-- R32: the output of each mode. -/
theorem BindingMode.output_eq (m : BindingMode) (v h : Byte) : m.output v h =
    (match m with
      | .switch => if h.toNat ≤ v.toNat then 255 else 0
      | .inverse => if v.toNat < h.toNat then 255 else 0
      | .level => v) := by
  cases m with
  | switch => simp [BindingMode.output, BitVec.le_def]
  | inverse => simp [BindingMode.output, BitVec.lt_def]
  | level => rfl

/-- R36, R150: a taken pair whose one binding asks for what was asked before changes nothing but the auto-off time. -/
theorem execSignal_reload {e : SignalEntry} (p : s.Plain) (hm : s.mode ≠ .configuring) (hl : s.mode ≠ .limp)
    (hb : s.line.busOff = false) (ho : sender ≠ s.own) (hbs : s.bind.bindings = [b]) (ht : s.bind.table = [e])
    (he : e.signal = n) (hlink : n.toNat < 224) (hn : b.source = n) (hc : b.target = c)
    (hmask : inMask b.mask sender = true) (hout : b.mode.output v b.threshold = (s.chan c).raw) :
    Answers (exec (.signal sender [(n, v)]) s) fun t =>
      t.chan c = (if v = e.value then s.chan c else (s.chan c).reloadAutoOff).followed
        ∧ ∀ d, d ≠ c → t.chan d = (s.chan d).followed := by
  have hval : s.sourceValue n = e.value := by
    simp [State.sourceValue, State.valueOf, hlink, BindingMap.entry, ht, he]
  rw [execSignal_single hm hl hb ho ⟨e, by simp [ht], he⟩ (b := b) (by simp [hbs]) hn hc hmask
    (fun x hx _ => by rw [hbs, List.mem_singleton] at hx; rw [hx, hc]), hval]
  refine ⟨_, rfl, ?_⟩
  generalize hu : (if v = e.value then s.heardFrame.taken sender n v
    else (s.heardFrame.taken sender n v).notice c) = u
  have hbind : u.bind = (s.heardFrame.taken sender n v).bind := by
    rw [← hu]
    split <;> rfl
  have hseq : u.sequencer.queue = [] := by
    have : u.sequencer = s.heardFrame.sequencer := by
      rw [← hu]
      split <;> rfl
    rw [this, State.heardFrame_sequencer]
    exact p.noQueue
  have hchan : u.chan c = if v = e.value then s.chan c else (s.chan c).reloadAutoOff := by
    rw [← hu]
    split
    · exact s.heardFrame_chan c
    · exact (State.modChan_chan_self _ c _).trans (congrArg _ (s.heardFrame_chan c))
  have hothers : ∀ d, d ≠ c → u.chan d = s.chan d := fun d hd => by
    rw [← hu]
    split
    · exact s.heardFrame_chan d
    · exact (State.modChan_chan_ne _ hd _).trans (s.heardFrame_chan d)
  have hubs : u.bind.bindings = [b] := by
    rw [hbind]
    exact (congrArg BindingMap.bindings s.heardFrame_bind).trans hbs
  obtain ⟨x, hx, hxv, hxp, hxa, hxt⟩ := entry_takenTable (sender := sender) (n := n) (v := v) s.heardFrame.bind
    ⟨e, by rw [State.heardFrame_bind, ht]; exact List.mem_singleton_self e, he⟩
  have heval : u.evaluate b = { b with
      fresh := true, held := b.mode.output v b.threshold, present := b.mode.output v b.threshold } := by
    refine State.evaluate_of_entry (hn ▸ hlink) ?_ hxv hxp hxa hxt hmask
    rw [hbind, hn]
    exact hx
  have hraw : (u.chan c).raw = b.mode.output v b.threshold := by
    rw [hchan, hout]
    split
    · rfl
    · rw [ChannelRecord.reloadAutoOff_eq]
  have hre : u.reevaluate c = u.setBindings [u.evaluate b] := by
    unfold State.reevaluate
    dsimp only
    rw [hubs, List.map_singleton, if_pos hc, State.setRaw_same, State.handSlots_of_noQueue]
    · exact hseq
    · show BindingMap.rawOf _ c = (u.chan c).raw
      rw [hraw, heval]
      simpa [BindingMap.rawOf, hc] using maxByte_zero _
  have hplain : (u.setBindings [u.evaluate b]).Plain := by
    refine ⟨fun y hy => ?_, hseq⟩
    obtain rfl := List.mem_singleton.1 hy
    rw [heval, hn]
    omega
  rw [hre, hplain.settle]
  refine ⟨?_, fun d hd => ?_⟩
  · rw [State.echoed_chan]
    exact congrArg _ hchan
  · rw [State.echoed_chan]
    exact congrArg _ (hothers d hd)

/-- R37: the state once the debounced level has taken the pin's. -/
def State.debouncedInput (i : WiredInput) (s : State) : State :=
  s.setWired i { s.wired[i] with debounced := (s.wired[i]).pin, timer := none }

theorem State.debouncedChange_limp {i : WiredInput} (h : s.mode = .limp) :
    s.debouncedChange i = ((s.debouncedInput i).activityEdge i).limpFollow i := if_pos h

theorem State.debouncedChange_bound {i : WiredInput} (h : s.mode ≠ .limp) :
    s.debouncedChange i = ((s.debouncedInput i).activityEdge i).sourceChanged (wiredSource i) := if_neg h

theorem exec_debounceExpiry {i : WiredInput} (h : (s.wired[i]).timer = some 0) :
    exec (.debounceExpiry i) s = .next (s.debouncedChange i).settle := by
  refine if_pos ?_
  rw [h]
  rfl

/-- R37, R151: the state once the debounced level has changed and the activity inputs have been noticed. -/
theorem State.edge_chan (i : WiredInput) (s : State) (d : Channel) :
    ((s.debouncedInput i).activityEdge i).chan d = (s.chan d).edged i := State.activityEdge_chan i _ d

theorem State.edge_plain (i : WiredInput) (p : s.Plain) : ((s.debouncedInput i).activityEdge i).Plain :=
  ⟨by rw [State.activityEdge_bind]; exact p.noFollower, by rw [State.activityEdge_sequencer]; exact p.noQueue⟩

theorem State.edge_bind (i : WiredInput) (s : State) : ((s.debouncedInput i).activityEdge i).bind = s.bind :=
  State.activityEdge_bind i _

theorem State.sourceChanged_noTarget (h : s.targetsOf n = []) : s.sourceChanged n = s := by
  simp only [State.sourceChanged, h, List.foldl_nil]

/-- R37, R151: the end of a debounce that no binding reads, outside LIMP, changes nothing at the channels but the auto-off
times whose activity input it is. -/
theorem execDebounceExpiry_reload {i : WiredInput} (p : s.Plain) (hi : (s.wired[i]).timer = some 0) (hb : s.bind.bindings = [])
    (hl : s.mode ≠ .limp) :
    Answers (exec (.debounceExpiry i) s) fun t => ∀ d, t.chan d = ((s.chan d).edged i).followed := by
  have hch : s.debouncedChange i = (s.debouncedInput i).activityEdge i := by
    rw [State.debouncedChange_bound hl]
    exact State.sourceChanged_noTarget (State.targetsOf_nil (by rw [State.edge_bind]; exact hb) _)
  rw [exec_debounceExpiry hi, hch, (State.edge_plain i p).settle]
  refine ⟨_, rfl, fun d => ?_⟩
  rw [State.echoed_chan, State.edge_chan]

end Sys2Proof.Machine

/-- Settles O47. -/
theorem autoOffAndOverrideEnd : Obligations.AutoOffAndOverrideEnd := by
  open Sys2Proof.Machine Sys2Proof in
  intro c o i sender n v b e s p hst heff he
  have hfalls := ChannelState.falls_of_runs hst
  have hq := p.noQueue
  refine ⟨fun h => ?_, fun h ho => ?_, fun h ho => ?_, fun ho hl => ?_, fun ho hl => ?_,
    fun hm hl hb hown hbs ht hes hlink hn hc hmask hout => ?_, fun hi hb hl => ?_⟩
  · exact if_neg (by simpa [ended] using h)
  · have heff' := heff.trans (ChannelRecord.effectiveRequest_none ho)
    have hraw : (s.chan c).raw ≠ 0 := fun h0 => he (by rw [heff', h0]; exact ite_self _)
    have hhold : (s.chan c).autoOffExpired.hold = true := Bool.or_eq_true_iff.2 (.inr (by simpa using hraw))
    have ht := State.touches_ask (c := c) (f := ChannelRecord.autoOffExpired) hq
    have hc := State.ask_fall (c := c) (f := ChannelRecord.autoOffExpired) hq
      (by rw [ChannelRecord.effectiveRequest_none (by exact ho), hhold]; rfl) he hfalls
    rw [exec_autoOffExpiry h, ht.settle p]
    refine ⟨_, rfl, ?_⟩
    simp only [State.echoed_chan, hc]
    exact ⟨ChannelRecord.fallen_off (r := (s.chan c).autoOffExpired), hhold, rfl, fun d hd => congrArg _ (ht.others d hd)⟩
  · have hsame : (s.modChan c (·.autoOffExpired)).applyRequest c = s.modChan c (·.autoOffExpired) := by
      refine State.applyRequest_same ?_
      rw [State.modChan_chan_self]
      exact (ChannelRecord.effectiveRequest_some (by exact ho)).trans
        ((ChannelRecord.effectiveRequest_some ho).symm.trans heff.symm)
    rw [exec_autoOffExpiry h, (State.touches_ask (c := c) hq).settle p, hsame]
    rfl
  · show execOverrideExpiry c s = .next s
    unfold execOverrideExpiry
    rw [ho]
    exact if_neg hl
  · have ht := State.touches_ask (c := c) (f := ChannelRecord.unoverridden) hq
    have hlevel := heff.trans (ChannelRecord.effectiveRequest_some ho)
    have hreq : (s.chan c).unoverridden.effectiveRequest = if (s.chan c).hold then 0 else (s.chan c).raw :=
      ChannelRecord.effectiveRequest_none rfl
    rw [exec_overrideExpiry ho hl, State.endOverride_eq, ht.settle p]
    refine ⟨_, rfl, ?_⟩
    by_cases h0 : (s.chan c).hold = true ∨ (s.chan c).raw = 0
    · have hc := State.ask_fall (c := c) (f := ChannelRecord.unoverridden) hq
        (by rw [hreq]; rcases h0 with h | h <;> simp [h]) he hfalls
      simp only [State.echoed_chan, hc, if_pos h0]
      refine ⟨rfl, rfl, rfl, fun _ => ChannelRecord.fallen_off (r := (s.chan c).unoverridden), fun hh hr => ?_,
        fun d hd => congrArg _ (ht.others d hd)⟩
      exact absurd (h0.resolve_left (by simp [hh])) hr
    · obtain ⟨hh, hr⟩ : (s.chan c).hold = false ∧ (s.chan c).raw ≠ 0 := by simpa using h0
      have hreq' : (s.chan c).unoverridden.effectiveRequest = (s.chan c).raw := by rw [hreq, hh]; rfl
      have hc := State.ask_level (s := s) (c := c) (f := ChannelRecord.unoverridden) he (by rw [hreq']; exact hr)
      have hbooks : (s.chan c).state.books = true := by rcases hst with h | h | h <;> rw [h] <;> rfl
      simp only [State.echoed_chan, hc, if_neg h0, hreq']
      split
      · next heq =>
        refine ⟨rfl, rfl, rfl, fun h => absurd h h0, fun _ _ => ⟨rfl, heq.symm, fun hne => ?_⟩,
          fun d hd => congrArg _ (ht.others d hd)⟩
        exact absurd (heq.trans hlevel) hne
      · refine ⟨rfl, rfl, rfl, fun h => absurd h h0, fun _ _ => ⟨rfl, rfl, fun _ => ⟨rfl, ?_⟩⟩,
          fun d hd => congrArg _ (ht.others d hd)⟩
        exact if_pos hbooks
  · obtain ⟨t, ht, htc, hto⟩ := execSignal_reload p hm hl hb hown hbs ht hes hlink hn hc hmask
      ((BindingMode.output_eq _ _ _).trans hout)
    refine ⟨t, ht, ?_, hto⟩
    rw [htc, ChannelRecord.reloadAutoOff_eq, if_pos hst]
    split <;> rfl
  · obtain ⟨t, ht, htd⟩ := execDebounceExpiry_reload p hi hb hl
    refine ⟨t, ht, fun d => ?_⟩
    rw [htd, ChannelRecord.edged_eq]
    rfl
end

-- ==== Proofs: service1 ====
section
/-! PROOFS. OVERRIDE and RESTART (R170, R171): O59. -/

namespace Sys2Proof.Machine

variable {s t u : State} {c d : Channel} {v n : Byte} {sender : Station}

/-! ### A request that is taken (R156, R167) -/

theorem State.heardFrame_queued (g : TxFrame → Bool) (s : State) :
    s.heardFrame.queued (fun e => g e.frame) = s.queued fun e => g e.frame := by
  have hf : ∀ l : List TxEntry, (l.filter fun e => g e.frame).length = ((l.map (·.frame)).filter g).length := by
    intro l
    rw [List.filter_map, List.length_map]
    rfl
  unfold State.queued
  rw [hf, hf]
  exact congrArg (fun l => (l.filter g).length) s.heardFrame_frames

theorem State.replyRoom_heardFrame (h : s.replyRoom) : s.heardFrame.replyRoom := by
  obtain ⟨h1, h2⟩ := h
  exact ⟨(s.heardFrame_queued fun f => f.kind != 1).trans_lt h1,
    (s.heardFrame_queued fun f => f.kind == 4 || f.kind == 5).trans_lt h2⟩

theorem State.heardFrame_ne_limp (h : s.mode ≠ .limp) : s.heardFrame.mode ≠ .limp := by
  rw [State.heardFrame_mode]
  split
  · simp
  · exact h

theorem State.heardFrame_ne_configuring (h : s.mode ≠ .configuring) : s.heardFrame.mode ≠ .configuring := by
  rw [State.heardFrame_mode]
  split
  · simp
  · exact h

/-- R156: a service request of another station is heard and handed to the Service Unit. -/
theorem State.Serves.receive (h : s.Serves sender) (take : State → State) : s.receive sender take = take s.heardFrame :=
  State.receive_other take h.mode h.online h.other

/-- R167: a request that is accepted is carried out. -/
theorem State.Serves.serve (h : s.Serves sender) {byte0 : Byte} {inLimp rejected : Bool} {run : State → State}
    (hr : rejected = false) (hl : s.mode = .limp → inLimp = true) :
    s.heardFrame.serve sender byte0 inLimp rejected run = run s.heardFrame := by
  refine State.serve_run ?_ ?_ ?_
  · rw [State.heardFrame_service]
    exact h.mask
  · rw [State.heardFrame_service, h.free]
    rfl
  · rw [hr, State.heardFrame_mode]
    by_cases e : s.mode = .limp
    · simp [hl e]
    · by_cases i : s.mode = .isolated <;> simp [i, e]

/-- R167: a request that is refused is answered where the queue has room. -/
theorem State.Serves.reject (h : s.Serves sender) {byte0 : Byte} {inLimp rejected : Bool} {run : State → State}
    (hr : rejected = true) (room : s.replyRoom) : s.heardFrame.serve sender byte0 inLimp rejected run
      = s.heardFrame.withFrame (.reply sender (shortReply byte0 resultRejected) false) := by
  rw [State.serve_rejected, State.answer_of_room (State.replyRoom_heardFrame room)]
  · rw [State.heardFrame_service]
    exact h.mask
  · rw [State.heardFrame_service, h.free]
    rfl
  · rw [hr]
    rfl

theorem channelOfByte_eq {b : Byte} (h : b.toNat = c.val) : channelOfByte b = some c := by
  have hl : b.toNat < 20 := h ▸ c.isLt
  unfold channelOfByte
  rw [dif_pos hl]
  exact congrArg some (Fin.ext h)

/-- A request in progress leaves nothing to follow. -/
theorem State.Plain.carried (p : s.Plain) (l : List (List Byte)) (b : Bool) : (s.carried sender l b).Plain :=
  ⟨p.noFollower, p.noQueue⟩

/-! ### A rise at an OFF channel of tier 0 (R11, R85) -/

/-- R10: a record changed, with the effective request that follows. -/
def State.risen (c : Channel) (f : ChannelRecord → ChannelRecord) (s : State) : State :=
  (s.modChan c f).modChan c (·.withRequest (f (s.chan c)).effectiveRequest)

theorem State.risen_chan {f : ChannelRecord → ChannelRecord} :
    (s.risen c f).chan c = (f (s.chan c)).withRequest (f (s.chan c)).effectiveRequest := by
  unfold State.risen
  rw [State.modChan_chan_self, State.modChan_chan_self]

/-- R10, R11: a rise at an OFF channel. -/
theorem State.ask_rise {f : ChannelRecord → ChannelRecord} (h : (f (s.chan c)).effectiveRequest ≠ 0)
    (he : (f (s.chan c)).eff = 0) (hs : (f (s.chan c)).state = .off) :
    (s.modChan c f).applyRequest c = (s.risen c f).beginRequest c := by
  have h1 := State.modChan_chan_self s c f
  have h2 : ((s.risen c f).chan c).state = .off := by
    rw [State.risen_chan]
    exact hs
  rw [State.applyRequest_rise (by rwa [h1]) (by rwa [h1]), h1]
  exact State.requestRise_off h2

/-- R85: a rise starts an OFF channel of tier 0. -/
theorem State.ask_start {f : ChannelRecord → ChannelRecord} (hm : s.mode ≠ .configuring)
    (h : (f (s.chan c)).effectiveRequest ≠ 0) (he : (f (s.chan c)).eff = 0) (hs : (f (s.chan c)).state = .off)
    (ht : (f (s.chan c)).cfg.tier = 0) :
    let r := (f (s.chan c)).withRequest (f (s.chan c)).effectiveRequest
    let q := ((s.modChan c f).applyRequest c).chan c
    (r.prot.hot = false → q = r.toStarting) ∧ (r.prot.hot = true → r.StoppedHot q) := by
  have h2 := State.risen_chan (s := s) (c := c) (f := f)
  have hstart : (s.risen c f).beginRequest c = (s.risen c f).startChannel c :=
    State.beginRequest_tier0 hm (by rw [h2]; exact ht)
  dsimp only
  rw [State.ask_rise h he hs, hstart, ← h2]
  exact ⟨State.startChannel_chan_self, State.startChannel_hot⟩

/-! ### OVERRIDE (R170) -/

/-- R170: a record with an override set or ended. -/
def ChannelRecord.overridden (level duration : Byte) (r : ChannelRecord) : ChannelRecord :=
  { r with override := if level = 0 then none else some ⟨level, duration.toNat * 100⟩ }

/-- R170: an override that is accepted. -/
theorem exec_override {b level duration : Byte} (p : s.Plain) (h : s.Serves sender) (hb : b.toNat = c.val)
    (hm : s.mode ≠ .limp) (hd : level ≠ 0 → duration ≠ 0) :
    Answers (exec (.override sender b level duration) s) fun t =>
      t.service.request = some ⟨sender, [[6, 0]], 0, false⟩
        ∧ (∀ d, t.chan d = (((s.heardFrame.modChan c (·.overridden level duration)).applyRequest c).chan d).followed)
        ∧ ∀ d, d ≠ c → t.chan d = (s.chan d).followed := by
  have hreject : (level != 0 && duration == 0) = false := by
    simpa using hd
  have ht := State.touches_ask (c := c) (f := ChannelRecord.overridden level duration) p.heardFrame.noQueue
  have hexec : exec (.override sender b level duration) s = .next
      (((s.heardFrame.modChan c (·.overridden level duration)).applyRequest c).carried sender [[6, 0]] false).settle := by
    show Host.Outcome.next (s.receive sender _).settle = _
    rw [h.receive, channelOfByte_eq hb]
    dsimp only
    rw [h.serve hreject fun e => absurd e hm]
    rfl
  rw [hexec, ((ht.plain p.heardFrame).carried _ _).settle]
  refine ⟨_, rfl, rfl, fun d => ?_, fun d hd => ?_⟩
  · rw [State.echoed_chan]
    rfl
  · rw [State.echoed_chan]
    exact congrArg _ ((ht.others d hd).trans (State.heardFrame_chan s d))

/-- R86: the profile duty of a start's first period. -/
theorem ChannelConfig.profileDuty_first (k : ChannelConfig) (w : Nat) (duty : Byte) :
    (k.profileDuty w duty 0).toNat = if k.accepted.filament = true ∧ 64 < duty.toNat then 64 else duty.toNat := by
  unfold ChannelConfig.profileDuty
  by_cases h : k.accepted.filament = true ∧ 64 < duty.toNat
  · rw [if_pos h, if_pos (by simp [h])]
    simp
  · rw [if_neg h, if_neg (by simpa using h)]

end Sys2Proof.Machine

/-- Settles O59. -/
theorem overrideAndRestart : Obligations.OverrideAndRestart := by
  open Sys2Proof.Machine Sys2Proof in
  intro sender b level duration c s p h hb
  have hq := p.heardFrame.noQueue
  have hcfg : s.heardFrame.mode ≠ .configuring := State.heardFrame_ne_configuring h.mode
  refine ⟨fun hm hl hd hs he => ?_, fun hm hl hd hs he ht hhot => ?_, fun hm hl hs he h0 => ?_, fun hl hd room => ?_, ?_⟩
  · obtain ⟨t, hex, hreq, hc, hothers⟩ := exec_override p h hb hm (level := level) (duration := duration) fun _ => hd
    have hset : ((s.chan c).overridden level duration).override = some ⟨level, duration.toNat * 100⟩ := if_neg hl
    have hov := ChannelRecord.effectiveRequest_some hset
    have hch := State.ask_level (s := s.heardFrame) (c := c) (f := ChannelRecord.overridden level duration)
    rw [State.heardFrame_chan, hov] at hch
    have hch := hch he hl
    refine ⟨t, hex, hreq, ?_⟩
    rw [hc c, hch]
    split
    · next e => exact ⟨if_neg hl, e.symm, rfl, fun hne => absurd e.symm hne, hothers⟩
    · exact ⟨if_neg hl, rfl, rfl, fun _ => ⟨rfl, rfl⟩, hothers⟩
  · obtain ⟨t, hex, -, hc, -⟩ := exec_override p h hb hm (level := level) (duration := duration) fun _ => hd
    have hset : ((s.chan c).overridden level duration).override = some ⟨level, duration.toNat * 100⟩ := if_neg hl
    have hov := ChannelRecord.effectiveRequest_some hset
    have hch := State.ask_start (s := s.heardFrame) (c := c) (f := ChannelRecord.overridden level duration) hcfg
    rw [State.heardFrame_chan, hov] at hch
    obtain ⟨hch, -⟩ := hch hl he hs ht
    refine ⟨t, hex, ?_⟩
    dsimp only
    rw [hc c, hch hhot]
    refine ⟨rfl, rfl, ?_, rfl⟩
    exact congrArg (max 102) (ChannelConfig.profileDuty_first _ _ _)
  · obtain ⟨t, hex, hreq, hc, -⟩ := exec_override p h hb hm (level := level) (duration := duration) fun hn => absurd hl hn
    have hch := State.ask_fall (s := s.heardFrame) (c := c) (f := ChannelRecord.overridden level duration) hq
    rw [State.heardFrame_chan] at hch
    have hnone : ((s.chan c).overridden level duration).override = none := if_pos hl
    have hch := hch (by
      rw [ChannelRecord.effectiveRequest_none hnone]
      show (if (s.chan c).hold = true then 0 else (s.chan c).raw) = (0 : Byte)
      rcases h0 with h | h <;> simp [h]) he (by show (s.chan c).state.falls = true; rw [hs]; rfl)
    refine ⟨t, hex, hreq, ?_⟩
    rw [hc c, hch]
    exact ⟨hnone, rfl, rfl, rfl⟩
  · show Host.Outcome.next (s.receive sender _).settle = _
    rw [h.receive, channelOfByte_eq hb]
    dsimp only
    rw [h.reject (by simpa [hd] using hl) room]
    refine congrArg _ (State.Plain.settle ?_)
    exact ⟨p.heardFrame.noFollower, hq⟩
  · show Host.Outcome.next (s.receive sender _).settle = _
    rw [h.receive, h.serve rfl fun _ => rfl]
    exact congrArg _ (p.heardFrame.carried _ _).settle
end

-- ==== Proofs: inputs ====
section
/-! PROOFS. Wired inputs (R37, R23): O21. -/

namespace Sys2Proof.Machine

variable {s t u : State} {c d : Channel} {v n : Byte} {i : WiredInput}

/-! ### What a request leaves of a record (R34) -/

/-- A part of a record that the entries at a request's begin and end do not write. -/
structure ChannelRecord.Stays {α : Type} (g : ChannelRecord → α) : Prop where
  idle : ∀ st r, g (r.idle st) = g r
  start : ∀ r, g r.toStarting = g r
  record : ∀ k r, g (r.recordFault k) = g r
  latch : ∀ k r, g (r.latch k) = g r
  retry : ∀ k r, g (r.retryStop k) = g r

/-- A part of a record that a change of the effective request, and what follows it, does not write either. -/
structure ChannelRecord.Steady {α : Type} (g : ChannelRecord → α) : Prop extends ChannelRecord.Stays g where
  request : ∀ v r, g (r.withRequest v) = g r
  echo : ∀ v r, g { r with echoTaken := v } = g r

/-- R34: the raw request is such a part. -/
theorem ChannelRecord.steady_raw : ChannelRecord.Steady (·.raw) := by
  refine ⟨⟨fun _ _ => rfl, fun _ => rfl, fun _ _ => rfl, fun _ _ => rfl, fun k r => ?_⟩, fun _ _ => rfl, fun _ _ => rfl⟩
  unfold ChannelRecord.retryStop
  dsimp only
  split <;> rfl

variable {α : Type} {g : ChannelRecord → α}

/-- No such part of a record changes. -/
def State.Holds (g : ChannelRecord → α) (s t : State) : Prop := ∀ d, g (t.chan d) = g (s.chan d)

theorem State.Holds.refl (s : State) : s.Holds g s := fun _ => rfl

theorem State.Holds.trans (h : s.Holds g t) (k : t.Holds g u) : s.Holds g u := fun d => (k d).trans (h d)

theorem State.holds_modChan {f : ChannelRecord → ChannelRecord} (h : g (f (s.chan c)) = g (s.chan c)) :
    s.Holds g (s.modChan c f) :=
  State.setChan_chan_cases (P := fun r q => g q = g r) (fun _ => rfl) h

theorem State.holds_enter {f : ChannelRecord → ChannelRecord} (h : g (f (s.chan c)) = g (s.chan c)) :
    s.Holds g (s.enter c f) :=
  State.enter_chan_cases (P := fun r q => g q = g r) (fun _ => rfl) h

section
variable (hg : ChannelRecord.Stays g)
include hg

theorem State.holds_takeFault (c : Channel) (k : FaultKind) (s : State) : s.Holds g (s.takeFault c k) := by
  intro d
  by_cases e : d = c
  · rw [e]
    rcases State.takeFault_chan_self c k s with h | h | ⟨-, -, h⟩ | ⟨-, -, h⟩ <;> rw [h]
    · exact hg.record k _
    · exact hg.latch k _
    · exact hg.retry k _
  · rw [State.takeFault_chan_ne e]

theorem State.holds_startChannel (c : Channel) (s : State) : s.Holds g (s.startChannel c) := by
  have h1 : s.Holds g (s.enter c (·.toStarting)) := State.holds_enter (hg.start _)
  unfold State.startChannel
  dsimp only
  split
  · exact h1.trans (State.holds_takeFault hg c _ _)
  · exact h1

theorem holds_handSlotsFor (k : Nat) : ∀ s : State, s.Holds g (handSlotsFor k s) := by
  induction k with
  | zero => exact State.Holds.refl
  | succ k ih =>
    intro s
    unfold handSlotsFor
    split
    · exact .refl s
    · split
      · exact .refl s
      · have h1 : ∀ q, s.Holds g { s with sequencer := q } := fun _ _ => rfl
        exact ((h1 _).trans (State.holds_startChannel hg _ _)).trans (ih _)

theorem State.holds_handSlots (s : State) : s.Holds g s.handSlots := holds_handSlotsFor hg 20 s

theorem State.holds_freeSlot (c : Channel) (s : State) : s.Holds g (s.freeSlot c) := by
  have h1 : ∀ q, s.Holds g { s with sequencer := q } := fun _ _ => rfl
  exact (h1 _).trans (State.holds_handSlots hg _)

theorem State.holds_announce (c : Channel) (s : State) : s.Holds g (s.announce c) := by
  intro d
  by_cases e : d = c
  · rw [e]
    rcases State.announce_chan_self c s with h | h <;> rw [h]
    · exact hg.idle _ _
    · exact (hg.idle _ _).trans (hg.idle _ _)
  · rw [State.announce_chan_ne e]

theorem State.holds_beginRequest (c : Channel) (s : State) : s.Holds g (s.beginRequest c) := by
  have hstart := State.holds_startChannel hg c s
  have hdefer : s.Holds g (s.enter c (·.idle .deferred)) := State.holds_enter (hg.idle _ _)
  unfold State.beginRequest
  split
  · exact .refl s
  · split
    · exact hstart
    · exact .refl s
  · split
    · exact hstart
    · exact State.holds_announce hg c s
  all_goals
    split
    · exact hstart
    · exact hdefer

theorem State.holds_requestFall (c : Channel) (s : State) : s.Holds g (s.requestFall c) := by
  have hoff : ∀ u : State, u.Holds g (u.enter c (·.idle .off)) := fun u => State.holds_enter (hg.idle _ _)
  have hundo : s.Holds g (s.undoAnnouncement c) := fun d => by rw [State.undoAnnouncement_chan]
  unfold State.requestFall
  split
  · exact hundo.trans (hoff _)
  · exact (State.holds_freeSlot hg c s).trans (hoff _)
  iterate 5 exact hoff s
  all_goals exact .refl s

end

section
variable (hg : ChannelRecord.Steady g)
include hg

theorem State.holds_applyRequest (c : Channel) (s : State) : s.Holds g (s.applyRequest c) := by
  have h1 : ∀ v, s.Holds g (s.modChan c (·.withRequest v)) := fun v => State.holds_modChan (hg.request v _)
  unfold State.applyRequest
  dsimp only
  split
  · exact .refl s
  · split
    · refine (h1 (s.chan c).effectiveRequest).trans ?_
      unfold State.requestRise
      split
      · exact State.holds_beginRequest hg.toStays c _
      · exact .refl _
    · split
      · exact (h1 _).trans (State.holds_requestFall hg.toStays c _)
      · exact h1 _

end

/-- R34: the raw request handed to a channel stands there. -/
theorem State.setRaw_raw (c : Channel) (v : Byte) (s : State) : ((s.setRaw c v).chan c).raw = v := by
  by_cases h : v = (s.chan c).raw
  · rw [State.setRaw_same h]
    exact h.symm
  · rw [State.setRaw_ne h]
    refine (State.holds_applyRequest ChannelRecord.steady_raw c _ c).trans ?_
    rw [State.modChan_chan_self]
    rfl

/-- Moves from a state without bindings make none. -/
theorem State.Moves.noBinding (h : s.Moves t) : s.bind.bindings = [] → t.bind.bindings = [] := by
  induction h with
  | refl => exact id
  | step _ m ih => exact fun hs => m.noBinding (ih hs)
  | abort c _ _ _ _ ih ih' =>
    intro hs
    rw [State.enter_bind]
    exact ih' (ih hs)

section
variable (hg : ChannelRecord.Steady g)
include hg

theorem State.holds_echoed (s : State) : s.Holds g s.echoed := fun d => by
  rw [State.echoed_chan]
  exact hg.echo _ _

/-- R38: without bindings what follows an event changes no raw request. -/
theorem holds_settleFor (k : Nat) : ∀ s : State, s.bind.bindings = [] → s.Holds g (settleFor k s) := by
  induction k with
  | zero => exact fun s _ => State.holds_echoed hg s
  | succ k ih =>
    intro s hb
    unfold settleFor
    split
    · exact State.holds_echoed hg s
    · next c v rest _ =>
      have h1 : s.Holds g ({ s with echoes := rest } : State) := fun _ => rfl
      have h2 : State.takeEcho c v { s with echoes := rest }
          = State.modChan { s with echoes := rest } c fun r => { r with echoTaken := v } :=
        State.takeEcho_of_noFollower (s := { s with echoes := rest }) (fun b hm => by
          replace hm : b ∈ s.bind.bindings := hm
          rw [hb] at hm
          cases hm) c v
      rw [h2]
      exact (h1.trans (State.holds_modChan (hg.echo _ _))).trans (ih _ hb)

theorem State.holds_settle (hb : s.bind.bindings = []) : s.Holds g s.settle :=
  (State.holds_handSlots hg.toStays s).trans (holds_settleFor hg _ _ ((State.moves_handSlots s).noBinding hb))

end

/-! ### LIMP lamps (R23) -/

theorem State.limpFollow_eq (hi : i.val < 4) (hc : c.val = i.val) (s : State) :
    s.limpFollow i = s.setRaw c (s.wiredValue i) := by
  have : (Fin.ofNat 20 i.val : Channel) = c := by
    refine Fin.ext ?_
    simp only [Fin.ofNat]
    omega
  unfold State.limpFollow
  rw [if_pos hi, this]

/-- R37: the value of an input once its debounce has ended. -/
theorem State.edge_wiredValue (i : WiredInput) (s : State) :
    ((s.debouncedInput i).activityEdge i).wiredValue i = if (s.wired[i]).pin then 255 else 0 := by
  have hw : ((s.debouncedInput i).activityEdge i).wired
      = s.wired.set i { s.wired[i] with debounced := (s.wired[i]).pin, timer := none } :=
    (State.moves_activityEdge i (s.debouncedInput i)).acts.wired
  unfold State.wiredValue
  rw [hw]
  simp

/-- R37: the wired inputs once a debounce has ended. -/
theorem State.debouncedChange_wired (i : WiredInput) (s : State) :
    (s.debouncedChange i).settle.wired = s.wired.set i ⟨(s.wired[i]).pin, (s.wired[i]).pin, none⟩ := by
  have ha := (State.moves_activityEdge i (s.debouncedInput i)).acts
  rw [(State.acts_settle _).wired]
  by_cases hm : s.mode = .limp
  · rw [State.debouncedChange_limp hm, (State.moves_limpFollow i (ha.mode.trans hm)).acts.wired, ha.wired]
    rfl
  · rw [State.debouncedChange_bound hm, (State.acts_sourceChanged _ _).wired, ha.wired]
    rfl

/-- R23: the debounced level sets the raw request. -/
theorem State.debouncedChange_raw (hm : s.mode = .limp) (hb : s.bind.bindings = []) (hi : i.val < 4) (hc : c.val = i.val) :
    (((s.debouncedChange i).settle).chan c).raw = if (s.wired[i]).pin then 255 else 0 := by
  have hb1 : ((s.debouncedInput i).activityEdge i).bind.bindings = [] := by
    rw [State.edge_bind]
    exact hb
  have hm1 : ((s.debouncedInput i).activityEdge i).mode = .limp :=
    (State.moves_activityEdge i (s.debouncedInput i)).acts.mode.trans hm
  rw [State.debouncedChange_limp hm]
  refine (State.holds_settle ChannelRecord.steady_raw ((State.moves_limpFollow i hm1).noBinding hb1) c).trans ?_
  rw [State.limpFollow_eq hi hc, State.setRaw_raw, State.edge_wiredValue]

/-- R23: the state once the debounced level has changed in LIMP, where nothing follows. -/
theorem State.debouncedChange_chan (p : s.Plain) (hm : s.mode = .limp) (hi : i.val < 4) (hc : c.val = i.val)
    (hv : (if (s.wired[i]).pin then 255 else 0 : Byte) ≠ (s.chan c).raw) :
    ∃ u : State, u.chan c = (s.chan c).edged i ∧ u.mode = .limp ∧ u.sequencer.queue = [] ∧
      ((s.debouncedChange i).settle).chan c
        = (((u.modChan c (·.withRaw (if (s.wired[i]).pin then 255 else 0))).applyRequest c).chan c).followed := by
  have hplain := State.edge_plain i p
  have hchan := State.edge_chan i s c
  have hraw : ((s.chan c).edged i).raw = (s.chan c).raw := by rw [ChannelRecord.edged_eq]
  refine ⟨(s.debouncedInput i).activityEdge i, hchan, (State.moves_activityEdge i (s.debouncedInput i)).acts.mode.trans hm,
    hplain.noQueue, ?_⟩
  rw [State.debouncedChange_limp hm, State.limpFollow_eq hi hc, State.edge_wiredValue, State.setRaw_ne (by rwa [hchan, hraw]),
    (State.touches_ask hplain.noQueue).settle hplain, State.echoed_chan]

/-! ### Bindings on a wired input (R31, R32) -/

/-- R31, R32: what a binding on a wired input holds once evaluated: FRESH, and in LEVEL mode the input's value. -/
def Binding.Wired (i : WiredInput) (v : Byte) (b : Binding) : Prop :=
  b.source.toNat = 224 + i.val → b.fresh = true ∧ (b.mode = .level → b.present = v)

theorem State.evaluate_wired (b : Binding) (s : State) : (s.evaluate b).Wired i (s.wiredValue i) := by
  have hkey : (s.evaluate b).source = b.source := by
    unfold State.evaluate
    split <;> rfl
  intro h
  rw [hkey] at h
  have hi := i.isLt
  have hj : s.judgeFresh b = true := by
    have : isLink b.source = false := by simp [isLink, h]
    simp [State.judgeFresh, this]
  have hv : s.sourceValue b.source = s.wiredValue i := by
    have h1 : ¬b.source.toNat < 224 := by omega
    have h2 : b.source.toNat < 232 := by omega
    have h3 : (Fin.ofNat 8 (b.source.toNat - 224) : WiredInput) = i := by
      refine Fin.ext ?_
      simp only [Fin.ofNat]
      omega
    unfold State.sourceValue State.valueOf
    rw [if_neg h1, if_pos h2, h3]
  unfold State.evaluate
  rw [if_pos hj, hv]
  exact ⟨rfl, fun hm => by rw [show b.mode = .level from hm]; rfl⟩

/-- What names a binding. -/
def Binding.key (b : Binding) : Byte × Channel := (b.source, b.target)

theorem State.evaluate_key (b : Binding) (s : State) : (s.evaluate b).key = b.key := by
  unfold State.evaluate
  split <;> rfl

/-- R34: the bindings after a re-evaluation, and what it leaves. -/
theorem State.reevaluate_bindings (hq : s.sequencer.queue = []) (c : Channel) :
    (s.reevaluate c).bind.bindings = s.bind.bindings.map (fun b => if b.target = c then s.evaluate b else b)
      ∧ (s.reevaluate c).sequencer.queue = [] := by
  have ht := State.touches_setRaw (c := c)
    (s := s.setBindings (s.bind.bindings.map fun b => if b.target = c then s.evaluate b else b)) hq
  unfold State.reevaluate
  dsimp only
  rw [State.handSlots_of_noQueue (ht _).noQueue, (ht _).bind]
  exact ⟨rfl, (ht _).noQueue⟩

/-- R35: re-evaluations leave the bindings of the channels re-evaluated as the wired input says. -/
theorem State.foldl_reevaluate_wired {w : Vector WiredInputState 8} (l : List Channel) : ∀ (P : Channel → Prop) (s : State),
    s.sequencer.queue = [] → s.wired = w →
    (∀ b ∈ s.bind.bindings, P b.target → b.Wired i (if (w[i]).debounced then 255 else 0)) →
    let t := l.foldl (fun s c => s.reevaluate c) s
    t.sequencer.queue = [] ∧ t.bind.bindings.map (·.key) = s.bind.bindings.map (·.key)
      ∧ ∀ b ∈ t.bind.bindings, P b.target ∨ b.target ∈ l → b.Wired i (if (w[i]).debounced then 255 else 0) := by
  induction l with
  | nil => exact fun P s hq _ hb => ⟨hq, rfl, fun b hm hp => hb b hm (by simpa using hp)⟩
  | cons c l ih =>
    intro P s hq hw hb
    obtain ⟨hbs, hq'⟩ := State.reevaluate_bindings hq c
    have hval : s.wiredValue i = if (w[i]).debounced then 255 else 0 := by
      unfold State.wiredValue
      rw [hw]
    have hstep : ∀ b ∈ (s.reevaluate c).bind.bindings, P b.target ∨ b.target = c →
        b.Wired i (if (w[i]).debounced then 255 else 0) := by
      intro b hm hp
      rw [hbs] at hm
      obtain ⟨x, hx, rfl⟩ := List.mem_map.1 hm
      by_cases e : x.target = c
      · rw [if_pos e, ← hval]
        exact State.evaluate_wired x s
      · rw [if_neg e] at hp ⊢
        exact hb x hx (hp.resolve_right e)
    have hkeys : (s.reevaluate c).bind.bindings.map (·.key) = s.bind.bindings.map (·.key) := by
      rw [hbs, List.map_map]
      refine List.map_congr_left fun b _ => ?_
      simp only [Function.comp]
      split
      · exact State.evaluate_key b s
      · rfl
    obtain ⟨h1, h2, h3⟩ := ih (fun d => P d ∨ d = c) (s.reevaluate c) hq' ((State.acts_reevaluate c s).wired.trans hw) hstep
    refine ⟨h1, h2.trans hkeys, fun b hm hp => h3 b hm ?_⟩
    rcases hp with hp | hp
    · exact .inl (.inl hp)
    · rcases List.mem_cons.1 hp with hp | hp
      · exact .inl (.inr hp)
      · exact .inr hp

/-- R35: a changed source reaches every binding on it. -/
theorem State.sourceChanged_wired (hq : s.sequencer.queue = []) :
    (s.sourceChanged (wiredSource i)).sequencer.queue = []
      ∧ (s.sourceChanged (wiredSource i)).bind.bindings.map (·.key) = s.bind.bindings.map (·.key)
      ∧ ∀ b ∈ (s.sourceChanged (wiredSource i)).bind.bindings, b.Wired i (s.wiredValue i) := by
  have hnote : ∀ (l : List Channel) (u : State), (l.foldl (fun s c => s.notice c) u).sequencer = u.sequencer
      ∧ (l.foldl (fun s c => s.notice c) u).bind = u.bind ∧ (l.foldl (fun s c => s.notice c) u).wired = u.wired := by
    intro l
    induction l with
    | nil => exact fun u => ⟨rfl, rfl, rfl⟩
    | cons c l ih => exact fun u => ih (u.notice c)
  obtain ⟨hns, hnb, hnw⟩ := hnote (s.targetsOf (wiredSource i)) s
  obtain ⟨h1, h2, h3⟩ := State.foldl_reevaluate_wired (i := i) (s.targetsOf (wiredSource i)) (fun _ => False)
    ((s.targetsOf (wiredSource i)).foldl (fun s c => s.notice c) s) (by rw [hns]; exact hq) hnw (fun _ _ h => h.elim)
  have h2 := h2.trans (by rw [hnb])
  refine ⟨h1, h2, fun b hm hs => h3 b hm (.inr ?_) hs⟩
  have hk : b.key ∈ s.bind.bindings.map (·.key) := by
    rw [← h2]
    exact List.mem_map_of_mem hm
  obtain ⟨x, hx, e⟩ := List.mem_map.1 hk
  obtain ⟨e1, e2⟩ := Prod.mk.inj e
  have hsrc : x.source = wiredSource i := by
    refine BitVec.eq_of_toNat_eq ?_
    have := i.isLt
    rw [e1, hs, wiredSource, BitVec.toNat_ofNat]
    omega
  exact List.mem_filter.2 ⟨mem_allChannels _, List.any_eq_true.2 ⟨x, hx, by simp [hsrc, e2]⟩⟩

end Sys2Proof.Machine

/-- Settles O21. -/
theorem wiredInputsAreDebounced : Obligations.WiredInputsAreDebounced := by
  open Sys2Proof.Machine Sys2Proof in
  intro i g s
  refine ⟨?_, fun h => if_neg (by simpa [ended] using h), fun h => ?_⟩
  · refine congrArg Host.Outcome.next (?_ : (s.setWired i ((s.wired[i]).setPin g)) = _)
    unfold WiredInputState.setPin
    split
    · simp [State.setWired]
    · rfl
  · rw [exec_debounceExpiry h]
    refine ⟨_, rfl, State.debouncedChange_wired i s, fun hm hb c hc hi => ?_, fun hm p c hc hi ho hh he => ⟨fun hp hs h0 ht => ?_,
      fun hp h0 hs => ?_⟩, fun hm p b hb hsrc => ?_⟩
    · exact State.debouncedChange_raw hm hb (hc ▸ hi) hc
    · obtain ⟨u, hu, hum, -, hch⟩ := State.debouncedChange_chan p hm (hc ▸ hi) hc (by rw [hp, h0]; decide)
      rw [hp, if_pos rfl] at hch
      have he0 : (s.chan c).eff = 0 := he.trans h0
      have hreq : ((u.chan c).withRaw 255).effectiveRequest = 255 := by
        have hov : ((u.chan c).withRaw 255).override = none := by
          rw [hu, ChannelRecord.edged_eq]
          exact ho
        have hhold : ((u.chan c).withRaw 255).hold = false := by
          rw [hu, ChannelRecord.edged_eq]
          show ((s.chan c).hold && _) = false
          rw [hh]
          rfl
        rw [ChannelRecord.effectiveRequest_none hov, hhold]
        rfl
      have hstart := State.ask_start (s := u) (c := c) (f := ChannelRecord.withRaw 255) (by rw [hum]; decide)
      rw [hreq, hu, ChannelRecord.edged_eq] at hstart
      obtain ⟨hcold, hhot⟩ := hstart (by decide) he0 hs ht
      refine ⟨fun hn => ?_, fun hn => ?_⟩
      · rw [hch, hcold hn]
        exact ⟨rfl, rfl, rfl⟩
      · rw [hch]
        exact hhot hn
    · obtain ⟨u, hu, -, huq, hch⟩ := State.debouncedChange_chan p hm (hc ▸ hi) hc (by rw [hp]; exact Ne.symm h0)
      rw [hp, if_neg (by decide)] at hch
      have he0 : (s.chan c).eff ≠ 0 := he ▸ h0
      have hreq : ((u.chan c).withRaw 0).effectiveRequest = 0 := by
        have hov : ((u.chan c).withRaw 0).override = none := by
          rw [hu, ChannelRecord.edged_eq]
          exact ho
        rw [ChannelRecord.effectiveRequest_none hov]
        exact ite_self _
      have hfall := State.ask_fall (s := u) (c := c) (f := ChannelRecord.withRaw 0) huq hreq (by
          rw [hu, ChannelRecord.edged_eq]
          exact he0) (by
          rw [hu, ChannelRecord.edged_eq]
          exact ChannelState.falls_of_runs (hs.imp_right .inl))
      rw [hch, hfall]
      exact ⟨rfl, rfl, rfl⟩
    · have hedge := State.edge_plain i p
      obtain ⟨hq, hkeys, hwired⟩ := State.sourceChanged_wired (i := i) hedge.noQueue
      have hplain : (s.debouncedChange i).Plain := by
        rw [State.debouncedChange_bound hm]
        refine ⟨fun b hb => ?_, hq⟩
        have hk : b.key ∈ ((s.debouncedInput i).activityEdge i).bind.bindings.map (·.key) := by
          rw [← hkeys]
          exact List.mem_map_of_mem hb
        obtain ⟨x, hx, e⟩ := List.mem_map.1 hk
        rw [← (Prod.mk.inj e).1]
        exact hedge.noFollower x hx
      rw [hplain.settle] at hb
      have hw := hwired b (by rw [← State.debouncedChange_bound hm]; exact hb) hsrc
      rw [State.edge_wiredValue] at hw
      exact hw
end

-- ==== Proofs: queue ====
section
/-! SUPPORT. The transmit queue while channels run again (R136, R143, R126, R129): INTENT-kind frames join its end, and a
full queue stands. -/

namespace Sys2Proof.Machine

variable {s t u : State} {c d : Channel} {fs gs : List TxFrame} {x : TxFrame}

/-- The INTENT-kind frames that wait, in their order. -/
def State.kind0 (s : State) : List TxFrame := (s.line.queue.filter fun e => e.frame.kind == 0).map (·.frame)

/-- R160: the queue has no entry for a frame of the INTENT kind: five are taken, none by a STATUS. -/
def State.Full (s : State) : Prop :=
  5 ≤ s.queued (fun e => e.frame.kind != 1) ∧ s.queued (fun e => e.frame.kind == 5) = 0

theorem State.full_congr (h : t.line.queue = s.line.queue) : t.Full ↔ s.Full := by
  unfold State.Full State.queued
  rw [h]

theorem otherCount_eq (s : State) : otherCount s.txQueue = s.queued fun e => e.frame.kind != 1 := rfl

theorem State.queued_status_eq_zero :
    s.queued (fun e => e.frame.kind == 5) = 0 ↔ ∀ e ∈ s.line.queue, e.frame.isStatus = false := by
  unfold State.queued
  rw [List.length_eq_zero_iff, List.filter_eq_nil_iff]
  refine forall₂_congr fun e _ => ?_
  rw [Bool.not_eq_true]
  rfl

/-- R160: which frames that are neither DRAW nor STATUS the queue refuses: those of the INTENT kind, once it is full. -/
theorem offerTo_eq_none (hk : x.kind = 0) : offerTo x s.txQueue = none ↔ s.Full := by
  have hd : x.isDraw = false := by simp [TxFrame.isDraw, hk]
  have hs : x.isStatus = false := by simp [TxFrame.isStatus, hk]
  have hroom : hasRoom x s.txQueue = decide (otherCount s.txQueue < 5) := by
    show (x.isDraw || (decide (otherCount s.txQueue < 5) && (decide (x.kind < 4) || _))) = _
    simp [hd, hk]
  unfold State.Full
  rw [State.queued_status_eq_zero, ← otherCount_eq]
  unfold offerTo
  rw [hd, hs, hroom]
  by_cases hc : otherCount s.txQueue < 5
  · simp only [hc, decide_true, if_true]
    constructor
    · intro h
      cases h
    · rintro ⟨h5, -⟩
      omega
  · simp only [hc, decide_false, Bool.false_eq_true, if_false, Option.map_eq_none_iff]
    unfold displaceStatus
    have hany : (s.txQueue.any fun e => e.frame.isStatus) = true ↔ ¬∀ e ∈ s.line.queue, e.frame.isStatus = false := by
      rw [List.any_eq_true]
      push Not
      simp only [ne_eq, Bool.not_eq_false]
      rfl
    split
    · next h => exact ⟨fun e => (Option.some_ne_none _ e).elim, fun e => absurd e.2 (hany.1 h)⟩
    · next h => exact ⟨fun _ => ⟨by omega, not_not.1 (mt hany.2 h)⟩, fun _ => rfl⟩

theorem State.Full.hasRoom (h : s.Full) (hd : x.isDraw = false) : hasRoom x s.txQueue = false := by
  have h5 : ¬otherCount s.txQueue < 5 := by
    rw [otherCount_eq]
    exact Nat.not_lt.2 h.1
  simp [Machine.hasRoom, hd, Config.otherEntries, h5]

/-- R160: a full queue stands whatever is handed to it but a DRAW. -/
theorem State.Full.send_eq (h : s.Full) (hd : x.isDraw = false) : s.send x = s := by
  have hnone : s.offer x = none := by
    cases ho : s.offer x with
    | none => rfl
    | some t =>
      obtain ⟨-, q, hq, -⟩ := State.offer_eq_some ho
      rcases offerTo_cases hq with ⟨h1, -⟩ | ⟨-, h1, -⟩ | ⟨-, -, -, xs, e, zs, hs, he, -⟩
      · rw [hd] at h1
        cases h1
      · rw [h.hasRoom hd] at h1
        cases h1
      · have := State.queued_status_eq_zero.1 h.2 e (by
          rw [show s.line.queue = xs ++ e :: zs from hs]
          simp)
        rw [he] at this
        cases this
  rw [State.send, hnone]
  rfl

theorem State.Full.requestStatus_eq (h : s.Full) (c : Channel) : s.requestStatus c = s := by
  unfold State.requestStatus
  split
  · rfl
  · exact h.send_eq rfl

/-! ### INTENT-kind frames appended -/

/-- The queue from `s` to `t`: `fs` joined the INTENT-kind frames, and a full queue stood. -/
structure State.Appends (fs : List TxFrame) (s t : State) : Prop where
  frames : t.kind0 = s.kind0 ++ fs
  full : s.Full → t.line.queue = s.line.queue

theorem State.appends_of_queue (h : t.line.queue = s.line.queue) : State.Appends [] s t where
  frames := by
    unfold State.kind0
    rw [h, List.append_nil]
  full _ := h

theorem State.Appends.refl (s : State) : State.Appends [] s s := State.appends_of_queue rfl

theorem State.Appends.trans (h : State.Appends fs s t) (k : State.Appends gs t u) : State.Appends (fs ++ gs) s u where
  frames := by rw [k.frames, h.frames, List.append_assoc]
  full hf :=
    have e := h.full hf
    (k.full ((State.full_congr e).2 hf)).trans e

theorem State.Appends.keepsFull (h : State.Appends fs s t) (hf : s.Full) : t.Full := (State.full_congr (h.full hf)).2 hf

theorem State.mem_kind0 : x ∈ s.kind0 ↔ x.kind = 0 ∧ ∃ e ∈ s.line.queue, e.frame = x := by
  simp only [State.kind0, List.mem_map, List.mem_filter, beq_iff_eq]
  constructor
  · rintro ⟨e, ⟨he, hk⟩, rfl⟩
    exact ⟨hk, e, he, rfl⟩
  · rintro ⟨hk, e, he, rfl⟩
    exact ⟨e, ⟨he, hk⟩, rfl⟩

theorem State.Appends.keeps (h : State.Appends fs s t) (hx : x ∈ s.kind0) : x ∈ t.kind0 := by
  rw [h.frames]
  exact List.mem_append_left _ hx

theorem State.appends_requestStatus (c : Channel) (s : State) : State.Appends [] s (s.requestStatus c) where
  frames := by
    rcases State.requestStatus_cases c s with h | h <;> rw [h]
    · exact (List.append_nil _).symm
    · unfold State.kind0
      rw [State.withFrame_queue, List.filter_append, List.append_nil]
      exact congrArg _ (List.append_nil _)
  full hf := by rw [hf.requestStatus_eq]

theorem State.appends_modChan (c : Channel) (f : ChannelRecord → ChannelRecord) (s : State) :
    State.Appends [] s (s.modChan c f) := State.appends_of_queue rfl

theorem State.appends_enter (c : Channel) (f : ChannelRecord → ChannelRecord) (s : State) :
    State.Appends [] s (s.enter c f) := by
  have h : State.Appends [] s ((s.modChan c f).dropClaims c) := State.appends_of_queue rfl
  unfold State.enter
  dsimp only
  split
  · exact h
  · exact h.trans (State.appends_requestStatus c _)

theorem State.appends_takeFault (c : Channel) (k : FaultKind) (s : State) : State.Appends [] s (s.takeFault c k) := by
  have hm : ∀ f, State.Appends [] s ((s.modChan c f).requestStatus c) := fun f =>
    (State.appends_modChan c f s).trans (State.appends_requestStatus c _)
  have he : ∀ f, State.Appends [] s ((s.enter c f).requestStatus c) := fun f =>
    (State.appends_enter c f s).trans (State.appends_requestStatus c _)
  unfold State.takeFault
  dsimp only
  split
  · exact hm _
  · split
    · cases (s.chan c).cfg.actionFor k with
      | latch => exact he _
      | retry => exact he _
      | report => exact hm _
      | ignore => exact .refl s
    · exact .refl s

theorem State.appends_startChannel (c : Channel) (s : State) : State.Appends [] s (s.startChannel c) := by
  have h1 := State.appends_enter c (·.toStarting) s
  unfold State.startChannel
  dsimp only
  split
  · exact h1.trans (State.appends_takeFault c _ _)
  · exact h1

/-! ### An announcement (R12) -/

/-- R157, R160: a frame of the INTENT kind joins the queue outside CLASHED but when it is full. -/
theorem State.offer_intent (hk : x.kind = 0) (hm : s.mode ≠ .clashed) :
    (s.Full ∧ s.offer x = none) ∨ (¬s.Full ∧ ∃ t, s.offer x = some t ∧ State.Appends [x] s t) := by
  have hd : s.discards x = false := by simp [State.discards, hm, TxFrame.isDraw, hk]
  have hoffer : s.offer x = (offerTo x s.txQueue).map s.setQueue := by
    rw [State.offer, hd]
    rfl
  by_cases hf : s.Full
  · exact .inl ⟨hf, by rw [hoffer, (offerTo_eq_none hk).2 hf]; rfl⟩
  · cases hq : offerTo x s.txQueue with
    | none => exact absurd ((offerTo_eq_none hk).1 hq) hf
    | some q =>
      refine .inr ⟨hf, s.setQueue q, by rw [hoffer, hq]; rfl, ?_, fun h => absurd h hf⟩
      have hone : (([⟨x, 0, none⟩] : List TxEntry).filter fun e => e.frame.kind == 0).map (·.frame) = [x] := by
        simp [hk]
      have hq0 : s.kind0 = (s.txQueue.filter fun e => e.frame.kind == 0).map (·.frame) := rfl
      show (q.filter fun e => e.frame.kind == 0).map (·.frame) = _
      rw [hq0]
      rcases offerTo_cases hq with ⟨hdraw, -⟩ | ⟨-, -, rfl⟩ | ⟨-, -, -, xs, e, zs, hs, he, -, rfl⟩
      · simp [TxFrame.isDraw, hk] at hdraw
      · rw [List.filter_append, List.map_append, hone]
      · have hek : (e.frame.kind == 0) = false := by
          have : e.frame.kind = 5 := by simpa [TxFrame.isStatus] using he
          simp [this]
        rw [hs, List.filter_append, List.map_append, hone, List.filter_append, List.filter_append,
          List.filter_cons_of_neg (by rw [hek]; decide)]

/-- R12: an announcement hands the channel's INTENT to the queue. -/
theorem State.announce_some (h : (s.enter c (·.idle .pending)).offer (s.intentOf c) = some t) : s.announce c = t := by
  unfold State.announce
  dsimp only
  rw [State.enter_chan_self]
  exact h ▸ rfl

theorem State.announce_none (h : (s.enter c (·.idle .pending)).offer (s.intentOf c) = none) :
    s.announce c = (s.enter c (·.idle .pending)).enter c (·.idle .deferred) := by
  unfold State.announce
  dsimp only
  rw [State.enter_chan_self]
  exact h ▸ rfl

/-- R12: an announcement leaves PENDING with the INTENT queued, or, over a queue that its entry finds full, DEFERRED. -/
theorem State.announce_outcome (hm : s.mode ≠ .clashed) (c : Channel) :
    (¬(s.enter c (·.idle .pending)).Full ∧ (s.announce c).chan c = (s.chan c).idle .pending
        ∧ State.Appends [s.intentOf c] s (s.announce c))
      ∨ ((s.enter c (·.idle .pending)).Full ∧ (s.announce c).chan c = ((s.chan c).idle .pending).idle .deferred
          ∧ State.Appends [] s (s.announce c) ∧ (s.announce c).Full) := by
  have h1 := State.appends_enter c (·.idle .pending) s
  have hm1 : (s.enter c (·.idle .pending)).mode ≠ .clashed := by rwa [State.enter_mode]
  rcases State.offer_intent (x := s.intentOf c) rfl hm1 with ⟨hf, ho⟩ | ⟨hf, t, ho, ht⟩
  · have h2 := State.appends_enter c (·.idle .deferred) (s.enter c (·.idle .pending))
    rw [State.announce_none ho]
    exact .inr ⟨hf, by simp only [State.enter_chan_self], h1.trans h2, h2.keepsFull hf⟩
  · obtain ⟨-, q, -, hq⟩ := State.offer_eq_some ho
    rw [State.announce_some ho]
    refine .inl ⟨hf, ?_, h1.trans ht⟩
    rw [hq]
    exact State.enter_chan_self c _ s

/-- R9, R165: an entry queues one STATUS at most. -/
theorem State.enter_txQueue (c : Channel) (f : ChannelRecord → ChannelRecord) (s : State) :
    (s.enter c f).line.queue = s.line.queue ∨ (s.enter c f).line.queue = s.line.queue ++ [⟨.status c, 0, none⟩] := by
  rcases State.enter_cases c f s with e | e <;> rw [e]
  · exact .inl rfl
  · exact .inr rfl

/-- R12: an announcement over a queue of few frames is taken. -/
theorem State.announce_few (hm : s.mode ≠ .clashed) (h : s.line.queue.length < 4) (c : Channel) :
    (s.announce c).chan c = (s.chan c).idle .pending ∧ State.Appends [s.intentOf c] s (s.announce c) := by
  have hlen : (s.enter c (·.idle .pending)).line.queue.length < 5 := by
    rcases State.enter_txQueue c (·.idle .pending) s with e | e <;> rw [e]
    · omega
    · rw [List.length_append, List.length_singleton]
      omega
  have hfull : ¬(s.enter c (·.idle .pending)).Full := fun hf => absurd (hf.1.trans (List.length_filter_le _ _)) (by omega)
  exact ((State.announce_outcome hm c).resolve_right fun h => hfull h.1).2

end Sys2Proof.Machine
end

-- ==== Proofs: release ====
section
/-! SUPPORT. Channels that are free to run again (R21, R126, R129, R136, R143), one and several in one event. -/

namespace Sys2Proof.Machine

variable {s t u v : State} {c d : Channel} {fs gs : List TxFrame} {m : PartMode} {r : ChannelRecord}

/-! ### One channel -/

/-- R12, R76: the INTENT that a record announces. -/
def ChannelRecord.intent (c : Channel) (r : ChannelRecord) : TxFrame :=
  .intent c r.cfg.tier (r.cfg.bookingFor r.duty false) r.cfg.inrushWindow

theorem State.intentOf_eq (s : State) (c : Channel) : s.intentOf c = (s.chan c).intent c := rfl

/-- R11, R22, R85, R115: what a channel with record `r`, free to run again in mode `m`, shows in a state that follows. -/
structure ChannelRecord.Released (m : PartMode) (c : Channel) (r : ChannelRecord) (t : State) : Prop where
  off : r.eff = 0 → t.chan c = r.idle .off
  cold : r.eff ≠ 0 → r.cfg.tier = 0 → m ≠ .configuring → r.prot.hot = false → t.chan c = (r.idle .off).toStarting
  hot : r.eff ≠ 0 → r.cfg.tier = 0 → m ≠ .configuring → r.prot.hot = true → r.StoppedHot (t.chan c)
  running : r.eff ≠ 0 → r.cfg.tier ≠ 0 → m = .running →
    (t.chan c = (r.idle .off).idle .pending ∧ r.intent c ∈ t.kind0)
      ∨ (t.chan c = ((r.idle .off).idle .pending).idle .deferred ∧ t.Full)
  defers : r.eff ≠ 0 → r.cfg.tier ≠ 0 → m = .listening ∨ m = .isolated ∨ m = .clashed →
    t.chan c = (r.idle .off).idle .deferred
  rest : r.eff ≠ 0 → m = .configuring ∨ (m = .limp ∧ r.cfg.tier ≠ 0) → t.chan c = r.idle .off

/-- What a channel has turned to stands while others turn to theirs. -/
theorem ChannelRecord.Released.later (h : r.Released m c t) (hc : u.chan c = t.chan c) (ha : State.Appends fs t u) :
    r.Released m c u where
  off he := hc.trans (h.off he)
  cold he ht hm hh := hc.trans (h.cold he ht hm hh)
  hot he ht hm hh := hc ▸ h.hot he ht hm hh
  running he ht hm := (h.running he ht hm).imp (fun ⟨h1, h2⟩ => ⟨hc.trans h1, ha.keeps h2⟩)
    fun ⟨h1, h2⟩ => ⟨hc.trans h1, ha.keepsFull h2⟩
  defers he ht hm := hc.trans (h.defers he ht hm)
  rest he hm := hc.trans (h.rest he hm)

/-- R126, R129: what a release leaves of the record but where THERMAL stops a start at once. -/
theorem ChannelRecord.Released.keeps (h : r.Released m c t) (hot : r.eff = 0 ∨ r.cfg.tier ≠ 0 ∨ r.prot.hot = false) :
    (t.chan c).faults = r.faults ∧ (t.chan c).retryCount = r.retryCount ∧ (t.chan c).events = r.events
      ∧ (t.chan c).active = none ∧ (t.chan c).retry = none ∧ (t.chan c).prot.theta = r.prot.theta := by
  by_cases he : r.eff = 0
  · rw [h.off he]
    exact ⟨rfl, rfl, rfl, rfl, rfl, rfl⟩
  · by_cases hm : m = .configuring
    · rw [h.rest he (.inl hm)]
      exact ⟨rfl, rfl, rfl, rfl, rfl, rfl⟩
    · by_cases ht : r.cfg.tier = 0
      · have hh : r.prot.hot = false := (hot.resolve_left he).resolve_left (not_not.2 ht)
        rw [h.cold he ht hm hh]
        exact ⟨rfl, rfl, rfl, rfl, rfl, rfl⟩
      · cases m with
        | configuring => exact absurd rfl hm
        | limp =>
          rw [h.rest he (.inr ⟨rfl, ht⟩)]
          exact ⟨rfl, rfl, rfl, rfl, rfl, rfl⟩
        | running =>
          rcases h.running he ht rfl with ⟨e, -⟩ | ⟨e, -⟩ <;> rw [e] <;> exact ⟨rfl, rfl, rfl, rfl, rfl, rfl⟩
        | listening =>
          rw [h.defers he ht (.inl rfl)]
          exact ⟨rfl, rfl, rfl, rfl, rfl, rfl⟩
        | isolated =>
          rw [h.defers he ht (.inr (.inl rfl))]
          exact ⟨rfl, rfl, rfl, rfl, rfl, rfl⟩
        | clashed =>
          rw [h.defers he ht (.inr (.inr rfl))]
          exact ⟨rfl, rfl, rfl, rfl, rfl, rfl⟩

theorem State.intent_mem_kind0 {s : State} (h : State.Appends [s.intentOf c] s t) : s.intentOf c ∈ t.kind0 := by
  rw [h.frames]
  exact List.mem_append_right _ (List.mem_singleton_self _)

/-- R11, R22: what a request that begins hands to the queue. -/
theorem State.appends_beginRequest (c : Channel) (s : State) :
    ∃ fs, State.Appends fs s (s.beginRequest c) ∧ (fs = [] ∨ fs = [s.intentOf c]) := by
  have hstart : ∃ fs, State.Appends fs s (s.startChannel c) ∧ (fs = [] ∨ fs = [s.intentOf c]) :=
    ⟨[], State.appends_startChannel c s, .inl rfl⟩
  have hdefer : ∃ fs, State.Appends fs s (s.enter c (·.idle .deferred)) ∧ (fs = [] ∨ fs = [s.intentOf c]) :=
    ⟨[], State.appends_enter c _ s, .inl rfl⟩
  have hstay : ∃ fs, State.Appends fs s s ∧ (fs = [] ∨ fs = [s.intentOf c]) := ⟨[], .refl s, .inl rfl⟩
  unfold State.beginRequest
  split
  · exact hstay
  · split
    · exact hstart
    · exact hstay
  · next hm =>
    split
    · exact hstart
    · rcases State.announce_outcome (s := s) (by rw [hm]; decide) c with ⟨-, -, h⟩ | ⟨-, -, h, -⟩
      · exact ⟨_, h, .inr rfl⟩
      · exact ⟨_, h, .inl rfl⟩
  all_goals
    split
    · exact hstart
    · exact hdefer

/-- R21, R126, R129, R136: a channel that is free to run again. -/
theorem State.freshStart_released (s : State) (c : Channel) : (s.chan c).Released s.mode c (s.freshStart c) := by
  have hc : (s.enter c (·.idle .off)).chan c = (s.chan c).idle .off := State.enter_chan_self c _ s
  have hmode : (s.enter c (·.idle .off)).mode = s.mode := State.enter_mode c _ s
  have hstart : s.mode ≠ .configuring → (s.chan c).cfg.tier = 0 →
      (s.enter c (·.idle .off)).beginRequest c = (s.enter c (·.idle .off)).startChannel c := fun hm ht =>
    State.beginRequest_tier0 (by rwa [hmode]) (by rw [hc]; exact ht)
  refine ⟨fun he => ?_, fun he ht hm hh => ?_, fun he ht hm hh => ?_, fun he ht hm => ?_, fun he ht hm => ?_, fun he hm => ?_⟩
  · rw [State.freshStart_off he, hc]
  · rw [State.freshStart_begins he, hstart hm ht, State.startChannel_chan_self (by rw [hc]; exact hh), hc]
  · rw [State.freshStart_begins he, hstart hm ht]
    have hstopped := State.startChannel_hot (s := s.enter c (·.idle .off)) (c := c) (by rw [hc]; exact hh)
    rw [hc] at hstopped
    exact hstopped
  · rw [State.freshStart_begins he, State.beginRequest_running (hmode.trans hm) (by rw [hc]; exact ht)]
    rcases State.announce_outcome (s := s.enter c (·.idle .off)) (by rw [hmode, hm]; decide) c with ⟨-, h1, h2⟩ | ⟨-, h1, -, h2⟩
    · rw [hc] at h1
      refine .inl ⟨h1, ?_⟩
      have hi : (s.enter c (·.idle .off)).intentOf c = (s.chan c).intent c := by
        rw [State.intentOf_eq, hc]
        rfl
      exact hi ▸ State.intent_mem_kind0 h2
    · rw [hc] at h1
      exact .inr ⟨h1, h2⟩
  · rw [State.freshStart_begins he, State.beginRequest_defers (by rwa [hmode]) (by rw [hc]; exact ht),
      State.enter_chan_self, hc]
  · have hstay : (s.enter c (·.idle .off)).beginRequest c = s.enter c (·.idle .off) := by
      unfold State.beginRequest
      rw [hmode]
      rcases hm with hm | ⟨hm, ht⟩ <;> rw [hm]
      exact if_neg (by rw [hc]; exact ht)
    rw [State.freshStart_begins he, hstay, hc]

theorem State.appends_freshStart (c : Channel) (s : State) :
    ∃ fs, State.Appends fs s (s.freshStart c) ∧ (fs = [] ∨ fs = [s.intentOf c]) := by
  have h1 := State.appends_enter c (·.idle .off) s
  have hi : (s.enter c (·.idle .off)).intentOf c = s.intentOf c := by
    rw [State.intentOf_eq, State.intentOf_eq, State.enter_chan_self]
    rfl
  obtain ⟨fs, h2, hfs⟩ := State.appends_beginRequest c (s.enter c (·.idle .off))
  rw [hi] at hfs
  unfold State.freshStart
  dsimp only
  split
  · exact ⟨[], h1, .inl rfl⟩
  · exact ⟨fs, h1.trans h2, hfs⟩

/-! ### A release (R126, R129) -/

/-- R126, R129: the bank is out of range, or the part is shut down. -/
def State.Out (s : State) (c : Channel) : Prop :=
  s.feed.feeds[bankOf c] = some .under ∨ s.feed.feeds[bankOf c] = some .over ∨ s.feed.temp = .shutdown

theorem State.bankOut_iff {s : State} {b : Bank} :
    s.bankOut b = true ↔ s.feed.feeds[b] = some .under ∨ s.feed.feeds[b] = some .over := by
  unfold State.bankOut
  rcases s.feed.feeds[b] with _ | _ | _ | _ <;> simp

theorem State.out_iff {s : State} : s.Out c ↔ (s.bankOut (bankOf c) || s.isShutdown) = true := by
  rw [Bool.or_eq_true, State.bankOut_iff, State.isShutdown, beq_iff_eq, or_assoc]
  rfl

theorem State.release_out (h : s.Out c) : s.release c = s.enter c fun r => { r.idle .inhibited with
    causes := { r.causes with feed := s.bankOut (bankOf c), shutdown := s.isShutdown } } := if_pos (State.out_iff.1 h)

theorem State.release_in (h : ¬s.Out c) : s.release c = s.freshStart c := if_neg (mt State.out_iff.2 h)

theorem State.appends_release (c : Channel) (s : State) :
    ∃ fs, State.Appends fs s (s.release c) ∧ (fs = [] ∨ fs = [s.intentOf c]) := by
  by_cases h : s.Out c
  · rw [State.release_out h]
    exact ⟨[], State.appends_enter c _ s, .inl rfl⟩
  · rw [State.release_in h]
    exact State.appends_freshStart c s

/-! ### Several channels in one event -/

/-- Channel activity with no channel waiting for a slot afterwards and no binding changed. -/
structure State.Quiet (s t : State) : Prop where
  acts : s.Acts t
  bind : t.bind = s.bind
  noQueue : t.sequencer.queue = []

theorem State.Quiet.refl (h : s.sequencer.queue = []) : s.Quiet s := ⟨State.Acts.refl s, rfl, h⟩

theorem State.Quiet.touch (h : s.Quiet t) (k : State.Touches c t u) : s.Quiet u :=
  ⟨h.acts.trans k.acts, k.bind.trans h.bind, k.noQueue⟩

theorem State.Quiet.settle (h : s.Quiet t) (p : s.Plain) : t.settle = t.echoed :=
  State.Plain.settle ⟨h.bind ▸ p.noFollower, h.noQueue⟩

/-- R21, R129, R136: an operation at each of several channels that hands at most the channel's INTENT to the queue. -/
theorem State.foldl_each {op : State → Channel → State} {R : Channel → ChannelRecord → State → Prop}
    (hop : ∀ u c, s.Quiet u → State.Touches c u (op u c) ∧ R c (u.chan c) (op u c)
      ∧ ∃ fs, State.Appends fs u (op u c) ∧ (fs = [] ∨ fs = [u.intentOf c]))
    (hR : ∀ {c r u v fs}, R c r u → v.chan c = u.chan c → State.Appends fs u v → R c r v) (l : List Channel) :
    ∀ u, s.Quiet u → l.Nodup → s.Quiet (l.foldl op u) ∧ (∀ d, d ∉ l → (l.foldl op u).chan d = u.chan d)
      ∧ (∀ c ∈ l, R c (u.chan c) (l.foldl op u))
      ∧ ∃ l' : List Channel, l'.Sublist l ∧ State.Appends (l'.map u.intentOf) u (l.foldl op u) := by
  induction l with
  | nil => exact fun u hu _ => ⟨hu, fun _ _ => rfl, fun c hc => absurd hc List.not_mem_nil, [], List.Sublist.slnil, State.Appends.refl u⟩
  | cons c l ih =>
    intro u hu hn
    obtain ⟨hcl, hl⟩ := List.nodup_cons.1 hn
    obtain ⟨htouch, hc, fs, hfs, hfsc⟩ := hop u c hu
    obtain ⟨hq, hout, hin, l', hl', ha⟩ := ih (op u c) (hu.touch htouch) hl
    have hmap : l'.map (op u c).intentOf = l'.map u.intentOf := List.map_congr_left fun d hd => by
      rw [State.intentOf_eq, State.intentOf_eq, htouch.others d (fun e => hcl (e ▸ hl'.subset hd))]
    rw [hmap] at ha
    refine ⟨hq, fun d hd => ?_, fun d hd => ?_, ?_⟩
    · obtain ⟨h1, h2⟩ := not_or.1 (mt List.mem_cons.2 hd)
      exact (hout d h2).trans (htouch.others d h1)
    · by_cases hdc : d = c
      · rw [hdc]
        exact hR hc (hout c hcl) ha
      · have hdl := (List.mem_cons.1 hd).resolve_left hdc
        rw [← htouch.others d hdc]
        exact hin d hdl
    · rcases hfsc with rfl | rfl
      · exact ⟨l', hl'.cons c, hfs.trans ha⟩
      · exact ⟨c :: l', hl'.cons_cons c, hfs.trans ha⟩

/-- R3, R76: the channels in order of tier and channel number. -/
theorem State.byTier_before (s : State) : s.byTier.Pairwise s.before := by
  unfold State.byTier
  refine List.pairwise_flatMap.2 ⟨fun t _ => ?_, ?_⟩
  · refine List.Pairwise.imp_of_mem (fun {a b} ha hb hab => ?_) ((List.pairwise_lt_finRange 20).filter _)
    have ht : ∀ x ∈ allChannels.filter (fun c => (s.chan c).cfg.tier == t), (s.chan x).cfg.tier = t :=
      fun x hx => by simpa using (List.mem_filter.1 hx).2
    exact .inr ⟨(ht a ha).trans (ht b hb).symm, hab⟩
  · refine (List.pairwise_lt_finRange 4).imp fun {a b} hab x hx y hy => .inl ?_
    rw [List.mem_filter, beq_iff_eq] at hx hy
    rw [hx.2, hy.2]
    exact hab

theorem State.mem_byTier (s : State) (c : Channel) : c ∈ s.byTier :=
  List.mem_flatMap.2 ⟨(s.chan c).cfg.tier, List.mem_finRange _, List.mem_filter.2 ⟨mem_allChannels c, by simp⟩⟩

end Sys2Proof.Machine
end

-- ==== Proofs: recovery ====
section
/-! PROOFS. Recoveries (R136, R143): O44. -/

namespace Sys2Proof.Machine

variable {s t u : State} {c d : Channel} {fs : List TxFrame} {m : PartMode} {r : ChannelRecord} {b : Bank} {w : Nat} {x : Int}
  {cause : Causes → Causes} {sel : Channel → Bool}

/-- R21: a record with other causes of inhibition. -/
def ChannelRecord.caused (cause : Causes → Causes) (r : ChannelRecord) : ChannelRecord := { r with causes := cause r.causes }

/-- R136, R143: what a recovery makes of a channel with record `r`. -/
def ChannelRecord.Recovered (m : PartMode) (cause : Causes → Causes) (c : Channel) (r : ChannelRecord) (t : State) : Prop :=
  (r.state = .inhibited → (cause r.causes).none = true → (r.caused cause).Released m c t)
    ∧ (r.state ≠ .inhibited ∨ (cause r.causes).none = false → t.chan c = r.caused cause)

theorem ChannelRecord.Recovered.later (h : r.Recovered m cause c t) (hc : u.chan c = t.chan c) (ha : State.Appends fs t u) :
    r.Recovered m cause c u :=
  ⟨fun hs hn => (h.1 hs hn).later hc ha, fun hs => hc.trans (h.2 hs)⟩

/-- R136, R143: a recovery at one channel. -/
theorem State.recover_spec (hq : s.sequencer.queue = []) (c : Channel) (cause : Causes → Causes) :
    State.Touches c s (s.recover c cause) ∧ (s.chan c).Recovered s.mode cause c (s.recover c cause)
      ∧ ∃ fs, State.Appends fs s (s.recover c cause) ∧ (fs = [] ∨ fs = [s.intentOf c]) := by
  have h1 : (s.modChan c (·.caused cause)).chan c = (s.chan c).caused cause := State.modChan_chan_self s c _
  have ht : State.Touches c s (s.modChan c (·.caused cause)) := State.touches_modChan hq
  have ha : State.Appends [] s (s.modChan c (·.caused cause)) := State.appends_modChan c _ s
  have hrec : s.recover c cause = if (s.chan c).state = .inhibited ∧ (cause (s.chan c).causes).none = true then
      (s.modChan c (·.caused cause)).freshStart c else s.modChan c (·.caused cause) := by
    show (if (((s.modChan c (·.caused cause)).chan c).state == .inhibited
      && ((s.modChan c (·.caused cause)).chan c).causes.none) = true then _ else _) = _
    rw [h1]
    simp [ChannelRecord.caused]
  rw [hrec]
  split
  · next h =>
    have hr := State.freshStart_released (s.modChan c (·.caused cause)) c
    rw [h1] at hr
    obtain ⟨fs, hfs, hi⟩ := State.appends_freshStart c (s.modChan c (·.caused cause))
    rw [State.intentOf_eq, h1] at hi
    refine ⟨ht.trans (State.touches_freshStart ht.noQueue), ⟨fun _ _ => hr, ?_⟩, fs, ha.trans hfs, hi⟩
    rintro (hs | hs)
    · exact absurd h.1 hs
    · exact absurd (h.2.symm.trans hs) (by decide)
  · next h => exact ⟨ht, ⟨fun hs hn => absurd ⟨hs, hn⟩ h, fun _ => h1⟩, [], ha, .inl rfl⟩

/-- R136, R143: a recovery handed to channels. -/
theorem State.recoverAll_spec (hq : s.sequencer.queue = []) (sel : Channel → Bool) (cause : Causes → Causes) :
    s.Quiet (s.recoverAll sel cause)
      ∧ (∀ c, sel c = false ∨ s.handedTo c = false → (s.recoverAll sel cause).chan c = s.chan c)
      ∧ (∀ c, sel c = true → s.handedTo c = true → (s.chan c).Recovered s.mode cause c (s.recoverAll sel cause))
      ∧ ∃ l : List Channel, l.Pairwise s.before ∧ State.Appends (l.map s.intentOf) s (s.recoverAll sel cause) := by
  have hop : ∀ u c, s.Quiet u → State.Touches c u (if u.handedTo c then u.recover c cause else u)
      ∧ ((s.handedTo c = true → (u.chan c).Recovered s.mode cause c (if u.handedTo c then u.recover c cause else u))
        ∧ (s.handedTo c = false → (if u.handedTo c then u.recover c cause else u).chan c = u.chan c))
      ∧ ∃ fs, State.Appends fs u (if u.handedTo c then u.recover c cause else u) ∧ (fs = [] ∨ fs = [u.intentOf c]) := by
    intro u c hu
    have hmode := hu.acts.mode
    have hh : u.handedTo c = s.handedTo c := by
      unfold State.handedTo
      rw [hmode]
    rw [hh]
    by_cases hc : s.handedTo c = true
    · obtain ⟨h1, h2, h3⟩ := State.recover_spec hu.noQueue c cause
      rw [hmode] at h2
      rw [if_pos hc]
      exact ⟨h1, ⟨fun _ => h2, fun hf => absurd (hc.symm.trans hf) (by decide)⟩, h3⟩
    · rw [if_neg hc]
      exact ⟨.refl hu.noQueue, ⟨fun h => absurd h hc, fun _ => rfl⟩, [], .refl u, .inl rfl⟩
  obtain ⟨hquiet, hout, hin, l, hl, ha⟩ := State.foldl_each
    (R := fun c r u => (s.handedTo c = true → r.Recovered s.mode cause c u) ∧ (s.handedTo c = false → u.chan c = r))
    hop (fun hr hc ha => ⟨fun h => (hr.1 h).later hc ha, fun h => hc.trans (hr.2 h)⟩)
    (s.byTier.filter sel) s (.refl hq) (s.byTier_nodup.filter _)
  refine ⟨hquiet, fun c hc => ?_, fun c hc hh => (hin c (List.mem_filter.2 ⟨s.mem_byTier c, hc⟩)).1 hh,
    l, (s.byTier_before.filter sel).sublist hl, ha⟩
  by_cases hs : sel c = true
  · exact (hin c (List.mem_filter.2 ⟨s.mem_byTier c, hs⟩)).2 (hc.resolve_left (by rw [hs]; decide))
  · exact hout c fun hm => hs (List.mem_filter.1 hm).2

/-! ### The measurements that release -/

/-- R134, R136: the measurements that bring a bank back into range. -/
theorem State.measureFeed_recovery
    (h : (s.feed.feeds[b] = some .under ∧ 180 < w ∧ w ≤ 320) ∨ (s.feed.feeds[b] = some .over ∧ 160 ≤ w ∧ w < 300)) :
    s.measureFeed b w = (s.setFeed b .inRange).recoverAll (fun c => bankOf c == b) fun k => { k with feed := false } := by
  obtain ⟨old, hold, hne, hnext⟩ : ∃ old, s.feed.feeds[b] = some old ∧ old ≠ .inRange ∧ nextFeed old w = .inRange := by
    rcases h with ⟨h, h1, h2⟩ | ⟨h, h1, h2⟩
    · refine ⟨_, h, by decide, ?_⟩
      unfold nextFeed
      dsimp only
      rw [if_neg (by omega), if_pos h1]
    · refine ⟨_, h, by decide, ?_⟩
      unfold nextFeed
      dsimp only
      rw [if_neg (by omega), if_pos h2]
  unfold State.measureFeed
  rw [hold]
  dsimp only
  rw [hnext, if_neg fun h => hne h.1, if_pos ⟨hne, rfl⟩]
  exact rfl

/-- R141, R143: the measurements that end a shutdown. -/
theorem State.measureDie_recovery (h : s.feed.temp = .shutdown) (hx : x < 145) :
    ∃ temp, s.measureDie x = ({ s with feed := { s.feed with temp := temp } } : State).recoverAll (fun _ => true)
      fun k => { k with shutdown := false } := by
  have hne : nextTemp .shutdown x ≠ .shutdown := by
    unfold nextTemp
    dsimp only
    split
    · decide
    · decide
  refine ⟨nextTemp .shutdown x, ?_⟩
  unfold State.measureDie
  rw [h]
  dsimp only
  rw [if_neg (show ¬(PartTemp.shutdown = .normal ∧ _) from fun h => absurd h.1 (by decide)),
    if_neg (show ¬(PartTemp.shutdown ≠ .shutdown ∧ _) from fun h => h.1 rfl), if_pos ⟨rfl, hne⟩]

/-! ### What is seen of it -/

/-- R12, R22, R115: the outcome at a channel that is free to run again, as it is seen once the event has ended. -/
theorem ChannelRecord.Released.outcome (h : r.Released m c t) (hm : m ≠ .configuring) :
    let q := t.echoed.chan c
    (r.eff = 0 → q.state = .off ∧ q.active = none)
      ∧ (r.eff ≠ 0 → r.cfg.tier = 0 → r.prot.hot = false →
          q.state = .starting ∧ q.active = none ∧ q.booking = r.cfg.bookingFor r.duty false)
      ∧ (r.eff ≠ 0 → r.cfg.tier = 0 → r.prot.hot = true → r.StoppedHot q)
      ∧ (r.eff ≠ 0 → r.cfg.tier ≠ 0 → m = .running →
          (q.state = .pending ∧ ∃ e ∈ t.echoed.line.queue, e.frame = r.intent c)
            ∨ (q.state = .deferred ∧ 5 ≤ t.echoed.queued (fun e => e.frame.kind != 1)
                ∧ t.echoed.queued (fun e => e.frame.kind == 5) = 0))
      ∧ (r.eff ≠ 0 → r.cfg.tier ≠ 0 → m ≠ .running → m ≠ .limp → q.state = .deferred) := by
  dsimp only
  rw [State.echoed_chan]
  refine ⟨fun he => ?_, fun he ht hh => ?_, fun he ht hh => h.hot he ht hm hh, fun he ht hr => ?_, fun he ht hr hl => ?_⟩
  · rw [h.off he]
    exact ⟨rfl, rfl⟩
  · rw [h.cold he ht hm hh]
    exact ⟨rfl, rfl, rfl⟩
  · refine (h.running he ht hr).imp (fun ⟨h1, h2⟩ => ⟨by rw [h1]; rfl, (State.mem_kind0.1 h2).2⟩) fun ⟨h1, h2⟩ =>
      ⟨by rw [h1]; rfl, h2⟩
  · rw [h.defers he ht (by cases m <;> simp_all)]
    rfl

/-- R135, R142: which channels a recovery is handed to. -/
theorem State.handedTo_iff {s : State} : s.handedTo c = true ↔ (s.mode = .limp → c.val < 4) := by
  unfold State.handedTo
  by_cases h : s.mode = .limp <;> simp [h]

theorem State.handedTo_eq_false {s : State} : s.handedTo c = false ↔ ¬(s.mode = .limp → c.val < 4) := by
  rw [← State.handedTo_iff, Bool.not_eq_true]

/-- R136, R143: a recovery that follows a change of the feed part, as it is seen once the event has ended. -/
theorem State.recoverAll_outcome (p : s.Plain) (f : FeedMonitor) (sel : Channel → Bool)
    (cause : Causes → Causes) :
    let t := (({ s with feed := f } : State).recoverAll sel cause).echoed
    (({ s with feed := f } : State).recoverAll sel cause).settle = t
      ∧ (∃ l : List Channel, l.Pairwise s.before ∧ t.kind0 = s.kind0 ++ l.map s.intentOf)
      ∧ ∀ c, (sel c = false ∨ ¬(s.mode = .limp → c.val < 4) → t.chan c = (s.chan c).followed)
        ∧ (sel c = true → (s.mode = .limp → c.val < 4) → (s.chan c).state ≠ .inhibited ∨ (cause (s.chan c).causes).none = false →
            t.chan c = ((s.chan c).caused cause).followed)
        ∧ (sel c = true → (s.mode = .limp → c.val < 4) → (s.chan c).state = .inhibited → (cause (s.chan c).causes).none = true →
            ∃ u, t = u.echoed ∧ ((s.chan c).caused cause).Released s.mode c u) := by
  obtain ⟨hquiet, hout, hin, l, hl, ha⟩ := State.recoverAll_spec (s := { s with feed := f }) p.noQueue sel cause
  refine ⟨hquiet.settle (s := { s with feed := f }) ⟨p.noFollower, p.noQueue⟩, ⟨l, hl, ha.frames⟩, fun c => ⟨fun hc => ?_,
    fun hc hh hs => ?_, fun hc hh hs hn => ⟨_, rfl, (hin c hc (State.handedTo_iff.2 hh)).1 hs hn⟩⟩⟩
  · rw [State.echoed_chan, hout c (hc.imp_right State.handedTo_eq_false.2)]
    rfl
  · rw [State.echoed_chan, (hin c hc (State.handedTo_iff.2 hh)).2 hs]
    rfl

end Sys2Proof.Machine

/-- Settles O44. -/
theorem recoveryReleases : Obligations.RecoveryReleases := by
  open Sys2Proof.Machine Sys2Proof in
  intro b v x s p hm
  refine ⟨fun h => ?_, fun h hx => ?_⟩
  · obtain ⟨hsettle, hordered, hchan⟩ := State.recoverAll_outcome p
      { s.feed with feeds := s.feed.feeds.set b (some .inRange) } (fun c => bankOf c == b) fun k => { k with feed := false }
    refine ⟨_, congrArg Host.Outcome.next ((congrArg State.settle (State.measureFeed_recovery h)).trans hsettle), hordered,
      fun c => ?_⟩
    obtain ⟨hother, hstay, hfree⟩ := hchan c
    refine ⟨fun hc => hother (hc.imp_left fun h => by simpa using h), fun hb hh hs => hstay (by simpa using hb) hh (hs.imp_right
      fun h => by rcases h with h | h <;> simp [Causes.none, h]), fun hb hh hs h1 h2 => ?_⟩
    obtain ⟨u, hu, hr⟩ := hfree (by simpa using hb) hh hs (by simp [Causes.none, h1, h2])
    obtain ⟨h1, h2, h3, h4, h5⟩ := hr.outcome hm
    rw [hu]
    exact ⟨fun he => (h1 he).1, fun he ht hc => ⟨(h2 he ht hc).1, (h2 he ht hc).2.2⟩, h3, h4, h5⟩
  · obtain ⟨temp, hmeasure⟩ := State.measureDie_recovery h hx
    obtain ⟨hsettle, hordered, hchan⟩ := State.recoverAll_outcome p { s.feed with temp := temp } (fun _ => true)
      fun k => { k with shutdown := false }
    refine ⟨_, congrArg Host.Outcome.next ((congrArg State.settle hmeasure).trans hsettle), hordered, fun c => ?_⟩
    obtain ⟨hother, hstay, hfree⟩ := hchan c
    refine ⟨fun hc => hother (.inr hc), fun hh hs => hstay rfl hh (hs.imp_right fun h => by
      rcases h with h | h <;> simp [Causes.none, h]), fun hh hs h1 h2 => ?_⟩
    obtain ⟨u, hu, hr⟩ := hfree rfl hh hs (by simp [Causes.none, h1, h2])
    obtain ⟨h1, h2, h3, h4, h5⟩ := hr.outcome hm
    rw [hu]
    exact ⟨fun he => (h1 he).1, fun he ht hc => ⟨(h2 he ht hc).1, (h2 he ht hc).2.2⟩, h3, h4, h5⟩
end

-- ==== Proofs: clear ====
section
/-! PROOFS. CLEAR_FAULT (R129, R130): O56. -/

namespace Sys2Proof.Machine

variable {s t u : State} {c d : Channel} {fs : List TxFrame} {m : PartMode} {r : ChannelRecord} {sender : Station} {b : Byte}

/-! ### One channel -/

theorem ChannelRecord.notCool_iff : r.notCool = true ↔ r.state = .latched ∧ r.active = some .overload ∧ r.prot.cool = false := by
  simp [ChannelRecord.notCool, and_assoc]

/-- R129: what a clear makes of a channel with record `r`, its bank out of range or the part shut down where `out`. -/
structure ChannelRecord.Clears (m : PartMode) (out : Prop) (c : Channel) (r : ChannelRecord) (t : State) : Prop where
  refused : r.notCool = true → t.chan c = r
  other : r.notCool = false → r.state ≠ .latched → t.chan c = r.cleared
  inhibited : r.notCool = false → r.state = .latched → out →
    ∃ k : Causes, t.chan c = { r.cleared.idle .inhibited with causes := k }
  free : r.notCool = false → r.state = .latched → ¬out → r.cleared.Released m c t

theorem ChannelRecord.Clears.later {out : Prop} (h : r.Clears m out c t) (hc : u.chan c = t.chan c)
    (ha : State.Appends fs t u) : r.Clears m out c u where
  refused hn := hc.trans (h.refused hn)
  other hn hs := hc.trans (h.other hn hs)
  inhibited hn hs ho := (h.inhibited hn hs ho).imp fun _ e => hc.trans e
  free hn hs ho := (h.free hn hs ho).later hc ha

/-- R129, R165: a clear at one channel. -/
theorem State.clearChannel_spec (hq : s.sequencer.queue = []) (c : Channel) :
    State.Touches c s (s.clearChannel c) ∧ (s.chan c).Clears s.mode (s.Out c) c (s.clearChannel c)
      ∧ ∃ fs, State.Appends fs s (s.clearChannel c) ∧ (fs = [] ∨ fs = [s.intentOf c]) := by
  have h1 : (s.modChan c (·.cleared)).chan c = (s.chan c).cleared := State.modChan_chan_self s c _
  have ht : State.Touches c s (s.modChan c (·.cleared)) := State.touches_modChan hq
  have ha : State.Appends [] s (s.modChan c (·.cleared)) := State.appends_modChan c _ s
  have hi : (s.modChan c (·.cleared)).intentOf c = s.intentOf c := by
    rw [State.intentOf_eq, h1]
    rfl
  unfold State.clearChannel
  dsimp only
  split
  · next hn =>
    exact ⟨.refl hq, ⟨fun _ => rfl, fun h => absurd (hn.symm.trans h) (by decide), fun h => absurd (hn.symm.trans h) (by decide),
      fun h => absurd (hn.symm.trans h) (by decide)⟩, [], .refl s, .inl rfl⟩
  · next hn =>
    split
    · next hs =>
      have hs : (s.chan c).state = .latched := by simpa using hs
      obtain ⟨fs, hfs, hfsi⟩ := State.appends_release c (s.modChan c (·.cleared))
      rw [hi] at hfsi
      refine ⟨ht.trans (State.touches_release ht.noQueue), ⟨fun h => absurd h hn, fun _ h => absurd hs h, fun _ _ ho => ?_,
        fun _ _ ho => ?_⟩, fs, ha.trans hfs, hfsi⟩
      · rw [State.release_out (s := s.modChan c (·.cleared)) (by exact ho), State.enter_chan_self, h1]
        exact ⟨_, rfl⟩
      · have hr := State.freshStart_released (s.modChan c (·.cleared)) c
        rw [h1] at hr
        rw [State.release_in (s := s.modChan c (·.cleared)) (by exact ho)]
        exact hr
    · next hs =>
      have hs : (s.chan c).state ≠ .latched := by simpa using hs
      have hstays : ∀ u : State, u.chan c = (s.chan c).cleared → (s.chan c).Clears s.mode (s.Out c) c u := fun u hu =>
        ⟨fun h => absurd h hn, fun _ _ => hu, fun _ h => absurd h hs, fun _ h => absurd h hs⟩
      split
      · exact ⟨ht, hstays _ h1, [], ha, .inl rfl⟩
      · exact ⟨ht.trans (State.touches_requestStatus ht.noQueue c), hstays _ (by rw [State.requestStatus_chan, h1]), [],
          ha.trans (State.appends_requestStatus c _), .inl rfl⟩

/-- R165: a requested STATUS waits where the queue has room. -/
theorem State.requestStatus_waits (h : s.replyRoom) (c : Channel) :
    ∃ x ∈ (s.requestStatus c).line.queue, x.frame = .status c := by
  unfold State.requestStatus
  split
  · next ha =>
    obtain ⟨x, hx, e⟩ := List.any_eq_true.1 ha
    exact ⟨x, hx, by simpa using e⟩
  · have hd : s.discards (.status c) = false := State.discards_of_kind (Nat.succ_ne_zero 4) rfl
    rw [State.send, State.offer_of_room rfl hd (State.hasRoom_of_replyRoom h _)]
    exact ⟨_, List.mem_append_right _ (List.mem_singleton_self _), rfl⟩

/-- R165: a clear that changes the record queues a STATUS. -/
theorem State.clearChannel_status (hs : (s.chan c).state ≠ .latched)
    (hn : ¬((s.chan c).faults = .empty ∧ (s.chan c).retryCount = 0)) (h : s.replyRoom) :
    ∃ x ∈ (s.clearChannel c).line.queue, x.frame = .status c := by
  have hcool : (s.chan c).notCool = false := Bool.eq_false_iff.2 fun h => hs (ChannelRecord.notCool_iff.1 h).1
  have : s.clearChannel c = (s.modChan c (·.cleared)).requestStatus c := by
    unfold State.clearChannel
    dsimp only
    rw [hcool, if_neg (by decide), if_neg (by simpa using hs), if_neg (by simpa using hn)]
  rw [this]
  exact State.requestStatus_waits (by exact h) c

/-- R129: a clear with nothing to clear. -/
theorem State.clearChannel_nothing (hs : (s.chan c).state ≠ .latched) (hf : (s.chan c).faults = .empty)
    (hr : (s.chan c).retryCount = 0) : s.clearChannel c = s.modChan c (·.cleared) := by
  have hcool : (s.chan c).notCool = false := Bool.eq_false_iff.2 fun h => hs (ChannelRecord.notCool_iff.1 h).1
  unfold State.clearChannel
  dsimp only
  rw [hcool, if_neg (by decide), if_neg (by simpa using hs), if_pos (by simp [hf, hr])]

/-! ### Several channels (R130) -/

/-- R130: clears at several channels. -/
theorem State.clears_spec (hq : s.sequencer.queue = []) (l : List Channel) (hn : l.Nodup) :
    let t := l.foldl (fun s c => s.clearChannel c) s
    s.Quiet t ∧ (∀ d, d ∉ l → t.chan d = s.chan d) ∧ (∀ c ∈ l, (s.chan c).Clears s.mode (s.Out c) c t)
      ∧ ∃ l' : List Channel, l'.Sublist l ∧ State.Appends (l'.map s.intentOf) s t := by
  refine State.foldl_each (R := fun c r u => r.Clears s.mode (s.Out c) c u) (fun u c hu => ?_) (fun h hc ha => h.later hc ha)
    l s (.refl hq) hn
  have hout : u.Out c = s.Out c := by
    unfold State.Out
    rw [hu.acts.feed]
  obtain ⟨h1, h2, h3⟩ := State.clearChannel_spec hu.noQueue c
  rw [hu.acts.mode, hout] at h2
  exact ⟨h1, h2, h3⟩

/-- A record written as it stands. -/
theorem State.modChan_of_same {f : ChannelRecord → ChannelRecord} (h : f (s.chan c) = s.chan c) : s.modChan c f = s := by
  have he : (s.modChan c f).echoes = s.echoes := by
    show s.echoes ++ echoChange c (s.chan c) (f (s.chan c)) = _
    rw [h, echoChange_of_same rfl, List.append_nil]
  refine (State.ext_chan (fun d => ?_) ?_).symm
  · exact State.setChan_chan_cases (s := s) (q := f (s.chan c)) (P := fun r q => r = q) (fun _ => rfl) h.symm d
  · rw [← he]
    rfl

/-- CLEAR_FAULT accepted (R129, R130). -/
theorem exec_clearFault (p : s.Plain) (h : s.Serves sender) (hm : s.mode ≠ .limp) {l : List Channel} (hl : l ≠ [])
    (hn : l.Nodup) (ht : s.heardFrame.clearTargets b = l) :
    exec (.clearFault sender b) s = .next (((l.foldl (fun s c => s.clearChannel c) s.heardFrame).carried sender
      [[1, if l.any fun c => (s.chan c).notCool then 3 else 0]] false).echoed) := by
  have hany : (l.any fun c => (s.heardFrame.chan c).notCool) = l.any fun c => (s.chan c).notCool :=
    congrArg l.any (funext fun c => by rw [State.heardFrame_chan])
  have hresult : ∀ x : Bool, shortReply codeClearFault (if x then resultNotCool else resultDone)
      = ([1, if x then 3 else 0] : List Byte) := by decide
  obtain ⟨hquiet, -⟩ := State.clears_spec p.heardFrame.noQueue l hn
  have hplain : (l.foldl (fun s c => s.clearChannel c) s.heardFrame).Plain :=
    ⟨hquiet.bind ▸ p.heardFrame.noFollower, hquiet.noQueue⟩
  show Host.Outcome.next (s.receive sender _).settle = _
  rw [h.receive, ht, h.serve (by cases l with | nil => exact absurd rfl hl | cons => rfl) fun e => absurd e hm,
    ← (hplain.carried (sender := sender) _ _).settle]
  unfold State.clearFaults
  dsimp only
  rw [ht, hany, hresult]

/-! ### What is seen of it -/

/-- R11, R129: what is seen of a channel that has been cleared, once the event has ended; `out` says that its bank is out
of range, `shut` that the part is shut down. -/
theorem ChannelRecord.Clears.outcome {out shut : Prop} {m' : PartMode} (h : r.Clears m (out ∨ shut) c t)
    (hm : m ≠ .configuring) (hl : m ≠ .limp) (hrun : m = .running ↔ m' = .running) (hn : r.notCool = false) :
    let q := t.echoed.chan c
    (¬(r.state = .latched ∧ r.prot.hot = true ∧ r.cfg.tier = 0 ∧ r.eff ≠ 0 ∧ ¬out ∧ ¬shut) →
          q.faults = .empty ∧ q.retryCount = 0 ∧ q.events = r.events)
      ∧ (r.state ≠ .latched → q = r.cleared.followed)
      ∧ (r.state = .latched → (out ∨ shut → q.state = .inhibited ∧ q.active = none)
          ∧ (¬out → ¬shut → r.eff = 0 → q.state = .off ∧ q.active = none)
          ∧ (¬out → ¬shut → r.eff ≠ 0 → r.cfg.tier = 0 → r.prot.hot = false →
              q.state = .starting ∧ q.active = none ∧ q.booking = r.cfg.bookingFor r.duty false)
          ∧ (¬out → ¬shut → r.eff ≠ 0 → r.cfg.tier = 0 → r.prot.hot = true → r.cleared.StoppedHot q)
          ∧ (¬out → ¬shut → r.eff ≠ 0 → r.cfg.tier ≠ 0 → m' = .running →
              (q.state = .pending ∧ ∃ e ∈ t.line.queue, e.frame = r.intent c)
                ∨ (q.state = .deferred ∧ 5 ≤ t.queued (fun e => e.frame.kind != 1)
                    ∧ t.queued (fun e => e.frame.kind == 5) = 0))
          ∧ (¬out → ¬shut → r.eff ≠ 0 → r.cfg.tier ≠ 0 → m' ≠ .running → q.state = .deferred)) := by
  dsimp only
  refine ⟨fun hot => ?_, fun hs => by rw [State.echoed_chan, h.other hn hs], fun hs => ⟨fun ho => ?_, ?_⟩⟩
  · rw [State.echoed_chan]
    by_cases hs : r.state = .latched
    · by_cases ho : out ∨ shut
      · obtain ⟨k, e⟩ := h.inhibited hn hs ho
        rw [e]
        exact ⟨rfl, rfl, rfl⟩
      · obtain ⟨h1, h2⟩ := not_or.1 ho
        have hcold : r.eff = 0 ∨ r.cfg.tier ≠ 0 ∨ r.prot.hot = false := by
          by_contra hno
          push Not at hno
          exact hot ⟨hs, by simpa using hno.2.2, hno.2.1, hno.1, h1, h2⟩
        obtain ⟨h1, h2, h3, -⟩ := (h.free hn hs ho).keeps hcold
        exact ⟨h1, h2, h3⟩
    · rw [h.other hn hs]
      exact ⟨rfl, rfl, rfl⟩
  · obtain ⟨k, e⟩ := h.inhibited hn hs ho
    rw [State.echoed_chan, e]
    exact ⟨rfl, rfl⟩
  · have hfree := fun (ho : ¬out) (hd : ¬shut) => (h.free hn hs (not_or.2 ⟨ho, hd⟩)).outcome hm
    refine ⟨fun ho hd => ?_, fun ho hd => ?_, fun ho hd => ?_, fun ho hd => ?_, fun ho hd he ht hr => ?_⟩
    all_goals obtain ⟨h1, h2, h3, h4, h5⟩ := hfree ho hd
    · exact h1
    · exact h2
    · exact h3
    · exact fun he ht hr => h4 he ht (hrun.2 hr)
    · exact h5 he ht (mt hrun.1 hr) hl

/-! ### A state that has heard a frame (R156) -/

theorem State.heardFrame_out : s.heardFrame.Out c ↔ s.Out c := by
  unfold State.Out
  rw [State.heardFrame_feed]

theorem State.heardFrame_running : s.heardFrame.mode = .running ↔ s.mode = .running := by
  rw [State.heardFrame_mode]
  split
  · next h => simp [h]
  · rfl

theorem State.heardFrame_kind0 (s : State) : s.heardFrame.kind0 = s.kind0 := by
  have hf : ∀ l : List TxEntry, (l.filter fun e => e.frame.kind == 0).map (·.frame) = (l.map (·.frame)).filter (·.kind == 0) :=
    fun l => by rw [List.filter_map]; rfl
  unfold State.kind0
  rw [hf, hf]
  exact congrArg (List.filter _) s.heardFrame_frames

theorem State.heardFrame_before (s : State) : s.heardFrame.before = s.before := by
  funext c d
  unfold State.before
  rw [State.heardFrame_chan, State.heardFrame_chan]

theorem State.heardFrame_intentOf (s : State) : s.heardFrame.intentOf = s.intentOf := by
  funext c
  rw [State.intentOf_eq, State.intentOf_eq, State.heardFrame_chan]

/-- CLEAR_FAULT accepted (R129, R130), in terms of the state before it. -/
theorem exec_clearFault_spec (p : s.Plain) (h : s.Serves sender) (hm : s.mode ≠ .limp) {l : List Channel} (hl : l ≠ [])
    (hn : l.Nodup) (ht : s.heardFrame.clearTargets b = l) :
    ∃ u, u = l.foldl (fun s c => s.clearChannel c) s.heardFrame
      ∧ exec (.clearFault sender b) s = .next ((u.carried sender
        [[1, if l.any fun c => (s.chan c).notCool then 3 else 0]] false).echoed)
      ∧ (∀ d, d ∉ l → u.chan d = s.chan d)
      ∧ (∀ d ∈ l, (s.chan d).Clears s.heardFrame.mode
          ((s.feed.feeds[bankOf d] = some .under ∨ s.feed.feeds[bankOf d] = some .over) ∨ s.feed.temp = .shutdown) d u)
      ∧ ∃ l' : List Channel, l'.Sublist l ∧ u.kind0 = s.kind0 ++ l'.map s.intentOf := by
  obtain ⟨-, hout, hin, l', hl', ha⟩ := State.clears_spec p.heardFrame.noQueue l hn
  refine ⟨_, rfl, exec_clearFault p h hm hl hn ht, fun d hd => (hout d hd).trans (State.heardFrame_chan s d), fun d hd => ?_,
    l', hl', ?_⟩
  · have hc := hin d hd
    rwa [State.heardFrame_chan, State.heardFrame_out, State.Out, ← or_assoc] at hc
  · have hframes := ha.frames
    rwa [State.heardFrame_kind0, State.heardFrame_intentOf] at hframes

end Sys2Proof.Machine

/-- Settles O56. -/
theorem clearFaultClears : Obligations.ClearFaultClears := by
  open Sys2Proof.Machine Sys2Proof in
  intro sender b c s p h hm hb
  have hmode : s.heardFrame.mode ≠ .configuring := State.heardFrame_ne_configuring h.mode
  have hlimp : s.heardFrame.mode ≠ .limp := State.heardFrame_ne_limp hm
  have hone : s.heardFrame.clearTargets b = [c] := by
    have hne : b ≠ 255 := by
      rintro rfl
      have := c.isLt
      have h255 : (255 : Byte).toNat = 255 := rfl
      omega
    unfold State.clearTargets
    rw [if_neg hne, channelOfByte_eq hb]
  have hcool : ∀ d, (s.chan d).notCool = false ↔
      ¬((s.chan d).state = .latched ∧ (s.chan d).active = some .overload ∧ (s.chan d).prot.cool = false) := fun d => by
    rw [← ChannelRecord.notCool_iff, Bool.not_eq_true]
  obtain ⟨u, hu, hexec, hothers, hin, -⟩ := exec_clearFault_spec p h hm (List.cons_ne_nil c []) (List.nodup_singleton c) hone
  replace hu : u = s.heardFrame.clearChannel c := hu
  have hc := hin c (List.mem_singleton_self c)
  have hresult : ([c].any fun d => (s.chan d).notCool) = (s.chan c).notCool := by simp
  rw [hresult] at hexec
  refine ⟨fun ⟨hs, hf, hr⟩ => ?_, ⟨_, hexec, fun hr => ⟨?_, ?_⟩, fun hr => ?_, fun d hd => ?_⟩, ?_⟩
  · have hn : (s.chan c).notCool = false := (hcool c).2 fun h => hs h.1
    have hkeep : (s.heardFrame.chan c).cleared = s.heardFrame.chan c := by
      rw [State.heardFrame_chan]
      unfold ChannelRecord.cleared
      rw [← hf, ← hr]
    rw [hexec, hn, hu, State.clearChannel_nothing (by rwa [State.heardFrame_chan]) (by rwa [State.heardFrame_chan])
      (by rwa [State.heardFrame_chan]), State.modChan_of_same hkeep]
    rfl
  · exact (State.echoed_chan _ c).trans (congrArg _ (hc.refused (ChannelRecord.notCool_iff.2 hr)))
  · rw [ChannelRecord.notCool_iff.2 hr]
    rfl
  · have hn := (hcool c).2 hr
    rw [hn]
    refine ⟨rfl, fun hno hs room => ?_, hc.outcome hmode hlimp State.heardFrame_running hn⟩
    have hstatus := State.clearChannel_status (s := s.heardFrame) (c := c) (by rwa [State.heardFrame_chan])
      (by rw [State.heardFrame_chan]; exact fun h => hno ⟨hs, h⟩) (State.replyRoom_heardFrame room)
    rw [← hu] at hstatus
    exact hstatus
  · exact (State.echoed_chan _ d).trans (congrArg _ (hothers d (by simpa using hd)))
  · obtain ⟨v, -, hall, -, hin, l, hl, ha⟩ := exec_clearFault_spec (b := 255) p h hm (l := s.heardFrame.byTier)
      (List.ne_nil_of_mem (s.heardFrame.mem_byTier 0)) s.heardFrame.byTier_nodup (if_pos rfl)
    refine ⟨_, hall, fun ⟨d, hd⟩ => ?_, fun hno => ?_, ⟨l, ?_, ha⟩, fun d => ?_⟩
    · rw [List.any_eq_true.2 ⟨d, s.heardFrame.mem_byTier d, ChannelRecord.notCool_iff.2 hd⟩]
      rfl
    · rw [List.any_eq_false.2 fun d _ => by rw [(hcool d).2 (hno d)]; decide]
      rfl
    · rw [← State.heardFrame_before]
      exact s.heardFrame.byTier_before.sublist hl
    · have hd := hin d (s.heardFrame.mem_byTier d)
      have hshown := fun hn => hd.outcome hmode hlimp State.heardFrame_running hn
      refine ⟨fun hr => (State.echoed_chan _ d).trans (congrArg _ (hd.refused (ChannelRecord.notCool_iff.2 hr))),
        fun hr hot => ?_, fun hs hr => ?_, fun hs => ?_⟩
      · obtain ⟨h1, -⟩ := hshown ((hcool d).2 hr)
        exact ⟨(h1 hot).1, (h1 hot).2.1⟩
      · exact (hshown ((hcool d).2 hr)).2.2 hs
      · exact (hshown ((hcool d).2 fun h => hs h.1)).2.1 hs
end

-- ==== Proofs: cooldown ====
section
/-! PROOFS. The exit from COOLDOWN and the clean run (R126, R17): O41. -/

namespace Sys2Proof.Machine

variable {s t u : State} {c d : Channel} {r : ChannelRecord} {x : Int} {i : Nat}

/-! ### The exit (R126) -/

/-- R126: what an exit from COOLDOWN leaves of a channel whose record was `r`, where the part was `s`. -/
def State.Exits (s : State) (c : Channel) (r q : ChannelRecord) : Prop :=
  q.active = none ∧ q.retry = none ∧ q.retryCount = r.retryCount ∧ q.faults = r.faults
    ∧ (s.Out c → q.state = .inhibited ∧ q.causes.shutdown = Decidable.decide (s.feed.temp = .shutdown)
        ∧ q.causes.feed = Decidable.decide (s.feed.feeds[bankOf c] = some .under ∨ s.feed.feeds[bankOf c] = some .over))
    ∧ (¬s.Out c → r.eff = 0 → q.state = .off)
    ∧ (¬s.Out c → r.eff ≠ 0 → r.cfg.tier = 0 → s.mode ≠ .configuring →
        q.state = .starting ∧ q.booking = r.cfg.bookingFor r.duty false)
    ∧ (¬s.Out c → r.eff ≠ 0 → r.cfg.tier ≠ 0 → s.mode = .running → s.line.queue = [] → q.state = .pending)
    ∧ (¬s.Out c → r.eff ≠ 0 → r.cfg.tier ≠ 0 → s.mode = .listening ∨ s.mode = .isolated ∨ s.mode = .clashed →
        q.state = .deferred)

/-- R12: a channel free to run again is announced where few frames wait. -/
theorem State.freshStart_few (hm : s.mode = .running) (hq : s.line.queue.length < 3) (he : (s.chan c).eff ≠ 0)
    (ht : (s.chan c).cfg.tier ≠ 0) : (s.freshStart c).chan c = ((s.chan c).idle .off).idle .pending := by
  have hc : (s.enter c (·.idle .off)).chan c = (s.chan c).idle .off := State.enter_chan_self c _ s
  have hmode : (s.enter c (·.idle .off)).mode = s.mode := State.enter_mode c _ s
  have hlen : (s.enter c (·.idle .off)).line.queue.length < 4 := by
    rcases State.enter_txQueue c (·.idle .off) s with e | e <;> rw [e]
    · omega
    · rw [List.length_append, List.length_singleton]
      omega
  rw [State.freshStart_begins he, State.beginRequest_running (hmode.trans hm) (by rw [hc]; exact ht),
    (State.announce_few (by rw [hmode, hm]; decide) hlen c).1, hc]

/-- R126: a release out of COOLDOWN over a switch that is not hot; its heat value stands. -/
theorem State.release_exits (hot : (s.chan c).prot.hot = false) :
    s.Exits c (s.chan c) ((s.release c).chan c) ∧ ((s.release c).chan c).prot.theta = (s.chan c).prot.theta := by
  by_cases ho : s.Out c
  · rw [State.release_out ho, State.enter_chan_self]
    have hfeed : s.bankOut (bankOf c)
        = Decidable.decide (s.feed.feeds[bankOf c] = some .under ∨ s.feed.feeds[bankOf c] = some .over) := by
      rw [Bool.eq_iff_iff, State.bankOut_iff, decide_eq_true_iff]
    have hshut : s.isShutdown = Decidable.decide (s.feed.temp = .shutdown) := by
      rw [Bool.eq_iff_iff, State.isShutdown, beq_iff_eq, decide_eq_true_iff]
    exact ⟨⟨rfl, rfl, rfl, rfl, fun _ => ⟨rfl, hshut, hfeed⟩, fun h => absurd ho h, fun h => absurd ho h, fun h => absurd ho h,
      fun h => absurd ho h⟩, rfl⟩
  · have h := State.freshStart_released s c
    rw [State.release_in ho]
    obtain ⟨hfaults, hcount, -, hactive, hretry, htheta⟩ := h.keeps (.inr (.inr hot))
    refine ⟨⟨hactive, hretry, hcount, hfaults, fun h => absurd h ho, fun _ he => ?_, fun _ he ht hm => ?_, fun _ he ht hm hq => ?_,
      fun _ he ht hm => ?_⟩, htheta⟩
    · rw [h.off he]
      rfl
    · rw [h.cold he ht hm hot]
      exact ⟨rfl, rfl⟩
    · rw [State.freshStart_few hm (by rw [hq]; decide) he ht]
      rfl
    · rw [h.defers he ht hm]
      rfl

/-- R126: the three conditions. -/
theorem ChannelRecord.exitReady_iff : r.exitReady = true ↔
    r.state = .cooldown ∧ r.retry = some 0 ∧ (r.active = some .overload → r.prot.cool = true) ∧ r.prot.hot = false := by
  simp [ChannelRecord.exitReady, and_assoc, imp_iff_not_or]

/-- R126: an exit that a change of the protection part completes, or does not. -/
theorem State.tryExit_spec {f : ChannelRecord → ChannelRecord} {p : Protection} (hp : s.Plain)
    (hf : f (s.chan c) = { s.chan c with prot := p }) (hs : (s.chan c).state = .cooldown) (hr : (s.chan c).retry = some 0) :
    let t := ((s.modChan c f).tryCooldownExit c).settle
    (((s.chan c).active = some .overload → p.cool = true) ∧ p.hot = false → s.Exits c (s.chan c) (t.chan c))
      ∧ (¬(((s.chan c).active = some .overload → p.cool = true) ∧ p.hot = false) →
          t.chan c = { s.chan c with prot := p }.followed)
      ∧ (t.chan c).prot.theta = p.theta ∧ ∀ d, d ≠ c → t.chan d = (s.chan d).followed := by
  have h1 : (s.modChan c f).chan c = { s.chan c with prot := p } := (State.modChan_chan_self s c f).trans hf
  have htouch := (State.touches_modChan (c := c) (f := f) hp.noQueue).trans
    (State.touches_tryCooldownExit (by exact hp.noQueue))
  have hready : ((s.modChan c f).chan c).exitReady = true ↔
      (((s.chan c).active = some .overload → p.cool = true) ∧ p.hot = false) := by
    rw [ChannelRecord.exitReady_iff, h1]
    exact ⟨fun h => h.2.2, fun h => ⟨hs, hr, h⟩⟩
  dsimp only
  rw [htouch.settle hp]
  simp only [State.echoed_chan]
  refine ⟨fun h => ?_, fun h => ?_, ?_, fun d hd => congrArg _ (htouch.others d hd)⟩
  · have hx := (State.release_exits (s := s.modChan c f) (c := c) (by rw [h1]; exact h.2)).1
    rw [h1] at hx
    rw [State.tryCooldownExit, if_pos (hready.2 h)]
    exact hx
  · rw [State.tryCooldownExit, if_neg (mt hready.1 h), h1]
  · unfold State.tryCooldownExit
    split
    · next h =>
      have hx := (State.release_exits (s := s.modChan c f) (c := c) (by rw [h1]; exact (hready.1 h).2)).2
      rw [h1] at hx
      exact hx
    · rw [h1]
      rfl

/-! ### The events in COOLDOWN -/

theorem ChannelRecord.running_cooldown (hs : r.state = .cooldown) : r.running = false := by
  unfold ChannelRecord.running ChannelRecord.inOnPhase
  rw [hs]
  cases r.phase <;> rfl

theorem ChannelRecord.conducting_cooldown (hs : r.state = .cooldown) : r.conducting = false := by
  rw [ChannelRecord.conducting, ChannelRecord.running_cooldown hs, hs]
  rfl

theorem ChannelRecord.awaits_cooldown (hs : r.state = .cooldown) : r.awaits = false := by
  unfold ChannelRecord.awaits
  rw [hs]
  cases r.start <;> rfl

theorem ChannelRecord.startSample_cooldown (hs : r.state = .cooldown) (v : Nat) : r.startSample v = r := by
  unfold ChannelRecord.startSample
  split
  · next h _ => exact absurd (hs.symm.trans h) (by decide)
  · rfl

/-- R114: a record with a switch reading. -/
def ChannelRecord.readHot (hot : Bool) (r : ChannelRecord) : ChannelRecord := r.modProt fun p => { p with hot := hot }

/-- R101, R114, R126: a sample in COOLDOWN over a switch that was hot. -/
theorem State.sample_cooldown (hs : (s.chan c).state = .cooldown) (hh : (s.chan c).prot.hot = true) :
    ∃ v, s.sample c i x
      = ((s.modChan c (·.takeSample v)).modChan c (·.readHot (nextHot true x))).tryCooldownExit c := by
  obtain ⟨v, hv⟩ : ∃ v, (s.chan c).reading i = v := ⟨_, rfl⟩
  have hfirst : (s.modChan c fun r => (r.takeSample v).startSample v) = s.modChan c (·.takeSample v) :=
    congrArg (s.setChan c) (ChannelRecord.startSample_cooldown (r := (s.chan c).takeSample v) hs v)
  have h1 : (s.modChan c (·.takeSample v)).chan c = (s.chan c).takeSample v := State.modChan_chan_self s c _
  have hcool : ((s.modChan c (·.takeSample v)).chan c).state = .cooldown := by
    rw [h1]
    exact hs
  have hhot : ((s.modChan c (·.takeSample v)).chan c).prot.hot = true := by
    rw [h1]
    exact hh
  refine ⟨v, ?_⟩
  unfold State.sample
  dsimp only
  rw [hv, hfirst]
  generalize s.modChan c (·.takeSample v) = u at hcool hhot
  have hwait : u.endWaiting c = u := by
    unfold State.endWaiting
    rw [ChannelRecord.awaits_cooldown hcool]
    split <;> rfl
  have hshort : u.detectShort c v = u := by
    have hsame : (u.chan c).shortSample v = u.chan c := by
      unfold ChannelRecord.shortSample
      rw [ChannelRecord.conducting_cooldown hcool]
      rfl
    have hfound : (u.chan c).shortFound v = false := by
      rw [ChannelRecord.shortFound, ChannelRecord.conducting_cooldown hcool]
      rfl
    unfold State.detectShort
    dsimp only
    rw [State.modChan_of_same hsame, hfound]
    rfl
  rw [hwait, hshort]
  unfold State.readSwitch
  dsimp only
  rw [hhot]
  cases hn : nextHot true x with
  | false => rfl
  | true =>
    have hstay : ((u.modChan c (·.readHot true)).chan c).exitReady = false := by
      rw [Bool.eq_false_iff]
      intro h
      have := (ChannelRecord.exitReady_iff.1 h).2.2.2
      rw [State.modChan_chan_self] at this
      cases this
    have hnone : (u.modChan c (·.readHot true)).tryCooldownExit c = u.modChan c (·.readHot true) :=
      if_neg (by rw [hstay]; decide)
    exact hnone.symm

/-- R103, R126: an update in COOLDOWN. -/
theorem State.updateChannel_cooldown (hs : (s.chan c).state = .cooldown) :
    s.updateChannel c = (s.modChan c (·.updateHeat)).tryCooldownExit c := by
  have h1 : ((s.modChan c (·.updateHeat)).chan c).running = false := by
    rw [State.modChan_chan_self]
    exact ChannelRecord.running_cooldown hs
  have hover : ((s.modChan c (·.updateHeat)).chan c).overloaded = false := by
    rw [ChannelRecord.overloaded, h1]
    rfl
  have hjudge : ((s.modChan c (·.updateHeat)).chan c).judge = (s.modChan c (·.updateHeat)).chan c := by
    rw [ChannelRecord.judge, ChannelRecord.judged, h1]
    rfl
  unfold State.updateChannel
  dsimp only
  rw [hover, if_neg (by decide), State.modChan_of_same hjudge]

end Sys2Proof.Machine

/-- Settles O41. -/
theorem cooldownEndsAndCleanRun : Obligations.CooldownEndsAndCleanRun := by
  open Sys2Proof.Machine Sys2Proof in
  intro c i degrees s
  refine ⟨fun h => if_neg ?_, fun hs hr p => ?_, fun hs p hr hh hc => ?_, fun hs p hr hh ha hu => ?_, fun h => if_neg ?_,
    fun h => if_pos ?_⟩
  · rw [Bool.and_eq_true, beq_iff_eq, ended, beq_iff_eq]
    exact fun ⟨h1, h2⟩ => h.elim (absurd h1) (absurd h2)
  · have hexec : exec (.retryTimerExpiry c) s = .next ((s.modChan c id).tryCooldownExit c).settle := by
      rw [State.modChan_of_same rfl]
      refine if_pos ?_
      rw [hs, hr]
      rfl
    obtain ⟨h1, h2, -, h3⟩ := State.tryExit_spec (c := c) (f := id) (p := (s.chan c).prot) p rfl hs hr
    exact ⟨_, hexec, h2, h1, h3⟩
  · obtain ⟨v, hv⟩ := State.sample_cooldown (i := i) (x := degrees) hs hh
    have h1 : (s.modChan c (·.takeSample v)).chan c = (s.chan c).takeSample v := State.modChan_chan_self s c _
    have hnext : nextHot true degrees = !decide (degrees < 150) := rfl
    obtain ⟨hexit, hstay, -, hothers⟩ := State.tryExit_spec (s := s.modChan c (·.takeSample v)) (c := c)
      (f := (·.readHot (nextHot true degrees))) ⟨p.noFollower, p.noQueue⟩ rfl (by rw [h1]; exact hs) (by rw [h1]; exact hr)
    rw [h1, ← hv] at hexit hstay
    rw [← hv] at hothers
    refine ⟨_, rfl, fun hd => hexit ⟨hc, ?_⟩, fun hd => ?_, fun d hd => ?_⟩
    · rw [hnext, decide_eq_true hd]
      rfl
    · rw [hstay fun h => ?_]
      · exact ⟨hs, rfl⟩
      · have h2 := h.2
        dsimp only at h2
        rw [hnext, decide_eq_false (by omega)] at h2
        cases h2
    · rw [hothers d hd, State.modChan_chan_ne _ hd]
  · have hexec : exec (.update c) s = .next ((s.modChan c (·.updateHeat)).tryCooldownExit c).settle := by
      rw [← State.updateChannel_cooldown hs]
      exact if_neg (by simpa using hu)
    obtain ⟨hexit, hstay, htheta, hothers⟩ := State.tryExit_spec (c := c) (f := (·.updateHeat)) p rfl hs hr
    refine ⟨_, hexec, fun hle => hexit ⟨fun _ => ?_, hh⟩, fun hlt => ?_, hothers⟩
    · rw [htheta, pow_two] at hle
      exact decide_eq_true hle
    · rw [htheta, pow_two] at hlt
      rw [hstay fun h => absurd (of_decide_eq_true (h.1 ha)) (Nat.not_le.2 hlt)]
      exact ⟨hs, rfl⟩
  · simpa using h
  · simpa using h
end

-- ==== Proofs: inhibit ====
section
/-! PROOFS. A feed loss and a shutdown (R135, R142): O43. -/

namespace Sys2Proof.Machine

variable {s t u v : State} {c d : Channel} {l : List Channel} {r : ChannelRecord} {x : TxFrame} {cause : Causes → Causes}

/-! ### What undoing announcements leaves (R13) -/

/-- No INTENT waits. -/
def State.NoIntent (s : State) : Prop := ∀ y ∈ s.line.queue, y.frame.isIntent = false

/-- From `s` to `t` no INTENT joins the queue, no WITHDRAW leaves it, a full queue without an INTENT stands, the Intent List
loses own entries of the channels `l` at most, and no channel takes a slot. -/
structure State.Thins (l : List Channel) (s t : State) : Prop where
  intents : ∀ y ∈ t.line.queue, y.frame.isIntent = true → ∃ x ∈ s.line.queue, x.frame = y.frame
  withdraws : ∀ x ∈ s.line.queue, ∀ d, x.frame = .withdraw d → ∃ y ∈ t.line.queue, y.frame = .withdraw d
  full : s.NoIntent → s.Full → t.line.queue = s.line.queue
  entries : ∀ e ∈ t.intents.entries, e ∈ s.intents.entries
  kept : ∀ e ∈ s.intents.entries, (∀ d ∈ l, s.isOwnEntry d e = false) → e ∈ t.intents.entries
  slot0 : ∀ d, t.sequencer.slot0 = some d → s.sequencer.slot0 = some d
  slot1 : ∀ d, t.sequencer.slot1 = some d → s.sequencer.slot1 = some d
  own : t.own = s.own

theorem State.Thins.refl (s : State) : State.Thins l s s :=
  ⟨fun y hy _ => ⟨y, hy, rfl⟩, fun x hx _ e => ⟨x, hx, e⟩, fun _ _ => rfl, fun _ h => h, fun _ h _ => h, fun _ h => h,
    fun _ h => h, rfl⟩

theorem State.Thins.noIntent (h : State.Thins l s t) (hn : s.NoIntent) : t.NoIntent := fun y hy => by
  by_contra hi
  obtain ⟨x, hx, e⟩ := h.intents y hy (by simpa using hi)
  rw [← e, hn x hx] at hi
  exact hi rfl

theorem State.Thins.trans {l' : List Channel} (h : State.Thins l s t) (k : State.Thins l' t u) : State.Thins (l ++ l') s u where
  intents y hy hi := by
    obtain ⟨x, hx, e⟩ := k.intents y hy hi
    obtain ⟨w, hw, e'⟩ := h.intents x hx (by rw [e]; exact hi)
    exact ⟨w, hw, e'.trans e⟩
  withdraws x hx d e := by
    obtain ⟨y, hy, e'⟩ := h.withdraws x hx d e
    exact k.withdraws y hy d e'
  full hn hf :=
    have e := h.full hn hf
    (k.full (h.noIntent hn) ((State.full_congr e).2 hf)).trans e
  entries e he := h.entries e (k.entries e he)
  kept e he hd := k.kept e (h.kept e he fun d hm => hd d (List.mem_append_left _ hm)) fun d hm => by
    have : t.isOwnEntry d e = s.isOwnEntry d e := by
      unfold State.isOwnEntry
      rw [h.own]
    rw [this]
    exact hd d (List.mem_append_right _ hm)
  slot0 d hd := h.slot0 d (k.slot0 d hd)
  slot1 d hd := h.slot1 d (k.slot1 d hd)
  own := k.own.trans h.own

/-- R160: a frame that is no DRAW and no INTENT, handed to the queue. -/
theorem State.thins_send (hd : x.isDraw = false) (hi : x.isIntent = false) (s : State) : State.Thins [] s (s.send x) := by
  have hrest : ∀ q, (∀ y ∈ q, y.frame.isIntent = true → ∃ z ∈ s.line.queue, z.frame = y.frame) →
      (∀ z ∈ s.line.queue, ∀ d, z.frame = .withdraw d → ∃ y ∈ q, y.frame = .withdraw d) →
      (s.NoIntent → s.Full → q = s.line.queue) → State.Thins [] s (s.setQueue q) :=
    fun q h1 h2 h3 => ⟨h1, h2, h3, fun _ h => h, fun _ h _ => h, fun _ h => h, fun _ h => h, rfl⟩
  cases ho : s.offer x with
  | none =>
    have : s.send x = s := by rw [State.send, ho]; rfl
    rw [this]
    exact .refl s
  | some t =>
    have hsend : s.send x = t := by rw [State.send, ho]; rfl
    have hfull : s.Full → s.send x = s := fun hf => hf.send_eq hd
    obtain ⟨q, hq, hgone, rfl⟩ := State.offer_queue ho
    rw [hsend] at hfull ⊢
    refine hrest _ (fun y hy h => ?_) (fun z hz d e => ?_) fun _ hf => congrArg (fun u => u.line.queue) (hfull hf)
    · rcases List.mem_append.1 hy with hy | hy
      · exact ⟨y, hq.subset hy, rfl⟩
      · rw [List.mem_singleton.1 hy, hi] at h
        cases h
    · by_cases hm : z ∈ q
      · exact ⟨z, List.mem_append_left _ hm, e⟩
      · rcases hgone z hz hm with h | h <;> rw [e] at h <;> cases h

theorem State.thins_requestStatus (c : Channel) (s : State) : State.Thins [] s (s.requestStatus c) := by
  unfold State.requestStatus
  split
  · exact .refl s
  · exact State.thins_send rfl rfl s

theorem State.thins_modChan (c : Channel) (f : ChannelRecord → ChannelRecord) (s : State) : State.Thins [] s (s.modChan c f) :=
  ⟨fun y hy _ => ⟨y, hy, rfl⟩, fun x hx _ e => ⟨x, hx, e⟩, fun _ _ => rfl, fun _ h => h, fun _ h _ => h, fun _ h => h,
    fun _ h => h, rfl⟩

theorem State.thins_dropClaims (c : Channel) (s : State) : State.Thins [] s (s.dropClaims c) where
  intents y hy _ := ⟨y, hy, rfl⟩
  withdraws x hx _ e := ⟨x, hx, e⟩
  full _ _ := rfl
  entries _ h := h
  kept _ h _ := h
  slot0 d h := by
    by_contra hn
    unfold State.dropClaims at h
    dsimp only at h
    split at h
    · cases h
    · exact hn h
  slot1 d h := by
    by_contra hn
    unfold State.dropClaims at h
    dsimp only at h
    split at h
    · cases h
    · exact hn h
  own := rfl

theorem State.thins_enter (c : Channel) (f : ChannelRecord → ChannelRecord) (s : State) : State.Thins [] s (s.enter c f) := by
  have h := (State.thins_modChan c f s).trans (State.thins_dropClaims c _)
  unfold State.enter
  dsimp only
  split
  · exact h
  · exact h.trans (State.thins_requestStatus c _)

/-- R79: a channel that has entered a state but STARTING holds no slot. -/
theorem State.enter_noSlot {f : ChannelRecord → ChannelRecord} (h : (f (s.chan c)).state ≠ .starting) :
    (s.enter c f).sequencer.slot0 ≠ some c ∧ (s.enter c f).sequencer.slot1 ≠ some c := by
  have hst : (((s.modChan c f).chan c).state != .starting) = true := by
    rw [State.modChan_chan_self]
    simpa using h
  rw [State.enter_sequencer]
  unfold State.dropClaims
  dsimp only
  rw [hst, Bool.true_and, Bool.true_and]
  constructor
  · split
    · simp
    · next h => simpa using h
  · split
    · simp
    · next h => simpa using h

/-! ### An announcement undone (R13, R52) -/

theorem TxFrame.isIntentOf_iff : x.isIntentOf c = true ↔ ∃ tr bk w, x = .intent c tr bk w := by
  constructor
  · intro h
    cases x with
    | intent d tr bk w =>
      have : d = c := by simpa [TxFrame.isIntentOf] using h
      exact ⟨tr, bk, w, by rw [this]⟩
    | withdraw _ | draw _ _ | reply _ _ _ | status _ => cases h
  · rintro ⟨tr, bk, w, rfl⟩
    simp [TxFrame.isIntentOf]

theorem State.thins_undoAnnouncement (c : Channel) (s : State) : State.Thins [c] s (s.undoAnnouncement c) := by
  unfold State.undoAnnouncement
  split
  · next h =>
    obtain ⟨y, hy, hi⟩ := List.any_eq_true.1 h
    refine ⟨fun y hy _ => ⟨y, (List.mem_filter.1 hy).1, rfl⟩, fun z hz d e => ⟨z, List.mem_filter.2 ⟨hz, by rw [e]; rfl⟩, e⟩,
      fun hn _ => ?_, fun _ h => h, fun _ h _ => h, fun _ h => h, fun _ h => h, rfl⟩
    obtain ⟨tr, bk, w, e⟩ := TxFrame.isIntentOf_iff.1 hi
    have := hn y hy
    rw [e] at this
    cases this
  · split
    · have h1 : State.Thins [c] s (s.setEntries (s.intents.entries.filter fun e => !s.isOwnEntry c e)) :=
        ⟨fun y hy _ => ⟨y, hy, rfl⟩, fun z hz _ e => ⟨z, hz, e⟩, fun _ _ => rfl, fun e he => (List.mem_filter.1 he).1,
          fun e he hd => List.mem_filter.2 ⟨he, by rw [hd c (List.mem_singleton_self c)]; rfl⟩, fun _ h => h, fun _ h => h, rfl⟩
      exact h1.trans (State.thins_send rfl rfl _)
    · exact .refl s

/-- R13: the announcement of `c`, as it stood in `s`, has been undone in `t`. -/
structure State.Undone (c : Channel) (s t : State) : Prop where
  queued : ∀ y ∈ t.line.queue, y.frame.isIntentOf c = false
  sent : (∀ y ∈ s.line.queue, y.frame.isIntentOf c = false) → ∀ e ∈ t.intents.entries, s.isOwnEntry c e = false
  told : s.NoIntent → s.mode ≠ .clashed → (∃ e ∈ s.intents.entries, s.isOwnEntry c e = true) →
    (∃ y ∈ t.line.queue, y.frame = .withdraw c) ∨ t.Full

theorem State.undoAnnouncement_undone (c : Channel) (s : State) : State.Undone c s (s.undoAnnouncement c) := by
  unfold State.undoAnnouncement
  split
  · next h =>
    obtain ⟨y, hy, hi⟩ := List.any_eq_true.1 h
    refine ⟨fun y hy => by simpa using (List.mem_filter.1 hy).2, fun hn => ?_, fun hn => ?_⟩
    · rw [hn y hy] at hi
      cases hi
    · obtain ⟨tr, bk, w, e⟩ := TxFrame.isIntentOf_iff.1 hi
      have := hn y hy
      rw [e] at this
      cases this
  · next h =>
    have hnone : ∀ y ∈ s.line.queue, y.frame.isIntentOf c = false := fun y hy => by
      simpa using fun hi => h (List.any_eq_true.2 ⟨y, hy, hi⟩)
    split
    · obtain ⟨w, hw⟩ : ∃ w, s.setEntries (s.intents.entries.filter fun e => !s.isOwnEntry c e) = w := ⟨_, rfl⟩
      have hwm : w.mode = s.mode := by rw [← hw]; rfl
      have hwq : w.line.queue = s.line.queue := by rw [← hw]; rfl
      have hwe : w.intents.entries = s.intents.entries.filter fun e => !s.isOwnEntry c e := by rw [← hw]; rfl
      have ht := State.thins_send (x := .withdraw c) rfl rfl w
      rw [hw]
      refine ⟨fun y hy => ?_, fun _ e he => ?_, fun hn hm _ => ?_⟩
      · by_contra hi
        obtain ⟨tr, bk, w', e⟩ := TxFrame.isIntentOf_iff.1 (by simpa using hi)
        obtain ⟨z, hz, ez⟩ := ht.intents y hy (by rw [e]; rfl)
        rw [hwq] at hz
        rw [← ez, hnone z hz] at hi
        exact hi rfl
      · have he := ht.entries e he
        rw [hwe] at he
        simpa using (List.mem_filter.1 he).2
      · rcases State.offer_intent (s := w) (x := .withdraw c) rfl (by rwa [hwm]) with ⟨hf, -⟩ | ⟨-, t, ho, ha⟩
        · rw [hf.send_eq rfl]
          exact .inr hf
        · have hsend : w.send (.withdraw c) = t := by rw [State.send, ho]; rfl
          have hmem : TxFrame.withdraw c ∈ t.kind0 := by
            rw [ha.frames]
            exact List.mem_append_right _ (List.mem_singleton_self _)
          rw [hsend]
          exact .inl (State.mem_kind0.1 hmem).2
    · next hno =>
      refine ⟨hnone, fun _ e he => ?_, fun _ _ ⟨e, he, ho⟩ => absurd (List.any_eq_true.2 ⟨e, he, ho⟩) hno⟩
      simpa using fun ho => hno (List.any_eq_true.2 ⟨e, he, ho⟩)

theorem State.isOwnEntry_iff {e : IntentEntry} : s.isOwnEntry c e = true ↔ e.station = s.own ∧ e.channel.val = c.val := by
  rw [State.isOwnEntry, Bool.and_eq_true, beq_iff_eq, beq_iff_eq]
  exact and_congr_right' Fin.ext_iff

theorem State.Undone.later (h : State.Undone c s t) (k : State.Thins l t u) (hk : s.NoIntent → t.NoIntent) :
    State.Undone c s u where
  queued y hy := by
    by_contra hi
    obtain ⟨tr, bk, w, e⟩ := TxFrame.isIntentOf_iff.1 (by simpa using hi)
    obtain ⟨z, hz, ez⟩ := k.intents y hy (by rw [e]; rfl)
    rw [← ez, h.queued z hz] at hi
    exact hi rfl
  sent hn e he := h.sent hn e (k.entries e he)
  told hn hm ho := by
    rcases h.told hn hm ho with ⟨y, hy, e⟩ | hf
    · exact .inl (k.withdraws y hy c e)
    · exact .inr ((State.full_congr (k.full (hk hn) hf)).2 hf)

theorem State.Undone.earlier (h : State.Undone c t u) (k : State.Thins l s t) (hc : c ∉ l) (hm : t.mode = s.mode) :
    State.Undone c s u where
  queued := h.queued
  sent hn e he := by
    have hown : s.isOwnEntry c e = t.isOwnEntry c e := by
      unfold State.isOwnEntry
      rw [k.own]
    rw [hown]
    refine h.sent (fun y hy => ?_) e he
    by_contra hi
    obtain ⟨tr, bk, w, e⟩ := TxFrame.isIntentOf_iff.1 (by simpa using hi)
    obtain ⟨z, hz, ez⟩ := k.intents y hy (by rw [e]; rfl)
    rw [← ez, hn z hz] at hi
    exact hi rfl
  told hn hm' := by
    rintro ⟨e, he, ho⟩
    have hown : ∀ d, t.isOwnEntry d e = s.isOwnEntry d e := fun d => by
      unfold State.isOwnEntry
      rw [k.own]
    refine h.told (k.noIntent hn) (by rwa [hm]) ⟨e, k.kept e he fun d hd => ?_, by rw [hown]; exact ho⟩
    by_contra hd'
    have h1 := (State.isOwnEntry_iff.1 ho).2
    have h2 := (State.isOwnEntry_iff.1 (by simpa using hd')).2
    exact hc (Fin.ext (h1.symm.trans h2) ▸ hd)

/-! ### A loss or shutdown at one channel, and at several -/

/-- R135, R142: what a loss or a shutdown at channel `c`, handed over in `s`, shows in `t`. -/
structure State.Inhibits (cause : Causes → Causes) (c : Channel) (s t : State) : Prop where
  keeps : (s.chan c).state = .cooldown ∨ (s.chan c).state = .latched → t.chan c = s.chan c
  takes : (s.chan c).state = .inhibited → t.chan c = (s.chan c).caused cause
  enters : (s.chan c).state ≠ .cooldown → (s.chan c).state ≠ .latched → (s.chan c).state ≠ .inhibited →
    t.chan c = ((s.chan c).idle .inhibited).caused cause ∧ t.sequencer.slot0 ≠ some c ∧ t.sequencer.slot1 ≠ some c
  undone : (s.chan c).state = .pending → State.Undone c s t

theorem State.Inhibits.later (h : State.Inhibits cause c s t) (k : State.Thins l t u) (hk : s.NoIntent → t.NoIntent)
    (hc : u.chan c = t.chan c) : State.Inhibits cause c s u where
  keeps hs := hc.trans (h.keeps hs)
  takes hs := hc.trans (h.takes hs)
  enters h1 h2 h3 := by
    obtain ⟨e, h4, h5⟩ := h.enters h1 h2 h3
    exact ⟨hc.trans e, mt (k.slot0 c) h4, mt (k.slot1 c) h5⟩
  undone hs := (h.undone hs).later k hk

theorem State.Inhibits.earlier (h : State.Inhibits cause c t u) (k : State.Thins l s t) (hc : c ∉ l) (hm : t.mode = s.mode)
    (he : t.chan c = s.chan c) : State.Inhibits cause c s u where
  keeps hs := (h.keeps (he ▸ hs)).trans he
  takes hs := he ▸ h.takes (he ▸ hs)
  enters h1 h2 h3 := he ▸ h.enters (he ▸ h1) (he ▸ h2) (he ▸ h3)
  undone hs := (h.undone (he ▸ hs)).earlier k hc hm

/-- R135, R142: a loss or shutdown at one channel. -/
theorem State.inhibit_spec (hq : s.sequencer.queue = []) (c : Channel) (cause : Causes → Causes) :
    State.Touches c s (s.inhibit c cause) ∧ State.Thins [c] s (s.inhibit c cause)
      ∧ State.Inhibits cause c s (s.inhibit c cause) := by
  have hwide : ∀ {t u}, State.Thins [] t u → State.Thins [c] t u := fun h => (State.Thins.refl (l := [c]) _).trans h
  have henter : ∀ u : State, u.chan c = s.chan c →
      (u.enter c fun r => (r.idle .inhibited).caused cause).chan c = ((s.chan c).idle .inhibited).caused cause
        ∧ (u.enter c fun r => (r.idle .inhibited).caused cause).sequencer.slot0 ≠ some c
        ∧ (u.enter c fun r => (r.idle .inhibited).caused cause).sequencer.slot1 ≠ some c := fun u hu =>
    ⟨by rw [State.enter_chan_self, hu], State.enter_noSlot (by simp [ChannelRecord.caused])⟩
  have hstop : (s.chan c).state = .cooldown ∨ (s.chan c).state = .latched → s.inhibit c cause = s := fun h => by
    unfold State.inhibit
    rcases h with h | h <;> rw [h]
  by_cases h1 : (s.chan c).state = .cooldown ∨ (s.chan c).state = .latched
  · rw [hstop h1]
    refine ⟨.refl hq, .refl s, fun _ => rfl, fun h => ?_, fun h h' => (h1.elim h h').elim, fun h => ?_⟩
    all_goals
      rw [h] at h1
      rcases h1 with e | e <;> cases e
  by_cases h2 : (s.chan c).state = .inhibited
  · have : s.inhibit c cause = s.modChan c (·.caused cause) := by
      unfold State.inhibit
      rw [h2]
      rfl
    rw [this]
    exact ⟨State.touches_modChan hq, hwide (State.thins_modChan c _ s), fun h => absurd h h1, fun _ => State.modChan_chan_self s c _,
      fun _ _ h => absurd h2 h, fun h => by rw [h2] at h; cases h⟩
  by_cases h3 : (s.chan c).state = .pending
  · have : s.inhibit c cause = (s.undoAnnouncement c).enter c fun r => (r.idle .inhibited).caused cause := by
      unfold State.inhibit
      rw [h3]
      rfl
    rw [this]
    have hu := State.thins_undoAnnouncement c s
    have ht := State.thins_enter c (fun r => (r.idle .inhibited).caused cause) (s.undoAnnouncement c)
    have htouch : State.Touches c s (s.undoAnnouncement c) := State.touches_undoAnnouncement hq
    exact ⟨htouch.trans (State.touches_enter htouch.noQueue), hu.trans ht, fun h => absurd h h1, fun h => absurd h h2,
      fun _ _ _ => henter _ (State.undoAnnouncement_chan c c s), fun _ =>
        (State.undoAnnouncement_undone c s).later ht fun hn => hu.noIntent hn⟩
  · have : s.inhibit c cause = s.enter c fun r => (r.idle .inhibited).caused cause := by
      unfold State.inhibit
      split
      · next h => exact absurd (.inl h) h1
      · next h => exact absurd (.inr h) h1
      · next h => exact absurd h h2
      · next h => exact absurd h h3
      all_goals rfl
    rw [this]
    exact ⟨State.touches_enter hq, hwide (State.thins_enter c _ s), fun h => absurd h h1, fun h => absurd h h2,
      fun _ _ _ => henter s rfl, fun h => absurd h h3⟩

/-- R135, R142: a loss or shutdown at several channels. -/
theorem State.inhibits_foldl (l : List Channel) : ∀ u : State, u.sequencer.queue = [] → l.Nodup →
    let t := l.foldl (fun s c => if s.handedTo c then s.inhibit c cause else s) u
    u.Quiet t ∧ State.Thins l u t ∧ (∀ d, d ∉ l ∨ u.handedTo d = false → t.chan d = u.chan d)
      ∧ ∀ c ∈ l, u.handedTo c = true → State.Inhibits cause c u t := by
  induction l with
  | nil => exact fun u hq _ => ⟨.refl hq, .refl u, fun _ _ => rfl, fun c hc => absurd hc List.not_mem_nil⟩
  | cons c l ih =>
    intro u hq hn
    obtain ⟨hcl, hl⟩ := List.nodup_cons.1 hn
    obtain ⟨htouch, hthin, hdone, hstay⟩ : State.Touches c u (if u.handedTo c then u.inhibit c cause else u)
        ∧ State.Thins [c] u (if u.handedTo c then u.inhibit c cause else u)
        ∧ (u.handedTo c = true → State.Inhibits cause c u (if u.handedTo c then u.inhibit c cause else u))
        ∧ (u.handedTo c = false → (if u.handedTo c then u.inhibit c cause else u).chan c = u.chan c) := by
      obtain ⟨h1, h2, h3⟩ := State.inhibit_spec hq c cause
      by_cases hh : u.handedTo c = true
      · rw [if_pos hh]
        exact ⟨h1, h2, fun _ => h3, fun h => absurd (hh.symm.trans h) (by decide)⟩
      · rw [if_neg hh]
        exact ⟨.refl hq, .refl u, fun h => absurd h hh, fun _ => rfl⟩
    obtain ⟨v, hv⟩ : ∃ v, (if u.handedTo c then u.inhibit c cause else u) = v := ⟨_, rfl⟩
    rw [hv] at htouch hthin hdone hstay
    have hmode := htouch.acts.mode
    have hhanded : ∀ d, v.handedTo d = u.handedTo d := fun d => by
      unfold State.handedTo
      rw [hmode]
    have ht : (c :: l).foldl (fun s c => if s.handedTo c then s.inhibit c cause else s) u
        = l.foldl (fun s c => if s.handedTo c then s.inhibit c cause else s) v := by rw [List.foldl_cons, hv]
    obtain ⟨hquiet, hthins, hout, hin⟩ := ih v htouch.noQueue hl
    dsimp only
    rw [ht]
    refine ⟨⟨htouch.acts.trans hquiet.acts, hquiet.bind.trans htouch.bind, hquiet.noQueue⟩, hthin.trans hthins, fun d hd => ?_,
      fun d hd hh => ?_⟩
    · by_cases e : d = c
      · rw [e] at hd ⊢
        exact (hout c (.inl hcl)).trans (hstay (hd.resolve_left fun h => h List.mem_cons_self))
      · exact (hout d (hd.imp (fun h hm => h (List.mem_cons_of_mem c hm)) fun h => (hhanded d).trans h)).trans (htouch.others d e)
    · by_cases e : d = c
      · rw [e] at hh ⊢
        exact (hdone hh).later hthins (fun h => hthin.noIntent h) (hout c (.inl hcl))
      · exact (hin d ((List.mem_cons.1 hd).resolve_left e) ((hhanded d).trans hh)).earlier hthin
          (by simpa using e) hmode (htouch.others d e)

/-! ### What is seen of it -/

theorem TxFrame.isIntentOf_eq_false : x.isIntentOf c = false ↔ ∀ tr bk w, x ≠ .intent c tr bk w := by
  rw [← Bool.not_eq_true, TxFrame.isIntentOf_iff]
  push Not
  rfl

theorem State.noIntent_iff : s.NoIntent ↔ ∀ y ∈ s.line.queue, ∀ d tr bk w, y.frame ≠ .intent d tr bk w := by
  refine forall₂_congr fun y _ => ?_
  cases y.frame with
  | intent d tr bk w => exact ⟨fun h => (by cases h), fun h => absurd rfl (h d tr bk w)⟩
  | withdraw _ | draw _ _ | reply _ _ _ | status _ => exact ⟨fun _ _ _ _ _ => TxFrame.noConfusion, fun _ => rfl⟩

/-- R13, R20, R21: a channel that a loss or a shutdown has reached, as it is seen once the event has ended. -/
theorem State.Inhibits.seen (h : State.Inhibits cause c s t) (h1 : (s.chan c).state ≠ .cooldown)
    (h2 : (s.chan c).state ≠ .latched) (hc : u.chan c = (t.chan c).followed) (hl : u.line = t.line)
    (hi : u.intents = t.intents) (hs : u.sequencer = t.sequencer) :
    let q := u.chan c
    ((s.chan c).state ≠ .inhibited → q.state = .inhibited ∧ q.booking = 0 ∧ q.span = 0 ∧ q.start = none ∧ q.throttled = false
        ∧ u.sequencer.slot0 ≠ some c ∧ u.sequencer.slot1 ≠ some c)
      ∧ ((s.chan c).state = .pending → (∀ y ∈ u.line.queue, ∀ tr bk w, y.frame ≠ .intent c tr bk w)
        ∧ ((∀ y ∈ s.line.queue, ∀ tr bk w, y.frame ≠ .intent c tr bk w) →
            ∀ e ∈ u.intents.entries, ¬(e.station = s.own ∧ e.channel.val = c.val))
        ∧ ((∀ y ∈ s.line.queue, ∀ d tr bk w, y.frame ≠ .intent d tr bk w) → s.mode ≠ .clashed →
            (∃ e ∈ s.intents.entries, e.station = s.own ∧ e.channel.val = c.val) →
            (∃ y ∈ u.line.queue, y.frame = .withdraw c)
              ∨ (5 ≤ u.queued (fun y => y.frame.kind != 1) ∧ u.queued (fun y => y.frame.kind == 5) = 0)))
      ∧ q.causes = cause (s.chan c).causes ∧ q.eff = (s.chan c).eff := by
  dsimp only
  refine ⟨fun h3 => ?_, fun h3 => ?_, ?_⟩
  · obtain ⟨e, h4, h5⟩ := h.enters h1 h2 h3
    rw [hc, e, hs]
    exact ⟨rfl, rfl, rfl, rfl, rfl, h4, h5⟩
  · obtain ⟨hqueued, hsent, htold⟩ := h.undone h3
    have hfull : u.Full ↔ t.Full := State.full_congr (by rw [hl])
    refine ⟨fun y hy => TxFrame.isIntentOf_eq_false.1 (hqueued y (hl ▸ hy)), fun hn e he => ?_, fun hn hm ⟨e, he, ho⟩ => ?_⟩
    · rw [← State.isOwnEntry_iff, Bool.not_eq_true]
      exact hsent (fun y hy => TxFrame.isIntentOf_eq_false.2 (hn y hy)) e (hi ▸ he)
    · rcases htold (State.noIntent_iff.2 hn) hm ⟨e, he, State.isOwnEntry_iff.2 ho⟩ with hw | hf
      · exact .inl (hl ▸ hw)
      · exact .inr (hfull.2 hf)
  · by_cases h3 : (s.chan c).state = .inhibited
    · rw [hc, h.takes h3]
      exact ⟨rfl, rfl⟩
    · rw [hc, (h.enters h1 h2 h3).1]
      exact ⟨rfl, rfl⟩

/-- R135, R142: a loss or a shutdown handed to channels. -/
theorem State.inhibitAll_spec (p : s.Plain) (cs : List Channel) (hn : cs.Nodup) (cause : Causes → Causes) :
    ∃ t, s.inhibitAll cs cause = t ∧ t.Plain
      ∧ (∀ d, d ∉ cs ∨ ¬((s.chan d).state ≠ .cooldown ∧ (s.chan d).state ≠ .latched ∧ (s.mode = .limp → d.val < 4)) →
        t.chan d = s.chan d)
      ∧ ∀ c ∈ cs, (s.mode = .limp → c.val < 4) → State.Inhibits cause c s t := by
  obtain ⟨hquiet, -, hout, hin⟩ := State.inhibits_foldl (cause := cause) cs s p.noQueue hn
  refine ⟨_, rfl, ⟨hquiet.bind ▸ p.noFollower, hquiet.noQueue⟩, fun d hd => ?_,
    fun c hc hh => hin c hc (State.handedTo_iff.2 hh)⟩
  by_cases hm : d ∈ cs
  · by_cases hh : s.handedTo d = true
    · refine (hin d hm hh).keeps ?_
      by_contra hno
      obtain ⟨h1, h2⟩ := not_or.1 hno
      exact hd.elim (absurd hm) (absurd ⟨h1, h2, State.handedTo_iff.1 hh⟩)
    · exact hout d (.inr (by simpa using hh))
  · exact hout d (.inl hm)

/-! ### The measurements that inhibit -/

/-- R134, R135: a feed loss, out of range at a first measurement or after IN RANGE. -/
theorem State.measureFeed_loss {b : Bank} {w : Nat} (h : (s.feed.feeds[b] = some .inRange ∧ (w < 160 ∨ 320 < w))
      ∨ (s.feed.feeds[b] = none ∧ (w ≤ 180 ∨ 300 ≤ w))) :
    ∃ k f, s.measureFeed b w
      = State.feedLoss b { s with loader := { s.loader with resetKind := k }, feed := f } := by
  unfold State.measureFeed
  rcases h with ⟨h, hw⟩ | ⟨h, hw⟩
  · have hne : nextFeed .inRange w ≠ .inRange := by
      unfold nextFeed
      dsimp only
      split
      · decide
      · rw [if_pos (by omega)]
        decide
    rw [h]
    dsimp only
    rw [if_pos ⟨rfl, hne⟩]
    exact ⟨s.loader.resetKind, _, rfl⟩
  · have hne : firstFeed w ≠ .inRange := by
      unfold firstFeed
      split
      · decide
      · rw [if_pos (by omega)]
        decide
    rw [h]
    dsimp only
    rw [if_neg hne]
    exact ⟨_, _, rfl⟩

/-- R141, R142: an entry to SHUTDOWN. -/
theorem State.measureDie_shutdown {x : Int} (h : s.feed.temp ≠ .shutdown) (hx : 160 ≤ x) :
    ∃ f e, s.measureDie x = State.inhibitAll allChannels (fun k => { k with shutdown := true })
      { s with feed := f, events := e } := by
  have hnext : nextTemp s.feed.temp x = .shutdown := by
    unfold nextTemp
    split
    · exact if_pos hx
    · exact if_pos hx
    · next ht => exact absurd ht h
  unfold State.measureDie
  dsimp only
  rw [hnext, if_pos (show s.feed.temp ≠ .shutdown ∧ PartTemp.shutdown = .shutdown from ⟨h, rfl⟩)]
  split
  · exact ⟨_, _, rfl⟩
  · exact ⟨_, _, rfl⟩

end Sys2Proof.Machine

/-- Settles O43. -/
theorem lossAndShutdownInhibit : Obligations.LossAndShutdownInhibit := by
  open Sys2Proof.Machine Sys2Proof in
  intro b v x s p
  refine ⟨fun h => ?_, fun h hx => ?_⟩
  · obtain ⟨k, f, hmeasure⟩ := State.measureFeed_loss h
    obtain ⟨t, ht, htp, hout, hin⟩ := State.inhibitAll_spec
      (s := { s with loader := { s.loader with resetKind := k }, feed := f }) ⟨p.noFollower, p.noQueue⟩
      (allChannels.filter fun c => bankOf c == b) (allChannels_nodup.filter _) fun k => { k with feed := true }
    have hplain : (t.raise .feed).Plain := ⟨htp.noFollower, htp.noQueue⟩
    have hexec : exec (.feedMeasurement b v) s = .next (t.raise .feed).echoed := by
      show Host.Outcome.next (s.measureFeed b v).settle = _
      rw [hmeasure, State.feedLoss, ht, hplain.settle]
    have hmem : ∀ c, c ∈ allChannels.filter (fun c => bankOf c == b) ↔ bankOf c = b := fun c => by
      simp [mem_allChannels]
    refine ⟨_, hexec, fun c => ⟨fun hc => ?_, fun hb ⟨h1, h2, hh⟩ => ?_⟩⟩
    · exact (State.echoed_chan _ c).trans (congrArg _ (hout c (hc.imp_left (mt (hmem c).1))))
    · exact (hin c ((hmem c).2 hb) hh).seen h1 h2 (State.echoed_chan _ c) rfl rfl rfl
  · obtain ⟨f, e, hmeasure⟩ := State.measureDie_shutdown h hx
    obtain ⟨t, ht, htp, hout, hin⟩ := State.inhibitAll_spec (s := { s with feed := f, events := e })
      ⟨p.noFollower, p.noQueue⟩ allChannels allChannels_nodup fun k => { k with shutdown := true }
    have hexec : exec (.dieTemperatureMeasurement x) s = .next t.echoed := by
      show Host.Outcome.next (s.measureDie x).settle = _
      rw [hmeasure, ht, htp.settle]
    refine ⟨_, hexec, fun c => ⟨fun hc => ?_, fun ⟨h1, h2, hh⟩ => ?_⟩⟩
    · exact (State.echoed_chan _ c).trans (congrArg _ (hout c (.inr hc)))
    · exact (hin c (mem_allChannels c) hh).seen h1 h2 (State.echoed_chan _ c) rfl rfl rfl
end

-- ==== Proofs: expiry ====
section
/-! PROOFS. The expiry of a queued frame (R162): O52. -/

namespace Sys2Proof.Machine

variable {s t u : State} {c d : Channel} {e : TxEntry} {i : Fin 6}

/-- R162: an expiry at a place where nothing is due. -/
theorem exec_queueExpiry_idle (h : s.txQueue[i.val]? = some e) (hd : e.due = false) :
    exec (.queueExpiry i) s = .next s := by
  show execQueueExpiry i s = _
  unfold execQueueExpiry
  rw [h]
  exact if_neg (by rw [hd]; decide)

theorem exec_queueExpiry_due (h : s.txQueue[i.val]? = some e) (hd : e.due = true) :
    exec (.queueExpiry i) s = .next (((s.setQueue (s.txQueue.eraseIdx i.val)).expired e.frame).settle) := by
  show execQueueExpiry i s = _
  unfold execQueueExpiry
  rw [h]
  exact if_pos hd

/-- R162: when a frame is due. -/
theorem TxEntry.due_iff : e.due = true ↔
    e.frame.kind ≠ 1 ∧ (if e.frame.kind = 0 then 200 else if e.frame.kind = 4 then 500 else 1000) ≤ e.age := by
  by_cases h : e.frame.kind = 1
  · have : e.frame.expiryMs = none := by
      cases hf : e.frame with
      | draw _ _ => rfl
      | intent _ _ _ _ | withdraw _ | reply _ _ _ | status _ => rw [hf] at h; cases h
    simp [TxEntry.due, this, h]
  · simp [TxEntry.due, TxFrame.expiryMs_eq h, h]

/-- R12: a channel whose announcement is lost. -/
theorem State.deferPending_chan_self (c : Channel) (s : State) : (s.deferPending c).chan c
    = if (s.chan c).state = .pending then (s.chan c).idle .deferred else s.chan c := by
  unfold State.deferPending
  by_cases h : (s.chan c).state = .pending <;> simp [h]

theorem State.touches_deferPending (h : s.sequencer.queue = []) : State.Touches c s (s.deferPending c) := by
  unfold State.deferPending
  split
  · exact State.touches_enter h
  · exact .refl h

theorem State.deferPending_line (c : Channel) (s : State) : (s.deferPending c).intents = s.intents
    ∧ ∀ x ∈ (s.deferPending c).line.queue, x.frame.kind = 0 → x ∈ s.line.queue := by
  unfold State.deferPending
  split
  · refine ⟨?_, fun x hx hk => ?_⟩
    · rcases State.enter_cases c (·.idle .deferred) s with h | h <;> rw [h] <;> rfl
    · rcases State.enter_txQueue c (·.idle .deferred) s with h | h <;> rw [h] at hx
      · exact hx
      · refine (List.mem_append.1 hx).resolve_right fun hm => ?_
        rw [List.mem_singleton.1 hm] at hk
        cases hk
  · exact ⟨rfl, fun _ hx _ => hx⟩

/-- R167, R171: the last reply of a request has gone. -/
theorem State.endRequest_last {q : ServiceRequest} (hq : s.service.request = some q) (hl : q.replies = [])
    (hx : ∀ x ∈ s.line.queue, ∀ dst data, x.frame ≠ .reply dst data true) :
    s.endRequest = { s with service := if q.isRestart then { s.service with restartDue := true }
      else { s.service with request := none } } := by
  have hany : (s.txQueue.any fun e => e.frame.ofRequest) = false := by
    refine List.any_eq_false.2 fun x hm ho => ?_
    cases hf : x.frame with
    | reply dst data b =>
      rw [hf] at ho
      replace ho : b = true := ho
      exact hx x hm dst data (by rw [hf, ho])
    | intent _ _ _ _ | withdraw _ | draw _ _ | status _ =>
      rw [hf] at ho
      cases ho
  unfold State.endRequest
  rw [hq, hany]
  dsimp only
  rw [hl]
  cases q.isRestart <;> rfl

end Sys2Proof.Machine

/-- Settles O52. -/
theorem queuedFramesExpire : Obligations.QueuedFramesExpire := by
  open Sys2Proof.Machine Sys2Proof in
  intro i e s p
  refine ⟨fun h => ?_, fun h => ⟨fun hw => ?_, fun hw hk => ?_, fun c tr b w hf hw => ?_, fun dst data b q hf hq hl hw hx => ?_⟩⟩
  · show execQueueExpiry i s = _
    unfold execQueueExpiry
    rw [show s.txQueue[i.val]? = none from h]
  · refine exec_queueExpiry_idle h (Bool.eq_false_iff.2 fun hd => ?_)
    obtain ⟨h1, h2⟩ := TxEntry.due_iff.1 hd
    exact hw.elim h1 (Nat.not_lt.2 h2)
  · have hplain : (s.setQueue (s.txQueue.eraseIdx i.val)).Plain := ⟨p.noFollower, p.noQueue⟩
    have hne : e.frame.kind ≠ 1 ∧ (s.setQueue (s.txQueue.eraseIdx i.val)).expired e.frame
        = s.setQueue (s.txQueue.eraseIdx i.val) := by
      cases hf : e.frame with
      | status _ => exact ⟨Nat.succ_ne_succ_iff.2 (Nat.succ_ne_zero 3), rfl⟩
      | withdraw _ => exact ⟨Nat.zero_ne_one, rfl⟩
      | intent _ _ _ _ | draw _ _ | reply _ _ _ =>
        rw [hf] at hk
        rcases hk with hk | ⟨c, hk⟩ <;> cases hk
    rw [exec_queueExpiry_due h (TxEntry.due_iff.2 ⟨hne.1, hw⟩), hne.2, hplain.settle]
    rfl
  · have hq : (s.setQueue (s.txQueue.eraseIdx i.val)).sequencer.queue = [] := p.noQueue
    have ht := State.touches_deferPending (c := c) hq
    obtain ⟨hi, hx⟩ := State.deferPending_line c (s.setQueue (s.txQueue.eraseIdx i.val))
    have hexec := exec_queueExpiry_due h (TxEntry.due_iff.2 ⟨by rw [hf]; exact Nat.zero_ne_one, hw⟩)
    rw [hf] at hexec
    refine ⟨_, hexec.trans (congrArg _ (ht.settle ⟨p.noFollower, p.noQueue⟩)), ?_, hi, hx, fun d hd => ht.echoed_others hd⟩
    rw [State.echoed_chan, State.deferPending_chan_self]
    show (ChannelRecord.followed (if (s.chan c).state = .pending then _ else _)).state = _
    split <;> rfl
  · have hend := State.endRequest_last (s := s.setQueue (s.txQueue.eraseIdx i.val)) (q := q) hq hl hx
    have hexec := exec_queueExpiry_due h (TxEntry.due_iff.2 ⟨by rw [hf]; exact Nat.succ_ne_succ_iff.2 (Nat.succ_ne_zero 2), hw⟩)
    rw [hf] at hexec
    rw [hexec]
    refine congrArg Host.Outcome.next ((congrArg State.settle hend).trans (State.Plain.settle ?_))
    exact ⟨p.noFollower, p.noQueue⟩
end

-- ==== Proofs: limpentry ====
section
/-! PROOFS. The entry to LIMP (R178): O14. -/

namespace Sys2Proof.Machine

variable {s t u : State} {c d : Channel} {v : Byte} {i : WiredInput}

/-! ### What a request leaves of a record: the static fields and the heat value -/

/-- R107: the static fields of a record, its heat value, and its update timer. -/
def ChannelRecord.heat (r : ChannelRecord) : ChannelConfig × Nat × Option Nat := (r.cfg, r.prot.theta, r.prot.update)

theorem ChannelRecord.steady_heat : ChannelRecord.Steady ChannelRecord.heat := by
  refine ⟨⟨fun _ _ => rfl, fun _ => rfl, fun _ _ => rfl, fun _ _ => rfl, fun k r => ?_⟩, fun _ _ => rfl, fun _ _ => rfl⟩
  unfold ChannelRecord.retryStop
  dsimp only
  split <;> rfl

theorem State.holds_setRaw (c : Channel) (v : Byte) (s : State) : s.Holds ChannelRecord.heat (s.setRaw c v) := by
  by_cases h : v = (s.chan c).raw
  · rw [State.setRaw_same h]
    exact .refl s
  · rw [State.setRaw_ne h]
    exact (State.holds_modChan rfl).trans (State.holds_applyRequest ChannelRecord.steady_heat c _)

/-! ### The wired requests at entry (R23) -/

theorem State.Acts.wiredValue (h : s.Acts t) (i : WiredInput) : t.wiredValue i = s.wiredValue i := by
  unfold State.wiredValue
  rw [h.wired]

/-- R23: several wired inputs set their channels' raw requests. -/
theorem State.limpFollow_foldl (l : List WiredInput) : ∀ u : State, u.sequencer.queue = [] → l.Nodup → (∀ i ∈ l, i.val < 4) →
    let t := l.foldl (fun s i => s.limpFollow i) u
    u.Quiet t ∧ u.Holds ChannelRecord.heat t ∧ (∀ d : Channel, (∀ i ∈ l, i.val ≠ d.val) → t.chan d = u.chan d)
      ∧ ∀ c : Channel, ∀ i ∈ l, c.val = i.val → (t.chan c).raw = u.wiredValue i := by
  induction l with
  | nil => exact fun u hq _ _ => ⟨.refl hq, .refl u, fun _ _ => rfl, fun _ _ h => absurd h List.not_mem_nil⟩
  | cons i l ih =>
    intro u hq hn hl
    obtain ⟨hi, hn⟩ := List.nodup_cons.1 hn
    have hi4 := hl i List.mem_cons_self
    obtain ⟨c, hc⟩ : ∃ c : Channel, c.val = i.val := ⟨⟨i.val, by omega⟩, rfl⟩
    have htouch : State.Touches c u (u.setRaw c (u.wiredValue i)) := State.touches_setRaw hq _
    have hvalue := fun j => htouch.acts.wiredValue j
    obtain ⟨hquiet, hheat, hout, hraw⟩ := ih (u.setRaw c (u.wiredValue i)) htouch.noQueue hn
      fun j hj => hl j (List.mem_cons_of_mem i hj)
    dsimp only
    rw [List.foldl_cons, State.limpFollow_eq hi4 hc]
    refine ⟨⟨htouch.acts.trans hquiet.acts, hquiet.bind.trans htouch.bind, hquiet.noQueue⟩,
      (State.holds_setRaw c _ u).trans hheat, fun d hd => ?_, fun d j hj hdj => ?_⟩
    · have hne : d ≠ c := fun e => hd i List.mem_cons_self (by rw [e, hc])
      exact (hout d fun j hj => hd j (List.mem_cons_of_mem i hj)).trans (htouch.others d hne)
    · rcases List.mem_cons.1 hj with rfl | hj
      · have hdc : d = c := Fin.ext (hdj.trans hc.symm)
        rw [hdc, hout c fun k hk e => hi (Fin.ext (e.trans hc) ▸ hk), State.setRaw_raw]
      · rw [hraw d j hj hdj, hvalue]

/-! ### The built-in values -/

/-- What the installation of the static fields leaves. -/
theorem State.installFields_blocks (f : Channel → ChannelConfig) (s : State) :
    (s.installFields f).events = s.events ∧ (s.installFields f).feed = s.feed ∧ (s.installFields f).loader = s.loader
      ∧ (s.installFields f).bind = s.bind ∧ (s.installFields f).wired = s.wired ∧ (s.installFields f).line = s.line := by
  unfold State.installFields
  exact ⟨rfl, rfl, rfl, rfl, rfl, rfl⟩

/-- R178: a channel of LIMP's unused ones is OFF without causes. -/
def ChannelRecord.freed (r : ChannelRecord) : ChannelRecord := { r.idle .off with causes := ⟨false, false, false⟩ }

theorem State.freeUnused_chan (s : State) (c : Channel) : s.freeUnused.chan c
    = if 4 ≤ c.val ∧ (s.chan c).state = .inhibited then (s.chan c).freed else s.chan c := by
  have h := State.foldl_chan (op := fun s c => s.enter c (·.freed)) (F := ChannelRecord.freed)
    (fun s c => State.enter_chan_self c _ s) (fun s c d hd => State.enter_chan_ne hd _ s) _
    (allChannels_nodup.filter fun c => Decidable.decide (4 ≤ c.val) && (s.chan c).state == .inhibited) s c
  refine h.trans ?_
  by_cases hc : 4 ≤ c.val ∧ (s.chan c).state = .inhibited
  · rw [if_pos hc, if_pos (List.mem_filter.2 ⟨mem_allChannels c, by simp [hc]⟩)]
  · rw [if_neg hc, if_neg fun hm => hc (by simpa using (List.mem_filter.1 hm).2)]

theorem State.freeUnused_noQueue (h : s.sequencer.queue = []) : s.freeUnused.sequencer.queue = [] := by
  have hfold : ∀ (l : List Channel) (u : State), u.sequencer.queue = [] →
      (l.foldl (fun s c => s.enter c fun r => { r.idle .off with causes := ⟨false, false, false⟩ }) u).sequencer.queue = [] := by
    intro l
    induction l with
    | nil => exact fun _ hu => hu
    | cons c l ih => exact fun u hu => ih _ (State.enter_noQueue c _ hu)
  exact hfold _ s h

theorem State.Acts.listen (h : s.Acts t) : t.line.listen = s.line.listen ∧ t.line.silence = s.line.silence := by
  rw [← h]
  exact ⟨rfl, rfl⟩

/-- R178, R107: the blocks once the part has left CONFIGURING for LIMP, before the wired requests. -/
theorem State.limpEntry_blocks (s : State) :
    let w := s.limpValues.leaveConfiguring .limp
    w.mode = .limp
      ∧ w.events = ⟨s.events.flags ||| 512#11, BitVec.allOnes 11, BitVec.allOnes 20, s.events.rollPointer, some 50⟩
      ∧ w.service.mask = BitVec.allOnes 16
      ∧ w.feed.thresholds = some ⟨270, 240, 200⟩
      ∧ w.feed.ownBand = some (Thresholds.band ⟨270, 240, 200⟩ s.feed.ksup)
      ∧ w.budget.round = some 100 ∧ w.line.silence = some 0 ∧ w.line.listen = s.line.listen
      ∧ (s.bind.bindings = [] → w.bind.bindings = []) ∧ (s.sequencer.queue = [] → w.sequencer.queue = [])
      ∧ w.wired = s.wired
      ∧ ∀ c, w.chan c = (if 4 ≤ c.val ∧ (s.chan c).state = .inhibited then ((s.chan c).withCfg (limpConfig c)).freed
          else (s.chan c).withCfg (limpConfig c)).beginHeat s.loader.resetKind := by
  obtain ⟨a, ha⟩ : ∃ a, (s.raise .limp).installFields limpConfig = a := ⟨_, rfl⟩
  obtain ⟨b, hb⟩ : ∃ b, a.freeUnused = b := ⟨_, rfl⟩
  obtain ⟨hevents, hfeed, hloader, hbind, hwired, hline⟩ := State.installFields_blocks limpConfig (s.raise .limp)
  obtain ⟨hsequencer, -⟩ := State.installFields_rest limpConfig (s.raise .limp)
  have hchan := State.installFields_chan limpConfig (s.raise .limp)
  rw [ha] at hevents hfeed hloader hbind hwired hline hsequencer hchan
  have hmoves := State.moves_freeUnused a
  have hfree := State.freeUnused_chan a
  rw [hb] at hmoves hfree
  have hacts := hmoves.acts
  have hw : s.limpValues = ((({ b with service := { b.service with mask := BitVec.allOnes 16 } } : State).setThresholds
      ⟨270, 240, 200⟩).beginHeat.setMasks (BitVec.allOnes 11) (BitVec.allOnes 20)) := by
    unfold State.limpValues
    dsimp only
    rw [ha, hb]
  dsimp only
  rw [hw]
  refine ⟨rfl, ?_, rfl, rfl, ?_, rfl, rfl, ?_, fun h => hmoves.noBinding (hbind ▸ h), fun h => ?_, hacts.wired.trans hwired, fun c => ?_⟩
  · show (⟨b.events.flags, _, _, b.events.rollPointer, _⟩ : EventUnit) = _
    rw [hacts.events, hevents]
    rfl
  · show some (Thresholds.band _ b.feed.ksup) = _
    rw [hacts.feed, hfeed]
    rfl
  · exact hacts.listen.1.trans (by rw [hline]; rfl)
  · exact hb ▸ State.freeUnused_noQueue (hsequencer ▸ h)
  · refine (State.beginHeat_chan _ c).trans ?_
    show (b.chan c).beginHeat b.loader.resetKind = _
    rw [hfree, hacts.loader, hloader, hchan]
    rfl

/-- R23: what the wired requests of the entry leave. -/
theorem State.limpRequests_spec (hq : s.sequencer.queue = []) :
    s.Quiet s.limpRequests ∧ s.Holds ChannelRecord.heat s.limpRequests
      ∧ (∀ d : Channel, 4 ≤ d.val → s.limpRequests.chan d = s.chan d)
      ∧ ∀ c : Channel, c.val < 4 → (s.limpRequests.chan c).raw = s.wiredValue (Fin.ofNat 8 c.val) := by
  have hlt : ∀ i ∈ ([0, 1, 2, 3] : List WiredInput), i.val < 4 := by decide
  have hmem : ∀ n : Fin 4, (Fin.ofNat 8 n.val : WiredInput) ∈ ([0, 1, 2, 3] : List WiredInput) := by decide
  obtain ⟨hquiet, hheat, hout, hraw⟩ := State.limpFollow_foldl [0, 1, 2, 3] s hq (by decide) hlt
  unfold State.limpRequests
  refine ⟨hquiet, hheat, fun d hd => hout d fun i hi e => ?_, fun c hc => hraw c _ (hmem ⟨c.val, hc⟩) ?_⟩
  · have := hlt i hi
    omega
  · show c.val = c.val % 8
    omega

/-- R178: the round of the entry changes no record. -/
theorem State.limpRound (hm : s.mode = .limp) : ∃ f, s.takeRound = s.send f := by
  unfold State.takeRound
  rw [hm]
  exact ⟨_, rfl⟩

/-- R178: the entry to LIMP of a part that holds nothing yet, from the blocks that stand before its round. -/
theorem State.enterLimp_spec (hb : s.bind.bindings = []) (hq : s.sequencer.queue = []) :
    ∃ t, s.enterLimp.settle = t ∧ (s.limpValues.leaveConfiguring .limp).Acts t
      ∧ (∀ d, (t.chan d).heat = ((s.limpValues.leaveConfiguring .limp).chan d).heat)
      ∧ (∀ d : Channel, 4 ≤ d.val → (t.chan d).state = ((s.limpValues.leaveConfiguring .limp).chan d).state)
      ∧ ∀ c : Channel, c.val < 4 → (t.chan c).raw = s.wiredValue (Fin.ofNat 8 c.val) := by
  obtain ⟨hmode, -, -, -, -, -, -, -, hbind, hqueue, hwired, -⟩ := State.limpEntry_blocks s
  rw [State.enterLimp_eq]
  obtain ⟨w, hw⟩ : ∃ w, s.limpValues.leaveConfiguring .limp = w := ⟨_, rfl⟩
  rw [hw] at hmode hbind hqueue hwired ⊢
  obtain ⟨f, hf⟩ := State.limpRound hmode
  have hsend : w.Acts w.takeRound := hf ▸ State.acts_send f w
  have hchan : ∀ d, w.takeRound.chan d = w.chan d := fun d => by rw [hf, State.send_chan]
  obtain ⟨hquiet, hheat, hout, hraw⟩ := State.limpRequests_spec (s := w.takeRound) (by rw [hf, State.send_sequencer, hqueue hq])
  have hplain : w.takeRound.Plain := by
    refine ⟨fun b hm => ?_, by rw [hf, State.send_sequencer, hqueue hq]⟩
    rw [hf, State.send_bind, hbind hb] at hm
    exact absurd hm List.not_mem_nil
  generalize w.takeRound.limpRequests = u at hquiet hheat hout hraw ⊢
  have hfollowed : ∀ d, u.echoed.chan d = (u.chan d).followed := State.echoed_chan u
  refine ⟨_, hquiet.settle hplain, (hsend.trans hquiet.acts).trans (State.acts_echoed _), fun d => ?_, fun d hd => ?_,
    fun c hc => ?_⟩
  · rw [hfollowed, ← hchan d]
    exact hheat d
  · rw [hfollowed, hout d hd, hchan]
    rfl
  · rw [hfollowed]
    refine (hraw c hc).trans ?_
    rw [hsend.wiredValue]
    unfold State.wiredValue
    rw [hwired]

/-- R164: ALERT stands while a flag is set that the mask selects. -/
theorem State.alert_of_flag {n : Nat} (h1 : s.events.flags.getLsbD n = true) (h2 : s.events.partMask.getLsbD n = true) :
    s.alert = true := by
  have hne : s.events.flags &&& s.events.partMask ≠ 0 := fun e => by
    have := congrArg (fun x : BitVec 11 => x.getLsbD n) e
    rw [BitVec.getLsbD_and, h1, h2] at this
    simp at this
  unfold State.alert
  rw [Bool.or_eq_true]
  exact .inl (bne_iff_ne.2 hne)

/-- R107: the heat value with which a channel's model begins. -/
theorem ChannelRecord.beginHeat_theta (k : Option ResetKind) (r : ChannelRecord) :
    (r.beginHeat k).prot.theta = startHeat k r.cfg.iTrip r.prot.theta := by
  cases k with
  | none => rfl
  | some k =>
    cases k with
    | cold => rfl
    | warm => exact congrArg (· / 2) (pow_two _).symm
    | serviceRestart => rfl

theorem ChannelRecord.heat_eq {r q : ChannelRecord} (h : q.heat = r.heat) :
    q.cfg = r.cfg ∧ q.prot.theta = r.prot.theta ∧ q.prot.update = r.prot.update := by
  obtain ⟨h1, h2⟩ := Prod.mk.inj h
  obtain ⟨h2, h3⟩ := Prod.mk.inj h2
  exact ⟨h1, h2, h3⟩

end Sys2Proof.Machine

/-- Settles O14. -/
theorem failedReadEntersLimp : Obligations.FailedReadEntersLimp := by
  open Sys2Proof.Machine Sys2Proof in
  intro image s hlen hm hu hv
  obtain ⟨s1, hs1⟩ : ∃ s1 : State, ({ s with loader := { s.loader with source := some (imageVerdict image) } } : State) = s1 :=
    ⟨_, rfl⟩
  have hexec : exec (.configurationReadEnd image) s = .next s1.enterLimp.settle := by
    show execConfigurationReadEnd image s = _
    unfold execConfigurationReadEnd State.judgeImage
    dsimp only
    rw [if_neg (show ¬image.length ≠ Config.imageBytes from not_not.2 hlen), if_pos hm, if_neg hv, hs1]
  have hchan1 : ∀ c, s1.chan c = s.chan c := fun c => by rw [← hs1]; rfl
  have hb1 : s1.bind.bindings = [] := by rw [← hs1]; exact hu.bindings
  have hq1 : s1.sequencer.queue = [] := by rw [← hs1]; exact hu.queue
  have hloader : s1.loader.resetKind = s.loader.resetKind := by rw [← hs1]
  have hblocks : s1.events = s.events ∧ s1.feed = s.feed ∧ s1.wired = s.wired ∧ s1.line = s.line := by
    rw [← hs1]
    exact ⟨rfl, rfl, rfl, rfl⟩
  obtain ⟨he1, hf1, hw1, hl1⟩ := hblocks
  obtain ⟨t, ht, hacts, hheat, hstate, hraw⟩ := State.enterLimp_spec hb1 hq1
  obtain ⟨hmode, hevents, hmask, hth, hband, hround, hsil, hlis, -, -, -, hchan⟩ := State.limpEntry_blocks s1
  obtain ⟨w, hw⟩ : ∃ w, s1.limpValues.leaveConfiguring .limp = w := ⟨_, rfl⟩
  rw [hw] at hacts hheat hstate hmode hevents hmask hth hband hround hsil hlis hchan
  have hev : t.events = w.events := hacts.events
  have hrec : ∀ c, (t.chan c).cfg = limpConfig c ∧ (t.chan c).prot.update = some 10
      ∧ (t.chan c).prot.theta = startHeat s.loader.resetKind (limpConfig c).iTrip (s.chan c).prot.theta := fun c => by
    obtain ⟨h1, h2, h3⟩ := ChannelRecord.heat_eq (hheat c)
    rw [h1, h2, h3, hchan c, hchan1, hloader]
    split
    all_goals exact ⟨rfl, rfl, ChannelRecord.beginHeat_theta _ _⟩
  have hbase : ∀ c, (limpConfig c).iTrip = 100 ∧ (limpConfig c).heatExp = 8 := fun c => by
    unfold limpConfig
    split <;> exact ⟨rfl, rfl⟩
  rw [hexec, ht]
  refine ⟨t, rfl, hacts.mode.trans hmode, ?_, ?_, ?_, State.alert_of_flag (n := 9) ?_ ?_, ?_, ?_, ?_, ?_, ?_, ?_, ?_, fun c => ?_,
    fun c hc => ?_, fun c hc => ?_⟩
  · rw [hev, hevents, he1]
  · rw [hev, hevents]
  · rw [hev, hevents]
  · rw [hev, hevents]
    simp
  · rw [hev, hevents]
    simp
  · rw [hacts.service, hmask]
  · rw [hacts.feed, hth]
  · rw [hacts.feed, hband, hf1]
    rfl
  · rw [hacts.budget, hround]
  · rw [hev, hevents]
  · rw [hacts.listen.2, hsil]
  · rw [hacts.listen.1, hlis, hl1]
  · obtain ⟨h1, h2, h3⟩ := hrec c
    rw [(hbase c).1] at h3
    exact ⟨by rw [h1, (hbase c).1], by rw [h1, (hbase c).2], h2, h3⟩
  · rw [hstate c hc, hchan, hchan1]
    obtain ⟨hs, -⟩ := hu.channels c
    split
    · rfl
    · next h =>
      rcases hs with hs | hs
      · exact hs
      · exact absurd ⟨hc, hs⟩ h
  · refine ⟨?_, ?_⟩
    · rw [hraw c hc]
      unfold State.wiredValue
      rw [hw1]
    · rw [(hrec c).1]
      unfold limpConfig
      rw [if_pos hc]
      exact ⟨rfl, rfl, rfl, rfl, rfl, rfl, rfl, rfl, rfl, rfl, rfl, rfl, rfl, rfl, rfl, rfl, rfl, rfl, rfl, rfl, rfl⟩
end

-- ==== Proofs: switch ====
section
/-! PROOFS. A SIGNAL that turns a SWITCH binding on or off (R10 to R22, R34): O24. -/

namespace Sys2Proof.Machine

variable {s t u : State} {c d : Channel} {v n : Byte} {b : Binding} {sender : Station} {r : ChannelRecord}

/-! ### The largest of several outputs (R34) -/

theorem foldl_maxByte_le {α : Type} (f : α → Byte) (l : List α) : ∀ m : Byte,
    m.toNat ≤ (l.foldl (fun a x => maxByte a (f x)) m).toNat
      ∧ ∀ x ∈ l, (f x).toNat ≤ (l.foldl (fun a x => maxByte a (f x)) m).toNat := by
  induction l with
  | nil => exact fun m => ⟨Nat.le_refl _, fun x h => absurd h List.not_mem_nil⟩
  | cons y l ih =>
    intro m
    obtain ⟨h1, h2⟩ := ih (maxByte m (f y))
    rw [maxByte_toNat] at h1
    refine ⟨(Nat.le_max_left _ _).trans h1, fun x hx => ?_⟩
    rcases List.mem_cons.1 hx with rfl | hx
    · exact (Nat.le_max_right _ _).trans h1
    · exact h2 x hx

theorem foldl_maxByte_full {α : Type} (f : α → Byte) {l : List α} {x : α} (hx : x ∈ l) (h : f x = 255) :
    l.foldl (fun a x => maxByte a (f x)) 0 = 255 := by
  refine BitVec.eq_of_toNat_eq ?_
  have h1 := (foldl_maxByte_le f l 0).2 x hx
  have h2 := (l.foldl (fun a x => maxByte a (f x)) 0).isLt
  rw [h] at h1
  have h255 : (255 : Byte).toNat = 255 := rfl
  omega

/-- R34: outputs of 0 do not count. -/
theorem foldl_maxByte_filter {α : Type} (f : α → Byte) (p : α → Bool) (l : List α) (h : ∀ x ∈ l, p x = false → f x = 0) :
    ∀ m : Byte, l.foldl (fun a x => maxByte a (f x)) m
      = ((l.filter p).map f).foldl (fun m o => if m.toNat ≤ o.toNat then o else m) m := by
  have hmax : ∀ m o : Byte, maxByte m o = if m.toNat ≤ o.toNat then o else m := fun m o => by
    refine BitVec.eq_of_toNat_eq ?_
    rw [maxByte_toNat]
    split <;> omega
  induction l with
  | nil => exact fun _ => rfl
  | cons x l ih =>
    intro m
    have ih := ih fun y hy => h y (List.mem_cons_of_mem x hy)
    cases hp : p x with
    | true =>
      rw [List.filter_cons_of_pos hp, List.foldl_cons, ih, hmax]
      rfl
    | false =>
      have hx : maxByte m (f x) = m := by
        refine BitVec.eq_of_toNat_eq ?_
        rw [maxByte_toNat, h x List.mem_cons_self hp]
        exact Nat.max_eq_left (Nat.zero_le _)
      rw [List.filter_cons_of_neg (by rw [hp]; decide), List.foldl_cons, ih, hx]

/-! ### The pair taken (R27, R34) -/

/-- What the other bindings of a channel ask for, those on the signal aside (R34). -/
def State.asked (s : State) (n : Byte) (c : Channel) : Byte :=
  ((s.bind.bindings.filter fun x => x.target == c && x.source != n).map fun x => (s.evaluate x).present).foldl
    (fun m o => if m.toNat ≤ o.toNat then o else m) 0

/-- R34: the raw request of a channel whose bindings are evaluated anew. -/
theorem State.rawOf_evaluated (c : Channel) (u : State) :
    BindingMap.rawOf { u.bind with bindings := u.bind.bindings.map fun x => if x.target = c then u.evaluate x else x } c
      = (u.bind.bindings.filter fun x => x.target == c).foldl (fun a x => maxByte a (u.evaluate x).present) 0 := by
  have htarget : ∀ x, (if x.target = c then u.evaluate x else x).target = x.target := fun x => by
    split
    · exact (Prod.mk.inj (State.evaluate_key x u)).2
    · rfl
  have hp : ((fun x : Binding => x.target == c) ∘ fun x => if x.target = c then u.evaluate x else x)
      = fun x => x.target == c := by
    funext x
    simp only [Function.comp, htarget]
  unfold BindingMap.rawOf
  dsimp only
  rw [List.filter_map, hp, List.foldl_map]
  refine List.foldl_ext _ _ _ fun a x hx => ?_
  have : x.target = c := by simpa using (List.mem_filter.1 hx).2
  rw [if_pos this]

/-- R27, R34: a pair on a signal that one SWITCH binding names sets its channel's raw request: to FULL at its threshold,
and to what the other bindings ask for below it. -/
theorem execSignal_asks (p : s.Plain) (hm : s.mode ≠ .configuring) (hl : s.mode ≠ .limp) (hb : s.line.busOff = false)
    (ho : sender ≠ s.own) (hmem : b ∈ s.bind.bindings) (hone : ∀ x ∈ s.bind.bindings, x.source = n → x = b)
    (he : ∃ e ∈ s.bind.table, e.signal = n) (hlink : n.toNat < 224) (hn : b.source = n) (hc : b.target = c)
    (hmode : b.mode = .switch) (hmask : inMask b.mask sender = true) :
    ∃ (u : State) (w : Byte), exec (.signal sender [(n, v)]) s = .next (u.setRaw c w).echoed
      ∧ (b.threshold.toNat ≤ v.toNat → w = 255) ∧ (v.toNat < b.threshold.toNat → w = s.asked n c)
      ∧ (u.chan c = s.chan c ∨ u.chan c = (s.chan c).reloadAutoOff) ∧ (∀ d, d ≠ c → u.chan d = s.chan d)
      ∧ u.mode = s.heardFrame.mode ∧ u.line = s.heardFrame.line ∧ u.sequencer = s.sequencer ∧ u.intents = s.intents
      ∧ u.own = s.own := by
  rw [execSignal_single hm hl hb ho he hmem hn hc hmask fun x hx hxn => by rw [hone x hx hxn, hc]]
  obtain ⟨u, hu⟩ : ∃ u, (if v = s.sourceValue n then s.heardFrame.taken sender n v
    else (s.heardFrame.taken sender n v).notice c) = u := ⟨_, rfl⟩
  rw [hu]
  have hbind : u.bind = (s.heardFrame.taken sender n v).bind := by
    rw [← hu]
    split <;> rfl
  have hrest : u.mode = s.heardFrame.mode ∧ u.line = s.heardFrame.line ∧ u.sequencer = s.heardFrame.sequencer
      ∧ u.intents = s.heardFrame.intents ∧ u.own = s.heardFrame.own ∧ u.wired = s.heardFrame.wired := by
    rw [← hu]
    split <;> exact ⟨rfl, rfl, rfl, rfl, rfl, rfl⟩
  obtain ⟨humode, huline, huseq, huint, huown, huwired⟩ := hrest
  have huc : u.chan c = s.chan c ∨ u.chan c = (s.chan c).reloadAutoOff := by
    rw [← hu]
    split
    · exact .inl (s.heardFrame_chan c)
    · exact .inr ((State.modChan_chan_self _ c _).trans (congrArg _ (s.heardFrame_chan c)))
  have hothers : ∀ d, d ≠ c → u.chan d = s.chan d := fun d hd => by
    rw [← hu]
    split
    · exact s.heardFrame_chan d
    · exact (State.modChan_chan_ne _ hd _).trans (s.heardFrame_chan d)
  have htaken : ∀ d, (u.chan d).echoTaken = (s.chan d).echoTaken := fun d => by
    by_cases e : d = c
    · rw [e]
      rcases huc with h | h <;> rw [h]
      rw [ChannelRecord.reloadAutoOff_eq]
    · rw [hothers d e]
  have hbs : u.bind.bindings = s.bind.bindings := by
    rw [hbind]
    show s.heardFrame.bind.bindings = _
    rw [State.heardFrame_bind]
  -- what each binding shows
  obtain ⟨x, hx, hxv, hxp, hxa, hxt⟩ := entry_takenTable (sender := sender) (n := n) (v := v) s.heardFrame.bind
    (by rwa [State.heardFrame_bind])
  have hself : (u.evaluate b).present = if b.threshold.toNat ≤ v.toNat then 255 else 0 := by
    rw [State.evaluate_of_entry (hn ▸ hlink) (by rw [hbind, hn]; exact hx) hxv hxp hxa hxt hmask]
    dsimp only
    rw [BindingMode.output_eq, hmode]
  have hother : ∀ y, y.source ≠ n → u.evaluate y = s.evaluate y := fun y hy => by
    refine State.evaluate_congr ?_ (huwired.trans (State.heardFrame_wired s)) htaken
    rw [hbind]
    exact (entry_takenTable_ne s.heardFrame.bind hy).trans (by rw [State.heardFrame_bind])
  have hre : u.reevaluate c = (u.setBindings (u.bind.bindings.map fun b => if b.target = c then u.evaluate b else b)).setRaw c
      ((u.bind.bindings.filter fun x => x.target == c).foldl (fun a x => maxByte a (u.evaluate x).present) 0) := by
    have ht := State.touches_setRaw (c := c)
      (s := u.setBindings (u.bind.bindings.map fun b => if b.target = c then u.evaluate b else b))
      (by show u.sequencer.queue = []; rw [huseq, State.heardFrame_sequencer]; exact p.noQueue)
    unfold State.reevaluate
    dsimp only
    rw [State.handSlots_of_noQueue (ht _).noQueue]
    exact congrArg (fun w => State.setRaw c w _) (State.rawOf_evaluated c u)
  obtain ⟨y, hy⟩ : ∃ y, u.setBindings (u.bind.bindings.map fun b => if b.target = c then u.evaluate b else b) = y := ⟨_, rfl⟩
  obtain ⟨w, hw⟩ : ∃ w, (u.bind.bindings.filter fun x => x.target == c).foldl (fun a x => maxByte a (u.evaluate x).present) 0 = w :=
    ⟨_, rfl⟩
  have hplain : y.Plain := by
    rw [← hy]
    refine ⟨fun z hz => ?_, ?_⟩
    · obtain ⟨x, hx, rfl⟩ := List.mem_map.1 hz
      have hx := p.noFollower x (hbs ▸ hx)
      split
      · rw [(Prod.mk.inj (State.evaluate_key x u)).1]
        exact hx
      · exact hx
    · show u.sequencer.queue = []
      rw [huseq, State.heardFrame_sequencer]
      exact p.noQueue
  have hyu : y.mode = u.mode ∧ y.line = u.line ∧ y.sequencer = u.sequencer ∧ y.intents = u.intents ∧ y.own = u.own
      ∧ ∀ d, y.chan d = u.chan d := by
    rw [← hy]
    exact ⟨rfl, rfl, rfl, rfl, rfl, fun _ => rfl⟩
  obtain ⟨hymode, hyline, hyseq, hyint, hyown, hychan⟩ := hyu
  rw [hre, hy, hw, (State.touches_setRaw hplain.noQueue w).settle hplain]
  refine ⟨y, w, rfl, fun hv => ?_, fun hv => ?_, by rwa [hychan], fun d hd => (hychan d).trans (hothers d hd),
    hymode.trans humode, hyline.trans huline, (hyseq.trans huseq).trans (State.heardFrame_sequencer s),
    (hyint.trans huint).trans (State.heardFrame_intents s), (hyown.trans huown).trans (State.heardFrame_own s)⟩
  · rw [← hw]
    refine foldl_maxByte_full _ (List.mem_filter.2 ⟨hbs ▸ hmem, by simp [hc]⟩) ?_
    rw [hself, if_pos hv]
  · rw [← hw, hbs, foldl_maxByte_filter _ (fun x => x.source != n) _ (fun x hx hxn => ?_), List.filter_filter]
    · unfold State.asked
      refine congrArg (List.foldl _ 0) ?_
      refine (congrArg (List.map _) (List.filter_congr fun x _ => Bool.and_comm _ _)).trans ?_
      refine List.map_congr_left fun x hx => ?_
      have hxn := (List.mem_filter.1 hx).2
      rw [Bool.and_eq_true, bne_iff_ne] at hxn
      rw [hother x hxn.2]
    · have hxb := hone x (List.mem_filter.1 hx).1 (by simpa using hxn)
      rw [hxb, hself, if_neg (Nat.not_le.2 hv)]

/-! ### A rise (R11, R12, R85) -/

theorem ChannelConfig.dutyFor_full (k : ChannelConfig) : k.dutyFor 255 = 255 := by
  unfold ChannelConfig.dutyFor
  rw [if_neg (by decide)]
  cases k.dutyMode with
  | pwm =>
    refine BitVec.eq_of_toNat_eq ?_
    have h255 : (255 : Byte).toNat = 255 := rfl
    have := k.minDuty.isLt
    rw [maxByte_toNat, h255]
    omega
  | slowCycle => rfl

/-- R5: what an entry leaves of the request. -/
def ChannelRecord.request (r : ChannelRecord) : Byte × Byte × Byte := (r.raw, r.eff, r.duty)

theorem ChannelRecord.stays_request : ChannelRecord.Stays ChannelRecord.request := by
  refine ⟨fun _ _ => rfl, fun _ => rfl, fun _ _ => rfl, fun _ _ => rfl, fun k r => ?_⟩
  unfold ChannelRecord.retryStop
  dsimp only
  split <;> rfl

/-- R79: an entry to STARTING with no channel waiting leaves the slots. -/
theorem State.startChannel_sequencer (hq : s.sequencer.queue = []) (hh : (s.chan c).prot.hot = false) :
    (s.startChannel c).sequencer = s.sequencer := by
  have h1 : (s.enter c (·.toStarting)).sequencer = s.sequencer := by
    rw [State.enter_sequencer]
    unfold State.dropClaims
    dsimp only
    rw [State.modChan_chan_self]
    show (⟨s.sequencer.slot0, s.sequencer.slot1, s.sequencer.queue.filter (· != c)⟩ : StartSequencer) = _
    rw [hq, List.filter_nil, ← hq]
  have hc : (s.enter c (·.toStarting)).chan c = (s.chan c).toStarting := State.enter_chan_self c _ s
  unfold State.startChannel
  dsimp only
  rw [hc, if_neg (by rw [show (s.chan c).toStarting.prot.hot = false from hh]; decide), h1]

/-- R12, R165: an announcement over an empty queue. -/
theorem State.announce_empty (hm : s.mode ≠ .clashed) (hq : s.line.queue = []) (hs : (s.chan c).state ≠ .pending) :
    (s.announce c).line.queue = [⟨.status c, 0, none⟩, ⟨s.intentOf c, 0, none⟩] := by
  obtain ⟨w, hw⟩ : ∃ w, s.enter c (·.idle .pending) = w := ⟨_, rfl⟩
  have hwm : w.mode = s.mode := by rw [← hw, State.enter_mode]
  have hwq : w.line.queue = [⟨.status c, 0, none⟩] := by
    obtain ⟨x, hx⟩ : ∃ x, (s.modChan c (·.idle .pending)).dropClaims c = x := ⟨_, rfl⟩
    have hxq : x.line.queue = [] := by rw [← hx]; exact hq
    have hxs : (x.chan c).state = .pending := by rw [← hx, State.dropClaims_chan, State.modChan_chan_self]; rfl
    have hroom : x.offer (.status c) = some (x.withFrame (.status c)) :=
      State.offer_of_room rfl (State.discards_of_kind (Nat.succ_ne_zero 4) rfl) (by rw [State.txQueue, hxq]; rfl)
    rw [← hw]
    unfold State.enter
    dsimp only
    rw [hx, hxs, if_neg (by simpa using Ne.symm hs)]
    unfold State.requestStatus
    rw [State.txQueue, hxq, if_neg (by simp), State.send, hroom]
    show x.line.queue ++ _ = _
    rw [hxq]
    rfl
  have hroom : w.offer (s.intentOf c) = some (w.withFrame (s.intentOf c)) := by
    refine State.offer_of_room rfl ?_ (by rw [State.txQueue, hwq]; rfl)
    simp [State.discards, hwm, hm, State.intentOf, TxFrame.isDraw, TxFrame.kind]
  rw [State.announce_some (by rw [hw]; exact hroom)]
  show w.line.queue ++ _ = _
  rw [hwq]
  rfl

/-- R12, R160: an announcement over a full queue. -/
theorem State.announce_full (hm : s.mode ≠ .clashed) (hf : s.Full) :
    ((s.announce c).chan c).state = .deferred ∧ (s.announce c).line.queue = s.line.queue := by
  have hfull := (State.appends_enter c (·.idle .pending) s).keepsFull hf
  obtain ⟨-, h1, h2, -⟩ := (State.announce_outcome hm c).resolve_left fun h => h.1 hfull
  exact ⟨by rw [h1]; rfl, h2.full hf⟩

/-- R10, R11, R12, R22: the raw request of an OFF channel rises to FULL. -/
theorem State.setRaw_full {u : State} (hr : u.chan c = r) (hs : r.state = .off) (hraw : r.raw = 0) (heff : r.eff = 0)
    (hhold : r.hold = false) (hov : r.override = none) (hth : r.throttled = false) (hseq : u.sequencer.queue = [])
    (hc : u.mode ≠ .configuring) (hl : u.mode ≠ .limp) :
    let t := u.setRaw c 255
    let q := (t.chan c).followed
    q.raw = 255 ∧ q.eff = 255 ∧ q.duty = 255
      ∧ (r.cfg.tier = 0 → r.prot.hot = false → q.state = .starting ∧ q.booking = r.cfg.bookingFor 255 false
          ∧ q.span = (if r.cfg.accepted.filament then 102 else 255) ∧ q.pwmPos = 0 ∧ t.sequencer = u.sequencer
          ∧ q.autoOff = (if r.cfg.autoOffTime = 0 then none else some (r.cfg.autoOffTime * 10000))
          ∧ q.start = some ⟨r.cfg.inrushWindow, r.cfg.inrushWindow * 10, 0,
              if r.cfg.accepted.filament then 64 else 255, [], 0, [], [], false, r.prot.sampled⟩)
      ∧ (r.cfg.tier = 0 → r.prot.hot = true → r.StoppedHot q)
      ∧ (r.cfg.tier ≠ 0 → u.mode ≠ .running → q.state = .deferred ∧ q.booking = 0)
      ∧ (r.cfg.tier ≠ 0 → u.mode = .running → u.line.queue = [] → q.state = .pending ∧ q.booking = 0
          ∧ t.line.queue.map (·.frame)
              = [.status c, .intent c r.cfg.tier (r.cfg.bookingFor 255 false) r.cfg.inrushWindow])
      ∧ (r.cfg.tier ≠ 0 → u.mode = .running → u.Full → q.state = .deferred ∧ t.line.queue = u.line.queue) := by
  have heffective : (r.withRaw 255).effectiveRequest = 255 := by
    rw [ChannelRecord.effectiveRequest_none (r := r.withRaw 255) hov]
    show (if (r.hold && _) = true then (0 : Byte) else 255) = 255
    rw [hhold]
    rfl
  have hset : u.setRaw c 255 = (u.risen c (ChannelRecord.withRaw 255)).beginRequest c := by
    rw [State.setRaw_ne (by rw [hr, hraw]; decide)]
    exact State.ask_rise (by rw [hr, heffective]; decide) (by rw [hr]; exact heff) (by rw [hr]; exact hs)
  have hz : (u.risen c (ChannelRecord.withRaw 255)).chan c = (r.withRaw 255).withRequest 255 := by
    rw [State.risen_chan, hr, heffective]
  have hzs : (u.risen c (ChannelRecord.withRaw 255)).mode = u.mode ∧ (u.risen c (ChannelRecord.withRaw 255)).line = u.line
      ∧ (u.risen c (ChannelRecord.withRaw 255)).sequencer = u.sequencer := ⟨rfl, rfl, rfl⟩
  obtain ⟨r1, hr1⟩ : ∃ r1, (r.withRaw 255).withRequest 255 = r1 := ⟨_, rfl⟩
  have hduty : r1.duty = 255 := by
    rw [← hr1]
    exact ChannelConfig.dutyFor_full r.cfg
  have hreq : r1.request = (255, 255, 255) := by
    unfold ChannelRecord.request
    rw [hduty, ← hr1]
    rfl
  have hfields : r1.cfg = r.cfg ∧ r1.prot = r.prot ∧ r1.throttled = false ∧ r1.state = .off := by
    rw [← hr1]
    exact ⟨rfl, rfl, hth, hs⟩
  obtain ⟨hcfg, hprot, hthr, hst⟩ := hfields
  dsimp only
  rw [hset]
  generalize u.risen c (ChannelRecord.withRaw 255) = z at hz hzs ⊢
  obtain ⟨hzm, hzl, hzq⟩ := hzs
  rw [hr1] at hz
  have hrequest := State.holds_beginRequest ChannelRecord.stays_request c z c
  rw [hz, hreq] at hrequest
  obtain ⟨h1, hrequest⟩ := Prod.mk.inj hrequest
  obtain ⟨h2, h3⟩ := Prod.mk.inj hrequest
  have hstart : r.cfg.tier = 0 → z.beginRequest c = z.startChannel c := fun ht =>
    State.beginRequest_tier0 (by rwa [hzm]) (by rw [hz, hcfg]; exact ht)
  have hrun : r.cfg.tier ≠ 0 → u.mode = .running → z.beginRequest c = z.announce c := fun ht hm =>
    State.beginRequest_running (hzm.trans hm) (by rw [hz, hcfg]; exact ht)
  have hclashed : u.mode = .running → z.mode ≠ .clashed := fun hm => by rw [hzm, hm]; decide
  refine ⟨h1, h2, h3, fun ht hh => ?_, fun ht hh => ?_, fun ht hm => ?_, fun ht hm hq => ?_, fun ht hm hf => ?_⟩
  · have hcold := State.startChannel_chan_self (s := z) (c := c) (by rw [hz, hprot]; exact hh)
    have hspan : (max 102 (r1.cfg.profileDuty r1.cfg.inrushWindow r1.duty 0).toNat)
        = if r.cfg.accepted.filament then 102 else 255 := by
      rw [ChannelConfig.profileDuty_first, hduty, hcfg]
      cases r.cfg.accepted.filament <;> rfl
    have hprofile : r1.cfg.profileDuty r1.cfg.inrushWindow r1.duty 0 = if r.cfg.accepted.filament then 64 else 255 := by
      refine BitVec.eq_of_toNat_eq ?_
      rw [ChannelConfig.profileDuty_first, hduty, hcfg]
      cases r.cfg.accepted.filament <;> rfl
    rw [hstart ht, hcold, hz, State.startChannel_sequencer (by rw [hzq, hseq]) (by rw [hz, hprot]; exact hh)]
    refine ⟨rfl, ?_, hspan, rfl, hzq, ?_, ?_⟩
    · show r1.cfg.bookingFor r1.duty r1.throttled = _
      rw [hcfg, hduty, hthr]
    · show r1.cfg.autoOffFull = _
      rw [ChannelConfig.autoOffFull_eq, hcfg]
    · show some (⟨r1.cfg.inrushWindow, r1.cfg.inrushWindow * 10, 0, r1.cfg.profileDuty r1.cfg.inrushWindow r1.duty 0, [], 0, [],
        [], false, r1.prot.sampled⟩ : StartRecord) = _
      rw [hprofile, hcfg, hprot]
  · have hhot := State.startChannel_hot (s := z) (c := c) (by rw [hz, hprot]; exact hh)
    rw [hstart ht]
    rw [hz, ← hr1] at hhot
    exact hhot
  · have hdefer : u.mode = .listening ∨ u.mode = .isolated ∨ u.mode = .clashed := by
      cases hu : u.mode with
      | listening => exact .inl rfl
      | isolated => exact .inr (.inl rfl)
      | clashed => exact .inr (.inr rfl)
      | running => exact absurd hu hm
      | configuring => exact absurd hu hc
      | limp => exact absurd hu hl
    rw [State.beginRequest_defers (by rwa [hzm]) (by rw [hz, hcfg]; exact ht), State.enter_chan_self]
    exact ⟨rfl, rfl⟩
  · rw [hrun ht hm]
    have hq' : z.line.queue = [] := by rw [hzl, hq]
    rw [(State.announce_few (hclashed hm) (by rw [hq']; decide) c).1,
      State.announce_empty (hclashed hm) hq' (by rw [hz, hst]; decide), State.intentOf_eq, hz]
    refine ⟨rfl, rfl, ?_⟩
    show [TxFrame.status c, .intent c r1.cfg.tier (r1.cfg.bookingFor r1.duty false) r1.cfg.inrushWindow] = _
    rw [hcfg, hduty]
  · rw [hrun ht hm]
    obtain ⟨h4, h5⟩ := State.announce_full (c := c) (hclashed hm) ((State.full_congr (by rw [hzl])).2 hf)
    exact ⟨h4, h5.trans (by rw [hzl])⟩

/-! ### A level change, and a fall (R10, R13 to R21) -/

theorem ChannelRecord.effectiveRequest_raw (h : r.override = none) (w : Byte) :
    (r.withRaw w).effectiveRequest = if (r.hold && w != 0) = true then 0 else w :=
  ChannelRecord.effectiveRequest_none (r := r.withRaw w) h

/-- R10: the raw request changes to another above 0. -/
theorem State.setRaw_level {u : State} {w : Byte} (hr : u.chan c = r) (hov : r.override = none) (hraw : r.raw ≠ 0)
    (hw : w ≠ 0) (heff : r.eff = r.effectiveRequest) :
    let q := ((u.setRaw c w).chan c).followed
    q.raw = w ∧ q.hold = r.hold ∧ q.state = r.state ∧ q.eff = (if r.hold then 0 else w)
      ∧ (r.hold = false → r.raw ≠ w → q.duty = r.cfg.dutyFor w
          ∧ q.booking = if r.state.books then r.cfg.bookingFor (r.cfg.dutyFor w) r.throttled else r.booking)
      ∧ (r.hold = true ∨ r.raw = w → q.duty = r.duty ∧ q.booking = r.booking) := by
  rw [ChannelRecord.effectiveRequest_none hov] at heff
  dsimp only
  by_cases hsame : w = r.raw
  · rw [State.setRaw_same (by rwa [hr]), hr]
    refine ⟨hsame.symm, rfl, rfl, ?_, fun _ hne => absurd hsame.symm hne, fun _ => ⟨rfl, rfl⟩⟩
    rw [hsame]
    exact heff
  · have hwb : (w != 0) = true := bne_iff_ne.2 hw
    have hnew := ChannelRecord.effectiveRequest_raw hov w
    rw [hwb, Bool.and_true] at hnew
    have hhold : (r.withRaw w).hold = r.hold := by
      show (r.hold && w != 0) = _
      rw [hwb, Bool.and_true]
    rw [State.setRaw_ne (by rwa [hr])]
    cases hh : r.hold with
    | true =>
      rw [hh] at heff hnew
      have hstay : ((u.modChan c (·.withRaw w)).applyRequest c).chan c = r.withRaw w := by
        rw [State.applyRequest_same, State.modChan_chan_self, hr]
        rw [State.modChan_chan_self, hr, hnew]
        exact heff.symm
      rw [hstay]
      exact ⟨rfl, hhold.trans hh, rfl, heff, fun h => (by cases h), fun _ => ⟨rfl, rfl⟩⟩
    | false =>
      rw [hh] at heff hnew
      replace heff : r.eff = r.raw := heff
      replace hnew : (r.withRaw w).effectiveRequest = w := hnew
      have hlevel := State.ask_level (s := u) (c := c) (f := ChannelRecord.withRaw w)
      rw [hr, hnew] at hlevel
      have hlevel := hlevel (by rw [show (r.withRaw w).eff = r.raw from heff]; exact hraw) hw
      rw [if_neg (by rw [show (r.withRaw w).eff = r.raw from heff]; exact hsame)] at hlevel
      rw [hlevel]
      exact ⟨rfl, hhold.trans hh, rfl, rfl, fun _ _ => ⟨rfl, rfl⟩, fun h => (h.elim (fun h => by cases h)
        fun h => absurd h.symm hsame)⟩

/-- R13: what a request that falls in PENDING undoes. -/
theorem State.undoAnnouncement_sent (hn : ∀ y ∈ s.line.queue, y.frame.isIntentOf c = false)
    (ho : ∃ e ∈ s.intents.entries, s.isOwnEntry c e = true) :
    (s.undoAnnouncement c).intents.entries = s.intents.entries.filter (fun e => !s.isOwnEntry c e)
      ∧ (s.mode ≠ .clashed → s.queued (fun x => x.frame.kind != 1) < 5 → .withdraw c ∈ (s.undoAnnouncement c).kind0) := by
  have hany : (s.txQueue.any fun e => e.frame.isIntentOf c) = false :=
    List.any_eq_false.2 fun y hy => by rw [hn y hy]; decide
  have hown : s.intents.entries.any (s.isOwnEntry c) = true := List.any_eq_true.2 ho
  obtain ⟨w, hw⟩ : ∃ w, s.setEntries (s.intents.entries.filter fun e => !s.isOwnEntry c e) = w := ⟨_, rfl⟩
  have hundo : s.undoAnnouncement c = w.send (.withdraw c) := by
    unfold State.undoAnnouncement
    rw [hany, hown, if_neg (by decide), if_pos rfl, hw]
  have hwe : w.intents.entries = s.intents.entries.filter fun e => !s.isOwnEntry c e := by rw [← hw]; rfl
  have hwm : w.mode = s.mode := by rw [← hw]; rfl
  have hwq : w.line.queue = s.line.queue := by rw [← hw]; rfl
  rw [hundo]
  refine ⟨?_, fun hm hq => ?_⟩
  · obtain ⟨q, e⟩ := State.send_eq (.withdraw c) w
    rw [e]
    exact hwe
  · rcases State.offer_intent (s := w) (x := .withdraw c) rfl (by rwa [hwm]) with ⟨hf, -⟩ | ⟨-, t, ho, ha⟩
    · exact absurd ((State.full_congr hwq).1 hf).1 (Nat.not_le.2 hq)
    · rw [show w.send (.withdraw c) = t by rw [State.send, ho]; rfl, ha.frames]
      exact List.mem_append_right _ (List.mem_singleton_self _)

/-- R13 to R21, R153: the raw request falls to 0. -/
theorem State.setRaw_zero {u : State} (hr : u.chan c = r) (hov : r.override = none) (hraw : r.raw ≠ 0)
    (heff : r.eff = r.effectiveRequest) (hseq : u.sequencer.queue = []) :
    let t := u.setRaw c 0
    let q := (t.chan c).followed
    q.raw = 0 ∧ q.eff = 0 ∧ q.hold = false
      ∧ (r.hold = true ∨ r.state.falls = false → q.state = r.state)
      ∧ (r.hold = false → q.duty = 0 ∧ (r.state.falls = true → q.state = .off ∧ q.booking = 0 ∧ q.span = 0 ∧ q.autoOff = none))
      ∧ (r.hold = false → r.state = .pending → ∃ f : ChannelRecord → ChannelRecord, ∃ z : State, z.line = u.line
          ∧ z.intents = u.intents ∧ z.own = u.own ∧ z.mode = u.mode ∧ t = (z.undoAnnouncement c).enter c f) := by
  rw [ChannelRecord.effectiveRequest_none hov] at heff
  have hnew : (r.withRaw 0).effectiveRequest = 0 := by
    rw [ChannelRecord.effectiveRequest_raw hov]
    exact ite_self _
  have hhold : (r.withRaw 0).hold = false := Bool.and_false _
  have h1 : (u.modChan c (·.withRaw 0)).chan c = r.withRaw 0 := by rw [State.modChan_chan_self, hr]
  dsimp only
  rw [State.setRaw_ne (by rw [hr]; exact Ne.symm hraw)]
  cases hh : r.hold with
  | true =>
    rw [hh] at heff
    have hstay : ((u.modChan c (·.withRaw 0)).applyRequest c).chan c = r.withRaw 0 := by
      rw [State.applyRequest_same, h1]
      rw [h1, hnew]
      exact heff.symm
    rw [hstay]
    exact ⟨rfl, heff, hhold, fun _ => rfl, fun h => (by cases h), fun h => (by cases h)⟩
  | false =>
    rw [hh] at heff
    have heff : (r.withRaw 0).eff ≠ 0 := by
      rw [show (r.withRaw 0).eff = r.raw from heff]
      exact hraw
    have hfall := State.applyRequest_fall_chan (s := u.modChan c (·.withRaw 0)) (c := c) hseq (by rw [h1, hnew]) (by rw [h1]; exact heff)
    rw [h1] at hfall
    rw [hfall]
    cases hs : r.state.falls with
    | true =>
      rw [if_pos (show (r.withRaw 0).state.falls = true from hs)]
      refine ⟨rfl, rfl, hhold, fun h => h.elim (fun h => by cases h) fun h => (by cases h), fun _ => ⟨rfl, fun _ => ⟨rfl, rfl, rfl, rfl⟩⟩,
        fun _ hp => ?_⟩
      rw [State.applyRequest_fall (by rw [h1, hnew]) (by rw [h1]; exact heff)]
      refine ⟨(·.idle .off), (u.modChan c (·.withRaw 0)).modChan c (·.withRequest 0), rfl, rfl, rfl, rfl, ?_⟩
      unfold State.requestFall
      rw [State.modChan_chan_self, h1, show ((r.withRaw 0).withRequest 0).state = .pending from hp]
    | false =>
      rw [if_neg (by rw [show (r.withRaw 0).state.falls = false from hs]; decide)]
      refine ⟨rfl, rfl, hhold, fun _ => rfl, fun _ => ⟨rfl, fun h => (by cases h)⟩, fun _ hp => ?_⟩
      rw [hp] at hs
      cases hs

theorem ChannelState.falls_iff {x : ChannelState} : x.falls = true ↔ x = .pending ∨ x = .deferred ∨ x = .slotwait
    ∨ x = .starting ∨ x = .on ∨ x = .cycling ∨ x = .shed := by
  cases x <;> simp [ChannelState.falls]

/-- R52: the own entries of a channel, as the Intent List tells them. -/
theorem State.isOwnEntry_eq (s : State) (c : Channel) (y : IntentEntry) :
    s.isOwnEntry c y = (y.station == s.own && y.channel.val == c.val) := by
  rw [Bool.eq_iff_iff, State.isOwnEntry_iff]
  simp

theorem State.heardFrame_queue (h : s.mode ≠ .isolated) : s.heardFrame.line.queue = s.line.queue := by
  unfold State.heardFrame
  rw [if_neg h]

theorem State.mem_heardFrame {x : TxEntry} (h : x ∈ s.heardFrame.line.queue) : ∃ y ∈ s.line.queue, y.frame = x.frame := by
  have hx : x.frame ∈ s.txQueue.map (·.frame) := s.heardFrame_frames ▸ List.mem_map_of_mem h
  exact List.mem_map.1 hx

end Sys2Proof.Machine

/-- Settles O24. -/
theorem switchSignalActs : Obligations.SwitchSignalActs := by
  open Sys2Proof.Machine Sys2Proof in
  intro sender n v c b e s hm hl hbus ho p hmem hone he hen hlink hn hc hmode hmask hov
  obtain ⟨u, w, hexec, hfull, hasked, huc, hothers, humode, huline, huseq, huint, huown⟩ :=
    execSignal_asks p hm hl hbus ho hmem hone ⟨e, he, hen⟩ hlink hn hc hmode hmask (v := v)
  obtain ⟨a, ha⟩ : ∃ a, u.chan c = { s.chan c with autoOff := a } := by
    rcases huc with h | h
    · exact ⟨_, h⟩
    · rw [ChannelRecord.reloadAutoOff_eq] at h
      exact ⟨_, h⟩
  have hq : u.sequencer.queue = [] := by rw [huseq, p.noQueue]
  have hrest : ∀ w, ∀ d, d ≠ c → (u.setRaw c w).echoed.chan d = (s.chan d).followed := fun w d hd => by
    rw [(State.touches_setRaw hq w).echoed_others hd, hothers d hd]
  refine ⟨fun hv hs hraw heff hhold hth => ?_, fun hv hne hraw heff => ?_, fun hv hzero hraw heff => ?_⟩
  · rw [hfull hv] at hexec
    have hu : u.chan c = s.chan c := by
      rcases huc with h | h
      · exact h
      · rw [h, ChannelRecord.reloadAutoOff, hs]
        exact if_neg (by decide)
    obtain ⟨h1, h2, h3, hcold, hhot, hdefer, hempty, hfullq⟩ := State.setRaw_full hu hs hraw heff hhold hov hth hq
      (by rw [humode]; exact State.heardFrame_ne_configuring hm) (by rw [humode]; exact State.heardFrame_ne_limp hl)
    have hrunning : u.mode = .running ↔ s.mode = .running := by rw [humode, State.heardFrame_running]
    have hqueue : s.mode = .running → u.line.queue = s.line.queue := fun h => by
      rw [huline, State.heardFrame_queue (by rw [h]; decide)]
    refine ⟨_, hexec, ?_⟩
    dsimp only
    rw [State.echoed_chan]
    refine ⟨h1, h2, h3, fun ht hh => ?_, hhot, fun ht h => hdefer ht (mt hrunning.1 h), fun ht h h0 => ?_,
      fun ht h h5 h0 => ?_, hrest 255⟩
    · obtain ⟨k1, k2, k3, k4, k5, k6, k7⟩ := hcold ht hh
      exact ⟨k1, k2, k3, k4, k5.trans huseq, k6, k7⟩
    · exact hempty ht (hrunning.2 h) ((hqueue h).trans h0)
    · obtain ⟨k1, k2⟩ := hfullq ht (hrunning.2 h) ((State.full_congr (hqueue h)).2 ⟨h5, h0⟩)
      exact ⟨k1, k2.trans (hqueue h)⟩
  · rw [hasked hv] at hexec
    refine ⟨_, hexec, ?_⟩
    dsimp only
    rw [State.echoed_chan]
    obtain ⟨h1, h2, h3, h4, h5, h6⟩ := State.setRaw_level (w := s.asked n c) ha hov hraw hne heff
    exact ⟨h1, h2, h3, h4, h5, h6, hrest _⟩
  · rw [hasked hv, show s.asked n c = 0 from hzero] at hexec
    refine ⟨_, hexec, ?_⟩
    dsimp only
    rw [State.echoed_chan]
    obtain ⟨h1, h2, h3, h4, h5, h6⟩ := State.setRaw_zero ha hov hraw heff hq
    have hends := fun x => (ChannelState.falls_iff (x := x))
    refine ⟨h1, h2, h3, fun h => h4 (h.imp_right fun h => ?_), fun h => ⟨(h5 h).1, fun he => (h5 h).2 ((hends _).2 he)⟩,
      fun hh hp => ?_, hrest 0⟩
    · exact Bool.eq_false_iff.2 (mt (hends _).1 h)
    · obtain ⟨f, z, hzl, hzi, hzo, hzm, ht⟩ := h6 hh hp
      have hundone := (State.undoAnnouncement_undone c z).later (State.thins_enter c f _) fun hn =>
        (State.thins_undoAnnouncement c z).noIntent hn
      have hzline : z.line = s.heardFrame.line := hzl.trans huline
      have hzown : z.own = s.own := hzo.trans huown
      have hzint : z.intents = s.intents := hzi.trans huint
      rw [ht]
      refine ⟨fun x hx => TxFrame.isIntentOf_eq_false.1 (hundone.queued x hx), fun hn ⟨y, hy, hyo⟩ => ?_⟩
      obtain ⟨hentries, htold⟩ := State.undoAnnouncement_sent (s := z) (c := c) (fun x hx => by
        rw [hzline] at hx
        obtain ⟨y, hy, e⟩ := State.mem_heardFrame hx
        rw [← e]
        exact TxFrame.isIntentOf_eq_false.2 (hn y hy)) ⟨y, by rwa [hzint], State.isOwnEntry_iff.2 (by rwa [hzown])⟩
      have henter : ((z.undoAnnouncement c).enter c f).intents = (z.undoAnnouncement c).intents := by
        rcases State.enter_cases c f (z.undoAnnouncement c) with h | h <;> rw [h] <;> rfl
      refine ⟨?_, fun hcl h5 => ?_⟩
      · rw [State.echoed_intents, henter, hentries, hzint]
        refine List.filter_congr fun y _ => ?_
        rw [State.isOwnEntry_eq, hzown]
      · have hzm' : z.mode ≠ .clashed := by
          rw [hzm, humode, State.heardFrame_mode]
          split
          · decide
          · exact hcl
        have hz5 : z.queued (fun x => x.frame.kind != 1) < 5 := by
          have := s.heardFrame_queued fun f => f.kind != 1
          unfold State.queued at this h5 ⊢
          rw [hzline, this]
          exact h5
        exact (State.mem_kind0.1 ((State.appends_enter c f _).keeps (htold hzm' hz5))).2
end

-- ==== Proofs: clash ====
section
/-! PROOFS. Clash frames, and what a clash discards (R156 to R158): O48. -/

namespace Sys2Proof.Machine

variable {s t u : State} {c d : Channel} {x : TxFrame} {i : Instr} {st : Station}

/-! ### No discarded frame joins the queue (R157) -/

/-- A frame that `s` discards is discarded in `t`, and waits there only if it waited in `s`. -/
def State.Bars (s t : State) : Prop :=
  ∀ x, s.discards x = true → t.discards x = true
    ∧ ∀ y ∈ t.line.queue, y.frame = x → ∃ z ∈ s.line.queue, z.frame = x

theorem State.Bars.refl (s : State) : s.Bars s := fun _ h => ⟨h, fun y hy e => ⟨y, hy, e⟩⟩

theorem State.Bars.trans (h : s.Bars t) (k : t.Bars u) : s.Bars u := fun x hx => by
  obtain ⟨h1, h2⟩ := h x hx
  obtain ⟨k1, k2⟩ := k x h1
  refine ⟨k1, fun y hy e => ?_⟩
  obtain ⟨z, hz, e⟩ := k2 y hy e
  exact h2 z hz e

theorem State.discards_congr (hm : t.mode = s.mode) (hk : t.line.clashMark = s.line.clashMark) (x : TxFrame) :
    t.discards x = s.discards x := by
  unfold State.discards
  rw [hm, hk]

theorem State.Acts.discards (h : s.Acts t) (x : TxFrame) : t.discards x = s.discards x :=
  State.discards_congr h.mode h.clashMark x

/-- R157: activity that lets no discarded frame join the queue. -/
theorem State.Acts.bars (h : s.Acts t)
    (hq : ∀ y ∈ t.line.queue, s.discards y.frame = false ∨ ∃ z ∈ s.line.queue, z.frame = y.frame) :
    s.Bars t := fun x hx => by
  refine ⟨(h.discards x).trans hx, fun y hy e => ?_⟩
  rcases hq y hy with hd | ⟨z, hz, e'⟩
  · rw [e, hx] at hd
    cases hd
  · exact ⟨z, hz, e'.trans e⟩

theorem State.Acts.bars_of_queue (h : s.Acts t) (hq : t.line.queue = s.line.queue) : s.Bars t :=
  h.bars fun y hy => .inr ⟨y, hq ▸ hy, rfl⟩

theorem State.bars_setQueue {q : List TxEntry} (h : q.Sublist s.line.queue) : s.Bars (s.setQueue q) :=
  (s.acts_setQueue q).bars fun y hy => .inr ⟨y, h.subset hy, rfl⟩

theorem State.bars_setEntries (es : List IntentEntry) (s : State) : s.Bars (s.setEntries es) :=
  (s.acts_setEntries es).bars_of_queue rfl

theorem State.bars_setChan (c : Channel) (r : ChannelRecord) (s : State) : s.Bars (s.setChan c r) :=
  (s.acts_setChan c r).bars_of_queue rfl

theorem State.bars_sequencer (q : StartSequencer) (s : State) : s.Bars { s with sequencer := q } :=
  (s.acts_sequencer q).bars_of_queue rfl

theorem State.bars_enter (c : Channel) (f : ChannelRecord → ChannelRecord) (s : State) : s.Bars (s.enter c f) := by
  refine (State.acts_enter c f s).bars fun y hy => ?_
  rcases State.enter_txQueue c f s with h | h <;> rw [h] at hy
  · exact .inr ⟨y, hy, rfl⟩
  · rcases List.mem_append.1 hy with hy | hy
    · exact .inr ⟨y, hy, rfl⟩
    · rw [List.mem_singleton.1 hy]
      exact .inl (State.discards_of_kind (Nat.succ_ne_zero 4) rfl)

theorem State.bars_offer (h : s.offer x = some t) : s.Bars t := by
  obtain ⟨hd, -⟩ := State.offer_eq_some h
  obtain ⟨q, hq, -, rfl⟩ := State.offer_queue h
  refine (State.acts_setQueue s _).bars fun y hy => ?_
  rcases List.mem_append.1 hy with hy | hy
  · exact .inr ⟨y, hq.subset hy, rfl⟩
  · rw [List.mem_singleton.1 hy]
    exact .inl hd

theorem State.bars_send (x : TxFrame) (s : State) : s.Bars (s.send x) := by
  unfold State.send
  cases h : s.offer x with
  | none => exact .refl s
  | some t => exact State.bars_offer h

theorem State.bars_announce (c : Channel) (s : State) : s.Bars (s.announce c) := by
  have h1 := State.bars_enter c (·.idle .pending) s
  cases ho : (s.enter c (·.idle .pending)).offer (s.intentOf c) with
  | none =>
    rw [State.announce_none ho]
    exact h1.trans (State.bars_enter c _ _)
  | some t =>
    rw [State.announce_some ho]
    exact h1.trans (State.bars_offer ho)

theorem State.bars_undoAnnouncement (c : Channel) (s : State) : s.Bars (s.undoAnnouncement c) := by
  unfold State.undoAnnouncement
  split
  · exact State.bars_setQueue List.filter_sublist
  · split
    · exact (State.bars_setEntries _ s).trans (State.bars_send _ _)
    · exact .refl s

theorem State.bars_deferPending (c : Channel) (s : State) : s.Bars (s.deferPending c) := by
  unfold State.deferPending
  split
  · exact State.bars_enter c _ s
  · exact .refl s

theorem State.bars_deferFrames (l : List TxEntry) : ∀ s : State, s.Bars (l.foldl State.deferFrame s) := by
  induction l with
  | nil => exact State.Bars.refl
  | cons e l ih =>
    refine fun s => State.Bars.trans ?_ (ih _)
    unfold State.deferFrame
    cases e.frame with
    | intent c => exact State.bars_deferPending c s
    | withdraw _ | draw _ _ | reply _ _ _ | status _ => exact .refl s

theorem State.Move.bars (m : s.Move t) : s.Bars t := by
  have hdropped : ∀ {xs zs : List TxEntry} {e : TxEntry}, s.txQueue = xs ++ e :: zs → (xs ++ zs).Sublist s.line.queue :=
    fun {xs zs e} h => by
      rw [show s.line.queue = xs ++ e :: zs from h]
      exact List.Sublist.append (List.Sublist.refl _) (List.sublist_cons_self _ _)
  cases m with
  | record c => exact State.bars_setChan c _ s
  | request c => exact State.bars_setChan c _ s
  | enter c => exact State.bars_enter c _ s
  | handOver => exact (State.bars_sequencer _ s).trans (State.bars_enter _ _ _)
  | announce c => exact State.bars_announce c s
  | abandon c => exact (State.bars_undoAnnouncement c s).trans (State.bars_enter c _ _)
  | decide c => exact (State.bars_setEntries _ s).trans (State.bars_enter c _ _)
  | loseIntent c h => exact (State.bars_setQueue (hdropped h)).trans (State.bars_deferPending c _)
  | complete c x h =>
    exact (State.bars_setQueue (hdropped h)).trans (State.bars_setEntries _ _)
  | discardIntents =>
    rw [State.discardIntents_eq]
    exact (State.bars_setQueue List.filter_sublist).trans (State.bars_deferFrames _ _)
  | forget => exact State.bars_setEntries _ s
  | send => exact State.bars_send _ s
  | drop h => exact State.bars_setQueue h
  | join => exact State.bars_sequencer _ s
  | free => exact State.bars_sequencer _ s
  | bindings => exact (s.acts_setBindings _).bars_of_queue rfl
  | echoes => exact State.Acts.bars_of_queue rfl rfl
  | echoed => exact s.acts_echoed.bars_of_queue rfl

theorem State.Moves.bars (h : s.Moves t) : s.Bars t := by
  induction h with
  | refl => exact .refl _
  | step _ m ih => exact ih.trans m.bars
  | abort c _ _ _ _ ih ih' => exact (ih.trans ih').trans (State.bars_enter c _ _)

theorem State.discards_iff : s.discards x = true
    ↔ (s.mode = .clashed ∧ x.kind = 0) ∨ (s.mode = .limp ∧ s.line.clashMark = true ∧ x.kind = 1) := by
  simp [State.discards, TxFrame.isDraw, and_assoc]

theorem State.Beside.bars (b : s.Beside t) : s.Bars t := fun x hx => by
  refine ⟨?_, fun y hy e => ?_⟩
  · rw [State.discards_iff] at hx ⊢
    have hm : t.mode = s.mode := b.mode.resolve_right fun h => by
      rcases hx with ⟨e, -⟩ | ⟨e, -⟩ <;> rw [e] at h <;> simp at h
    rw [hm]
    exact hx.imp_right fun ⟨h1, h2, h3⟩ => ⟨h1, b.mark h2, h3⟩
  · obtain ⟨z, hz, e'⟩ := b.frames y hy
    exact ⟨z, hz, e'.trans e⟩

theorem State.Runs.bars (h : s.Runs t) : s.Bars t := by
  induction h with
  | refl => exact .refl _
  | moves _ m ih => exact ih.trans m.bars
  | aside _ b ih => exact ih.trans b.bars

/-- R157: no command lets a discarded frame join the queue. -/
theorem exec_bars (h : exec i s = .next t) (hx : s.discards x = true) {y : TxEntry} (hy : y ∈ t.line.queue)
    (e : y.frame = x) : ∃ z ∈ s.line.queue, z.frame = x := by
  by_cases hi : leavesMode i = false
  · exact ((exec_runs hi h).bars x hx).2 y hy e
  · cases i with
    | resetRelease straps => exact absurd (next_inj h ▸ hy) List.not_mem_nil
    | serviceRestart straps => exact absurd (next_inj h ▸ hy) List.not_mem_nil
    | configurationReadEnd image =>
      have hm : s.mode ≠ .configuring := by
        rw [State.discards_iff] at hx
        rcases hx with ⟨e, -⟩ | ⟨e, -⟩ <;> rw [e] <;> decide
      replace h : execConfigurationReadEnd image s = .next t := h
      unfold execConfigurationReadEnd at h
      rw [if_neg hm] at h
      split at h
      · cases h
      · exact ⟨y, next_inj h ▸ hy, e⟩
    | _ => exact absurd rfl hi

/-! ### A clash frame (R157) -/

theorem State.Acts.lineLoss (h : s.Acts t) : t.line.lineLoss = s.line.lineLoss := by
  rw [← h]
  rfl

/-- R156: every command that is a received frame. -/
theorem exec_of_frameFrom (h : frameFrom i = some st) : ∃ take, exec i s = .next (s.receive st take).settle := by
  cases i with
  | signal _ _ | draw _ _ _ _ _ | intent _ _ _ _ _ | withdraw _ _ | otherFrameReceived _ | clearFault _ _
  | clearEvents _ _ _ | readChannel _ _ | readPeers _ | readEvents _ | override _ _ _ _ | restart _ | unknownCommand _ _ =>
    obtain rfl := Option.some.inj h
    exact ⟨_, rfl⟩
  | _ => cases h

/-- R157: what the clash does at the channels whose INTENTs wait, from the oldest on. -/
theorem State.deferFrames_spec (l : List TxEntry) : ∀ u : State, u.sequencer.queue = [] →
    u.Quiet (l.foldl State.deferFrame u) ∧ (l.foldl State.deferFrame u).intents = u.intents
      ∧ (∀ y ∈ (l.foldl State.deferFrame u).line.queue, y ∈ u.line.queue ∨ ∃ c, y = ⟨.status c, 0, none⟩)
      ∧ ∀ x ∈ l, ∀ c, x.frame.isIntentOf c = true → (u.chan c).state = .pending →
          ((l.foldl State.deferFrame u).chan c).state = .deferred := by
  induction l with
  | nil => exact fun u hq => ⟨.refl hq, rfl, fun y hy => .inl hy, fun x hx => absurd hx List.not_mem_nil⟩
  | cons e l ih =>
    intro u hq
    obtain ⟨v, hv⟩ : ∃ v, u.deferFrame e = v := ⟨_, rfl⟩
    have hstep : u.Quiet v ∧ v.intents = u.intents ∧ (∀ y ∈ v.line.queue, y ∈ u.line.queue ∨ ∃ c, y = ⟨.status c, 0, none⟩)
        ∧ ∀ c, e.frame.isIntentOf c = true → (u.chan c).state = .pending → (v.chan c).state = .deferred := by
      rw [← hv]
      unfold State.deferFrame
      cases e.frame with
      | intent d =>
        dsimp only
        have ht := State.touches_deferPending (c := d) hq
        refine ⟨⟨ht.acts, ht.bind, ht.noQueue⟩, (State.deferPending_line d u).1, fun y hy => ?_, fun c hi hp => ?_⟩
        · unfold State.deferPending at hy
          split at hy
          · rcases State.enter_txQueue d (·.idle .deferred) u with h | h <;> rw [h] at hy
            · exact .inl hy
            · exact (List.mem_append.1 hy).imp_right fun h => ⟨d, List.mem_singleton.1 h⟩
          · exact .inl hy
        · have hdc : d = c := by simpa [TxFrame.isIntentOf] using hi
          rw [hdc, State.deferPending_chan_self, if_pos hp]
          rfl
      | withdraw _ | draw _ _ | reply _ _ _ | status _ =>
        exact ⟨.refl hq, rfl, fun y hy => .inl hy, fun c hi => by cases hi⟩
    obtain ⟨hquiet, hint, hqueue, hdefer⟩ := hstep
    obtain ⟨kquiet, kint, kqueue, kdefer⟩ := ih v hquiet.noQueue
    rw [List.foldl_cons, hv]
    refine ⟨⟨hquiet.acts.trans kquiet.acts, kquiet.bind.trans hquiet.bind, kquiet.noQueue⟩, kint.trans hint, fun y hy => ?_,
      fun x hx c hi hp => ?_⟩
    · rcases kqueue y hy with h | h
      · exact hqueue y h
      · exact .inr h
    · by_cases hvp : (v.chan c).state = .pending
      · rcases List.mem_cons.1 hx with rfl | hx
        · exact absurd (hvp.symm.trans (hdefer c hi hp)) (by decide)
        · exact kdefer x hx c hi hvp
      · have hvd : (v.chan c).state = .deferred := by
          rw [← hv] at hvp ⊢
          rcases State.deferFrame_chan e c u with h | ⟨-, h⟩
          · exact absurd (by rw [h]; exact hp) hvp
          · rw [h]
            rfl
        rcases State.deferFrames_chan l c v with h | ⟨h, -⟩
        · rw [h]
          exact hvd
        · exact absurd h hvp

/-- R157: in CLASHED the queue keeps no INTENT-kind frame and no DRAW on the line, and the channel of each INTENT that waited
goes to DEFERRED. -/
theorem State.holdBack_discardIntents_spec (hm : s.mode = .clashed) (hq : s.sequencer.queue = []) :
    s.Quiet s.holdBack.discardIntents ∧ s.holdBack.discardIntents.intents = s.intents
      ∧ (∀ e ∈ s.holdBack.discardIntents.line.queue, e.frame.kind ≠ 0 ∧ (e.frame.kind = 1 → e.attempt = none))
      ∧ (∀ c, s.holdBack.discardIntents.chan c = s.chan c
          ∨ ((s.chan c).state = .pending ∧ s.holdBack.discardIntents.chan c = (s.chan c).idle .deferred))
      ∧ ∀ x ∈ s.line.queue, ∀ c, x.frame.isIntentOf c = true → (s.chan c).state = .pending →
          (s.holdBack.discardIntents.chan c).state = .deferred := by
  have hframe : ∀ e : TxEntry, (if s.mayOffer e.frame then e else e.failed).frame = e.frame := fun e => by
    split <;> rfl
  rw [State.discardIntents_eq]
  obtain ⟨hquiet, hint, hqueue, hdefer⟩ := State.deferFrames_spec s.holdBack.txQueue
    (s.holdBack.setQueue (s.holdBack.txQueue.filter fun e => e.frame.kind != 0)) hq
  refine ⟨⟨((s.acts_setQueue _).trans (State.acts_setQueue _ _)).trans hquiet.acts, hquiet.bind, hquiet.noQueue⟩, hint,
    fun e he => ?_, fun c => State.deferFrames_chan _ c _, fun x hx c hi hp => ?_⟩
  · rcases hqueue e he with h | ⟨c, rfl⟩
    · obtain ⟨h, hk⟩ := List.mem_filter.1 h
      refine ⟨by simpa using hk, fun h1 => ?_⟩
      obtain ⟨x, -, rfl⟩ := List.mem_map.1 h
      rw [hframe] at h1
      have hd : s.mayOffer x.frame = false := by simp [State.mayOffer_clashed hm, TxFrame.isDraw, h1]
      rw [hd]
      rfl
    · exact ⟨Nat.succ_ne_zero 4, fun _ => rfl⟩
  · exact hdefer _ (List.mem_map_of_mem hx) c (by rw [hframe]; exact hi) hp

/-- R157: the entry to CLASHED, the peers that ISOLATED held put away. -/
theorem State.enterClashed_spec (hq : s.sequencer.queue = []) :
    (∃ w, (w = s ∨ w = s.dropHeldPeers)
        ∧ State.Quiet { w.setMode .clashed with line := { w.line with listen := none } } s.enterClashed)
      ∧ s.enterClashed.intents = s.intents
      ∧ (∀ e ∈ s.enterClashed.line.queue, e.frame.kind ≠ 0 ∧ (e.frame.kind = 1 → e.attempt = none))
      ∧ (∀ c, s.enterClashed.chan c = s.chan c
          ∨ ((s.chan c).state = .pending ∧ s.enterClashed.chan c = (s.chan c).idle .deferred))
      ∧ ∀ x ∈ s.line.queue, ∀ c, x.frame.isIntentOf c = true → (s.chan c).state = .pending →
          (s.enterClashed.chan c).state = .deferred := by
  unfold State.enterClashed
  dsimp only
  split
  · obtain ⟨h, hrest⟩ := State.holdBack_discardIntents_spec
      (s := { s.dropHeldPeers.setMode .clashed with line := { s.line with listen := none } }) rfl hq
    exact ⟨⟨_, .inr rfl, h⟩, hrest⟩
  · obtain ⟨h, hrest⟩ := State.holdBack_discardIntents_spec
      (s := { s.setMode .clashed with line := { s.line with listen := none } }) rfl hq
    exact ⟨⟨_, .inl rfl, h⟩, hrest⟩

/-- R157: what a first clash frame leaves alone, and what it marks. -/
structure State.Clashes (s t : State) : Prop where
  mark : t.line.clashMark = true
  flags : t.events.flags = s.events.flags ||| 256#11
  silence : t.line.silence = s.line.silence
  lineLoss : t.line.lineLoss = s.line.lineLoss
  bind : t.bind = s.bind
  intents : t.intents = s.intents
  service : t.service = s.service
  noQueue : t.sequencer.queue = []

/-- R157: a first clash frame in LIMP, and one in CLASHED, which no reset left unmarked. -/
theorem State.clashFrame_stays (hq : s.sequencer.queue = []) (hk : s.line.clashMark = false)
    (hm : s.mode = .limp ∨ s.mode = .clashed) :
    s.Clashes s.clashFrame ∧ s.clashFrame.mode = s.mode ∧ s.clashFrame.line.queue = s.line.queue
      ∧ s.clashFrame.peers = s.peers := by
  have heq : s.clashFrame = { s with line := { s.line with clashMark := true } }.raise .clash := by
    unfold State.clashFrame
    rw [if_neg (by rw [hk]; decide)]
    rcases hm with h | h <;> rw [h]
  rw [heq]
  exact ⟨⟨rfl, rfl, rfl, rfl, rfl, rfl, rfl, hq⟩, rfl, rfl, rfl⟩

/-- R157: a first clash frame in LISTENING, RUNNING and ISOLATED. -/
theorem State.clashFrame_enters (hq : s.sequencer.queue = []) (hk : s.line.clashMark = false) (hc : s.mode ≠ .configuring)
    (hl : s.mode ≠ .limp) (hd : s.mode ≠ .clashed) :
    s.Clashes s.clashFrame ∧ s.clashFrame.mode = .clashed ∧ s.clashFrame.line.listen = none
      ∧ (∀ e ∈ s.clashFrame.line.queue, e.frame.kind ≠ 0 ∧ (e.frame.kind = 1 → e.attempt = none))
      ∧ (∀ c, s.clashFrame.chan c = s.chan c
          ∨ ((s.chan c).state = .pending ∧ s.clashFrame.chan c = (s.chan c).idle .deferred))
      ∧ ∀ x ∈ s.line.queue, ∀ c, x.frame.isIntentOf c = true → (s.chan c).state = .pending →
          (s.clashFrame.chan c).state = .deferred := by
  have heq : s.clashFrame = ({ s with line := { s.line with clashMark := true } }.raise .clash).enterClashed := by
    unfold State.clashFrame
    rw [if_neg (by rw [hk]; decide)]
    cases h : s.mode with
    | listening | running | isolated => rfl
    | configuring => exact absurd h hc
    | limp => exact absurd h hl
    | clashed => exact absurd h hd
  obtain ⟨⟨w, hw, h⟩, hint, hqueue, hchan, hdefer⟩ :=
    State.enterClashed_spec (s := { s with line := { s.line with clashMark := true } }.raise .clash) hq
  rw [heq]
  refine ⟨⟨h.acts.clashMark.trans ?_, (congrArg EventUnit.flags h.acts.events).trans ?_, h.acts.listen.2.trans ?_, h.acts.lineLoss.trans ?_, h.bind.trans ?_, hint,
    h.acts.service.trans ?_, h.noQueue⟩, h.acts.mode, h.acts.listen.1, hqueue, hchan, hdefer⟩ <;>
  rcases hw with rfl | rfl <;> rfl

end Sys2Proof.Machine

/-- Settles O48: `State.clashFrame_stays` and `State.clashFrame_enters` say what the first clash frame does, and `exec_bars`
that no command lets a discarded frame join the queue. -/
theorem clashFramesAreHandedToNoBlock : Obligations.ClashFramesAreHandedToNoBlock := by
  open Sys2Proof.Machine Sys2Proof in
  intro i s
  refine ⟨fun st p hi => ?_, fun t h => ⟨fun hm x hx hk => ?_, fun hm hk x hx h1 => ?_⟩⟩
  · obtain ⟨take, he⟩ := exec_of_frameFrom (s := s) hi
    rw [he]
    refine ⟨fun h => ?_, fun hc hb hst hk => ?_, fun hc hb hst hk => ?_⟩
    · rcases h with h | h
      · rw [State.receive_configuring st take h, p.settle]
      · rw [State.receive_busOff st take h, p.settle]
    · rw [hst, State.receive_own take hc hb, State.clashFrame_again (s := s.heard) hk]
      exact congrArg _ (State.Plain.settle ⟨p.noFollower, p.noQueue⟩)
    · rw [hst, State.receive_own take hc hb]
      have hsettle : s.heard.Clashes s.heard.clashFrame → s.heard.clashFrame.settle = s.heard.clashFrame.echoed := fun h =>
        State.Plain.settle ⟨h.bind ▸ p.noFollower, h.noQueue⟩
      by_cases hm : s.mode = .limp ∨ s.mode = .clashed
      · obtain ⟨h, hmode, hqueue, hpeers⟩ := State.clashFrame_stays (s := s.heard) p.noQueue hk hm
        refine ⟨_, congrArg _ (hsettle h), h.mark, h.flags, h.silence, h.lineLoss, h.bind, h.intents, h.service,
          fun _ => ⟨hmode, hqueue, hpeers⟩, fun hl hd => absurd hm (not_or.2 ⟨hl, hd⟩)⟩
      · obtain ⟨hl, hd⟩ := not_or.1 hm
        obtain ⟨h, hmode, hlisten, hqueue, hchan, hdefer⟩ := State.clashFrame_enters (s := s.heard) p.noQueue hk hc hl hd
        refine ⟨_, congrArg _ (hsettle h), h.mark, h.flags, h.silence, h.lineLoss, h.bind, h.intents, h.service,
          fun h => absurd h hm, fun _ _ => ⟨hmode, hlisten, hqueue, fun c => ?_, fun x hx c tr bk w hf hp => ?_⟩⟩
        · rw [State.echoed_chan]
          rcases hchan c with h | ⟨hp, h⟩
          · exact .inl (congrArg _ h)
          · exact .inr ⟨hp, by rw [h]; rfl⟩
        · rw [State.echoed_chan]
          exact hdefer x hx c (TxFrame.isIntentOf_iff.2 ⟨tr, bk, w, hf⟩) hp
  · exact exec_bars h (State.discards_iff.2 (.inl ⟨hm, hk⟩)) hx rfl
  · exact exec_bars h (State.discards_iff.2 (.inr ⟨hm, hk, h1⟩)) hx rfl
end

-- ==== Proofs: bands ====
section
/-! PROOFS. What every step keeps of the bands (R47, R60, R137 to R140): O9. -/

namespace Sys2Proof.Machine

variable {s t u : State} {i : Instr} {st : Station} {take : State → State}

/-! ### What the bands read -/

/-- The bands of the LIVE entries of the Peer Table (R47). -/
def State.liveBands (s : State) : List Band := (s.peers.filter fun e => !e.stale).map (·.band)

theorem State.liveBands_of_peers (h : t.peers = s.peers) : t.liveBands = s.liveBands := by
  unfold State.liveBands
  rw [h]

/-- The lower of a band found so far and a further one. -/
def lowerOf (acc : Option Band) (b : Band) : Option Band :=
  match acc with
  | none => some b
  | some a => some (a.lower b)

theorem State.lowestLiveBand_eq (s : State) : s.lowestLiveBand = s.liveBands.foldl lowerOf none := by
  unfold State.lowestLiveBand State.liveBands
  rw [List.foldl_map]
  rfl

/-- R47: the lowest LIVE band is read from the LIVE bands alone. -/
theorem State.lowestLiveBand_congr (h : t.liveBands = s.liveBands) : t.lowestLiveBand = s.lowestLiveBand := by
  rw [State.lowestLiveBand_eq, State.lowestLiveBand_eq, h]

/-- What `State.BandSound` reads of the Feed Monitor and the Budget Unit. -/
def State.bandCore (s : State) :=
  (s.feed.thresholds, s.feed.ownBand, s.feed.fall, s.feed.rise,
    s.budget.config, s.budget.ownBand, s.budget.worst, s.budget.allowance)

/-- From `s` to `t` nothing that `State.BandSound` reads changes. -/
structure State.KeepsBands (s t : State) : Prop where
  core : t.bandCore = s.bandCore
  live : t.lowestLiveBand = s.lowestLiveBand
  mode : t.mode = .configuring ↔ s.mode = .configuring

theorem State.worstBand_congr (ho : t.budget.ownBand = s.budget.ownBand) (hl : t.lowestLiveBand = s.lowestLiveBand) :
    t.worstBand = s.worstBand := by
  unfold State.worstBand
  rw [ho, hl]

/-- R60, R137 to R140: soundness of the bands is read from what `State.KeepsBands` names. -/
theorem State.KeepsBands.bandSound (k : s.KeepsBands t) (h : s.BandSound) : t.BandSound := by
  have hcore := k.core
  simp only [State.bandCore, Prod.mk.injEq] at hcore
  obtain ⟨hth, hfb, hfall, hrise, hcfg, hob, hworst, hall⟩ := hcore
  have hw := State.worstBand_congr hob k.live
  refine ⟨?_, ?_, ?_, fun hm => ?_, fun hm => ?_, fun hm => ?_⟩
  · rw [hth]
    exact h.order
  · rw [hfall, hrise]
    exact h.range
  · rw [hfall, hrise]
    exact h.apart
  · rw [hob, hfb]
    exact h.band (mt k.mode.2 hm)
  · rw [hcfg, hworst, hall, hw]
    exact h.worst (mt k.mode.2 hm)
  · rw [hth, hfb, hcfg]
    exact h.unset (k.mode.1 hm)

theorem State.Rounds.keepsBands (h : s.Rounds t) : s.KeepsBands t := by
  refine ⟨?_, ?_, by rw [h.mode]⟩ <;>
  · unfold State.Rounds at h
    rw [← h]
    rfl

theorem State.Acts.keepsBands (h : s.Acts t) : s.KeepsBands t := h.rounds.keepsBands

/-! ### The worst band taken anew (R60) -/

/-- The part of `State.BandSound` that does not speak of the worst band. -/
structure State.BandBase (s : State) : Prop where
  order : ∀ th, s.feed.thresholds = some th → th.low < th.battery ∧ th.battery < th.charging
  range : s.feed.fall ≤ 20 ∧ s.feed.rise ≤ 500
  apart : s.feed.fall = 0 ∨ s.feed.rise = 0
  band : s.mode ≠ .configuring → s.budget.ownBand = s.feed.ownBand
  unset : s.mode = .configuring → s.feed.thresholds = none ∧ s.feed.ownBand = none ∧ s.budget.config = none

/-- R60: with no own band there is no worst band. -/
theorem State.worstBand_eq_none : s.worstBand = none ↔ s.budget.ownBand = none := by
  unfold State.worstBand
  split <;> simp [*]

/-- R60: the worst band and the allowance taken anew are what the bands give; without an own band none is held. -/
theorem State.BandBase.setWorst (h : s.BandBase) (hn : s.mode ≠ .configuring → ∀ k, s.budget.config = some k →
    s.budget.ownBand = none → s.budget.worst = none ∧ s.budget.allowance = none) : s.setWorst.BandSound := by
  unfold State.setWorst
  split
  · next k w hk hw =>
    refine ⟨h.order, h.range, h.apart, h.band, fun _ k' hk' => ?_, h.unset⟩
    have : some k = some k' := hk.symm.trans hk'
    obtain rfl := Option.some.inj this
    have hsame : State.worstBand { s with
        budget := { s.budget with worst := some w, allowance := some (k.allowanceAt w) } } = some w := hw
    rw [hsame]
    exact ⟨rfl, rfl⟩
  · next hno =>
    refine ⟨h.order, h.range, h.apart, h.band, fun hm k hk => ?_, h.unset⟩
    have hw : s.worstBand = none := Option.eq_none_iff_forall_ne_some.2 fun w hw => hno k w hk hw
    obtain ⟨h1, h2⟩ := hn hm k hk (State.worstBand_eq_none.1 hw)
    rw [h1, h2, hw]
    exact ⟨rfl, rfl⟩

/-- R60: a band notice takes the worst band anew, and a round of a drop leaves the bands. -/
theorem State.keepsBands_bandNotice (s : State) : s.setWorst.KeepsBands s.bandNotice := by
  unfold State.bandNotice
  dsimp only
  split
  · exact ((State.rounds_raise .bandDrop _).trans (State.rounds_takeRound _)).keepsBands
  · exact (State.Acts.refl _).keepsBands

/-- R47: a notice of the LIVE bands after a change of the Peer Table. -/
theorem State.BandSound.peerNotice (h : s.BandSound) (hf : t.feed = s.feed) (hb : t.budget = s.budget)
    (hm : t.mode = s.mode) : (t.peerNotice s.lowestLiveBand).BandSound := by
  unfold State.peerNotice
  split
  · next hl =>
    refine State.KeepsBands.bandSound ⟨?_, hl, by rw [hm]⟩ h
    unfold State.bandCore
    rw [hf, hb]
  · have hbase : t.BandBase := by
      refine ⟨?_, ?_, ?_, ?_, ?_⟩
      all_goals rw [hf]
      · exact h.order
      · exact h.range
      · exact h.apart
      · rw [hm, hb]
        exact h.band
      · rw [hm, hb]
        exact h.unset
    refine t.keepsBands_bandNotice.bandSound (hbase.setWorst fun hc k hk ho => ?_)
    rw [hb] at hk ho ⊢
    obtain ⟨h1, h2⟩ := h.worst (hm ▸ hc) k hk
    rw [State.worstBand_eq_none.2 ho] at h1 h2
    exact ⟨h1, h2⟩

/-! ### The own band (R138 to R140) -/

/-- R140: a change of the own band; the thresholds are set, so the part has left CONFIGURING. -/
theorem State.BandSound.changeBand (h : s.BandSound) (hm : s.mode ≠ .configuring) (b : Band) : (s.changeBand b).BandSound := by
  refine (State.keepsBands_bandNotice _).bandSound (State.BandBase.setWorst ?_ ?_)
  · exact ⟨h.order, ⟨Nat.zero_le _, Nat.zero_le _⟩, .inl rfl, fun _ => rfl, fun e => absurd e hm⟩
  · exact fun _ _ _ ho => absurd ho (Option.some_ne_none b)

theorem State.BandSound.execBandFall (h : s.BandSound) (e : execBandFall s = .next t) : t.BandSound := by
  unfold Machine.execBandFall at e
  split at e
  · exact next_inj e ▸ h
  · next th hth =>
    split at e
    · exact next_inj e ▸ h
    · have hm : s.mode ≠ .configuring := fun hc => Option.some_ne_none th (hth.symm.trans (h.unset hc).1)
      exact next_inj e ▸ (State.acts_settle _).keepsBands.bandSound (h.changeBand hm _)

theorem State.BandSound.execBandRise (h : s.BandSound) (e : execBandRise s = .next t) : t.BandSound := by
  unfold Machine.execBandRise at e
  split at e
  · exact next_inj e ▸ h
  · next b hb =>
    split at e
    · exact next_inj e ▸ h
    · have hm : s.mode ≠ .configuring := fun hc => Option.some_ne_none b (hb.symm.trans (h.unset hc).2.1)
      exact next_inj e ▸ (State.acts_settle _).keepsBands.bandSound (h.changeBand hm _)

theorem nextFall_le {f : Option Nat} {v n : Nat} (h : n ≤ 20) : nextFall f v n ≤ 20 := by
  unfold nextFall Config.fallCount
  split
  · split <;> omega
  · exact Nat.zero_le _

theorem nextRise_le {f : Option Nat} {v n : Nat} (h : n ≤ 500) : nextRise f v n ≤ 500 := by
  unfold nextRise Config.riseCount
  split
  · split <;> omega
  · exact Nat.zero_le _

/-- R138: the fall timer counts only below the floor of the own band. -/
theorem nextFall_ne_zero {f : Option Nat} {v n : Nat} (h : nextFall f v n ≠ 0) : ∃ x, f = some x ∧ v < x := by
  unfold nextFall at h
  split at h
  · next x =>
    split at h
    · next hlt => exact ⟨x, rfl, hlt⟩
    · exact absurd rfl h
  · exact absurd rfl h

/-- R139: the rise timer counts only above the floor of the next band. -/
theorem nextRise_ne_zero {f : Option Nat} {v n : Nat} (h : nextRise f v n ≠ 0) : ∃ x, f = some x ∧ x ≤ v := by
  unfold nextRise at h
  split at h
  · next x =>
    split at h
    · next hle => exact ⟨x, rfl, (Nat.le_add_right _ _).trans hle⟩
    · exact absurd rfl h
  · exact absurd rfl h

/-- R137: the floor of a band lies below the floor of the next. -/
theorem Thresholds.floor_lt_nextFloor {th : Thresholds} (h : th.low < th.battery ∧ th.battery < th.charging) {b : Band}
    {x y : Nat} (hx : th.floor b = some x) (hy : th.nextFloor b = some y) : x < y := by
  obtain ⟨h1, h2⟩ := h
  cases b <;> simp only [Thresholds.floor, Thresholds.nextFloor, Option.some.injEq, reduceCtorEq] at hx hy <;> omega

/-- R138, R139: no measurement lets both timers count. -/
theorem Thresholds.timers_apart {th : Thresholds} (h : th.low < th.battery ∧ th.battery < th.charging) (b : Band)
    (v m n : Nat) : nextFall (th.floor b) v m = 0 ∨ nextRise (th.nextFloor b) v n = 0 := by
  by_contra hn
  obtain ⟨hf, hr⟩ := not_or.1 hn
  obtain ⟨x, hx, hvx⟩ := nextFall_ne_zero hf
  obtain ⟨y, hy, hyv⟩ := nextRise_ne_zero hr
  have := Thresholds.floor_lt_nextFloor h hx hy
  omega

theorem State.BandSound.measureKsup (h : s.BandSound) (v : Nat) :
    State.BandSound { s with feed := s.feed.measureKsup v } := by
  unfold FeedMonitor.measureKsup
  split
  · next th b hth hb =>
    refine ⟨h.order, ⟨nextFall_le h.range.1, nextRise_le h.range.2⟩, Thresholds.timers_apart (h.order th hth) b v _ _,
      h.band, h.worst, h.unset⟩
  · exact ⟨h.order, h.range, h.apart, h.band, h.worst, h.unset⟩

/-! ### Resets, and the read's end (R138, R174 to R178) -/

theorem State.bandSound_released (straps : BitVec 4) (s : State) : (s.released straps).BandSound :=
  ⟨fun _ h => absurd h.symm (Option.some_ne_none _), ⟨Nat.zero_le _, Nat.zero_le _⟩, .inl rfl, fun h => absurd rfl h,
    fun h => absurd rfl h, fun _ => ⟨rfl, rfl, rfl⟩⟩

theorem State.bandSound_restarted (straps : BitVec 4) (s : State) : (s.restarted straps).BandSound :=
  ⟨fun _ h => absurd h.symm (Option.some_ne_none _), ⟨Nat.zero_le _, Nat.zero_le _⟩, .inl rfl, fun h => absurd rfl h,
    fun h => absurd rfl h, fun _ => ⟨rfl, rfl, rfl⟩⟩

/-- R138: the part as it leaves CONFIGURING with thresholds in force. -/
theorem State.bandBase_leaveConfiguring {th : Thresholds} {m : PartMode}
    (hth : th.low < th.battery ∧ th.battery < th.charging) (hm : m ≠ .configuring)
    (h : s.feed.thresholds = some th ∧ s.feed.fall = 0 ∧ s.feed.rise = 0) : (s.leaveConfiguring m).BandBase := by
  obtain ⟨h1, h2, h3⟩ := h
  refine ⟨fun th' h' => ?_, ⟨?_, ?_⟩, .inl h2, fun _ => rfl, fun e => absurd e hm⟩
  · rw [← Option.some.inj (h1.symm.trans h')]
    exact hth
  · exact h2 ▸ Nat.zero_le _
  · exact h3 ▸ Nat.zero_le _

/-- R137, R176: the installation sets the thresholds in order, and the worst band as the part enters LISTENING. -/
theorem State.bandSound_install (image : List Byte) (s : State) : (s.install image).BandSound := by
  have hth : (headerThresholds image).low < (headerThresholds image).battery
      ∧ (headerThresholds image).battery < (headerThresholds image).charging := by
    obtain ⟨-, -, -, h1, h2, -⟩ := clampThresholds_eq (imageWord image 6) (imageWord image 8) (imageWord image 10)
    exact ⟨h1, h2⟩
  unfold State.install
  dsimp only
  refine (State.moves_takeStored _).acts.keepsBands.bandSound ?_
  generalize (s.installImage image).buildTable = a
  have hfeed := (State.moves_inhibitMarked ((a.setThresholds (headerThresholds image)).beginHeat.setMasks
    (headerPartMask image) (headerChannelMask image))).acts.feed
  have hown : ∃ b, (State.inhibitMarked ((a.setThresholds (headerThresholds image)).beginHeat.setMasks
    (headerPartMask image) (headerChannelMask image))).feed.ownBand = some b := by
    rw [hfeed]
    exact ⟨_, rfl⟩
  have hbase := State.bandBase_leaveConfiguring hth (m := .listening) PartMode.noConfusion
    (s := State.inhibitMarked ((a.setThresholds (headerThresholds image)).beginHeat.setMasks (headerPartMask image)
      (headerChannelMask image))) (by rw [hfeed]; exact ⟨rfl, rfl, rfl⟩)
  obtain ⟨b, hb⟩ := hown
  refine (State.rounds_takeRound _).keepsBands.bandSound (State.BandBase.setWorst ?_ fun _ _ _ ho => ?_)
  · exact ⟨hbase.order, hbase.range, hbase.apart, hbase.band, hbase.unset⟩
  · exact absurd (hb.symm.trans ho) (Option.some_ne_none b)

theorem State.limpValues_bands (s : State) : s.limpValues.budget = s.budget
    ∧ s.limpValues.feed.thresholds = some ⟨270, 240, 200⟩ ∧ s.limpValues.feed.fall = 0 ∧ s.limpValues.feed.rise = 0 := by
  have hfields : ((s.raise .limp).installFields limpConfig).budget = s.budget := by
    unfold State.installFields
    rfl
  have hacts := (State.moves_freeUnused ((s.raise .limp).installFields limpConfig)).acts
  unfold State.limpValues
  dsimp only
  generalize State.freeUnused _ = w at hacts
  exact ⟨hacts.budget.trans hfields, rfl, rfl, rfl⟩

/-- R178: without configuration values no worst band is computed in LIMP. -/
theorem State.bandSound_enterLimp (h : s.budget.config = none) : s.enterLimp.BandSound := by
  obtain ⟨hbudget, hfeed⟩ := s.limpValues_bands
  rw [State.enterLimp_eq]
  generalize s.limpValues = w at hbudget hfeed
  have hbase : (w.leaveConfiguring .limp).BandBase :=
    State.bandBase_leaveConfiguring (by decide) PartMode.noConfusion hfeed
  have hnone : (w.leaveConfiguring .limp).budget.config = none := (congrArg BudgetUnit.config hbudget).trans h
  have hround := State.rounds_takeRound (w.leaveConfiguring .limp)
  refine (State.moves_limpRequests hround.mode).acts.keepsBands.bandSound (hround.keepsBands.bandSound ?_)
  refine ⟨hbase.order, hbase.range, hbase.apart, hbase.band, fun _ k hk => ?_, hbase.unset⟩
  exact absurd (hk.symm.trans hnone) (Option.some_ne_none k)

theorem State.BandSound.judgeImage (h : s.BandSound) (hm : s.mode = .configuring) (image : List Byte) :
    (s.judgeImage image).BandSound := by
  unfold State.judgeImage
  dsimp only
  split
  · exact State.bandSound_install image _
  · exact State.bandSound_enterLimp (h.unset hm).2.2

theorem State.BandSound.execReadEnd {image : List Byte} (h : s.BandSound)
    (e : execConfigurationReadEnd image s = .next t) : t.BandSound := by
  unfold execConfigurationReadEnd at e
  split at e
  · cases e
  · split at e
    · next hm => exact next_inj e ▸ (State.acts_settle _).keepsBands.bandSound (h.judgeImage hm image)
    · exact next_inj e ▸ h

/-! ### The Peer Table (R43 to R47) -/

theorem State.BandSound.execPeerEntryStale (h : s.BandSound) (e : execPeerEntryStale st s = .next t) : t.BandSound :=
  next_inj e ▸ (State.acts_settle _).keepsBands.bandSound (h.peerNotice rfl rfl rfl)

/-- R46: leaving ISOLATED removes STALE entries alone. -/
theorem State.dropHeldPeers_live (s : State) : s.dropHeldPeers.liveBands = s.liveBands := by
  unfold State.liveBands State.dropHeldPeers
  dsimp only
  rw [List.filter_filter]
  congr 1
  refine List.filter_congr fun e _ => ?_
  cases e.stale <;> rfl

/-- Hearing a frame leaves the LIVE bands. -/
theorem State.endIsolation_live (s : State) : s.endIsolation.liveBands = s.liveBands := by
  unfold State.endIsolation
  split
  · exact s.dropHeldPeers_live
  · rfl

theorem State.clashFrame_live (s : State) : s.clashFrame.liveBands = s.liveBands := by
  have hdiscard : ∀ u v : State, v.liveBands = u.liveBands → v.discardIntents.liveBands = u.liveBands := fun u v h =>
    (State.liveBands_of_peers (State.acts_discardIntents v).peers).trans h
  have henter : ∀ u : State, u.enterClashed.liveBands = u.liveBands := fun u => by
    unfold State.enterClashed
    dsimp only
    split
    · exact hdiscard _ _ u.dropHeldPeers_live
    · exact hdiscard _ _ rfl
  unfold State.clashFrame
  split
  · rfl
  · dsimp only
    split
    · exact henter _
    · exact henter _
    · exact henter _
    all_goals rfl

/-- R156: a received frame leaves the LIVE bands wherever its block leaves the peers. -/
theorem State.receive_live (h : ∀ u : State, (take u).peers = u.peers) : (s.receive st take).liveBands = s.liveBands := by
  unfold State.receive
  split
  · rfl
  · split
    · exact State.clashFrame_live _
    · exact (State.liveBands_of_peers (h _)).trans (State.endIsolation_live _)

/-! ### Blocks that leave the Peer Table -/

theorem State.foldl_peers {α : Type} {f : State → α → State} (h : ∀ (u : State) a, (f u a).peers = u.peers) (l : List α) :
    ∀ u : State, (l.foldl f u).peers = u.peers := by
  induction l with
  | nil => exact fun _ => rfl
  | cons a l ih => exact fun u => (ih _).trans (h u a)

theorem State.takeSignal_peers (n v : Byte) (s : State) : (s.takeSignal st n v).peers = s.peers := by
  unfold State.takeSignal
  dsimp only
  rw [(State.acts_foldl _ (fun s c => State.acts_reevaluate c s) _ _).peers]
  split
  · rfl
  · exact (State.acts_foldl _ (fun s c => (State.moves_notice c s).acts) _ _).peers

theorem State.foreignOnset_peers (n : Byte) (s : State) : (s.foreignOnset st n).peers = s.peers := by
  unfold State.foreignOnset
  dsimp only
  split <;> rfl

theorem State.takeSignals_peers (l : List (Byte × Byte)) (s : State) : (s.takeSignals st l).peers = s.peers := by
  unfold State.takeSignals
  split
  · rfl
  · refine State.foldl_peers (fun u p => ?_) l s
    unfold State.signalEntry
    split
    · rfl
    · split
      · exact State.takeSignal_peers _ _ u
      · exact State.foreignOnset_peers _ u

theorem State.storeIntent_peers (e : IntentEntry) (s : State) : (s.storeIntent e).peers = s.peers := by
  unfold State.storeIntent
  dsimp only
  split
  · rfl
  · split <;> rfl

theorem State.Stirs.peers (h : s.Stirs t) : t.peers = s.peers := by
  rw [← h]
  rfl

theorem State.carried_peers (st : Station) (l : List (List Byte)) (b : Bool) (s : State) :
    (s.carried st l b).peers = s.peers := rfl

theorem State.clearFaults_peers (st : Station) (cs : List Channel) (s : State) : (s.clearFaults st cs).peers = s.peers :=
  (State.moves_clearAll cs s).acts.peers

theorem State.clearFlags_peers (p : BitVec 11) (m : BitVec 20) (s : State) : (s.clearFlags p m).peers = s.peers :=
  (State.stirs_clearFlags p m s).peers

/-- R167: a service request leaves the Peer Table wherever its command does. -/
theorem State.serve_peers {b : Byte} {inLimp rejected : Bool} {run : State → State} (h : (run s).peers = s.peers) :
    (s.serve st b inLimp rejected run).peers = s.peers :=
  State.serve_cases (R := fun v => v.peers = s.peers) State.Stirs.peers h

/-! ### Every command -/

/-- The commands that the bands follow: resets, the end of a read, KSUP measurements, changes of a supply band, and what
turns a peer's entry LIVE or STALE. -/
def movesBands : Instr → Bool
  | .resetRelease _ | .serviceRestart _ | .configurationReadEnd _ | .ksupMeasurement _ | .bandFall | .bandRise
  | .draw _ _ _ _ _ | .peerEntryStale _ => true
  | _ => false

theorem State.Runs.configuring (h : s.Runs t) : t.mode = .configuring ↔ s.mode = .configuring := by
  induction h with
  | refl => rfl
  | moves _ m ih => rw [m.acts.mode, ih]
  | aside _ b ih =>
    rw [← ih]
    rcases b.mode with e | ⟨hs, ht⟩
    · rw [e]
    · exact ⟨fun e => absurd e ht, fun e => by rw [e] at hs; simp at hs⟩

theorem exec_bandCore (hi : movesBands i = false) (h : exec i s = .next t) : t.bandCore = s.bandCore := by
  rw [← exec_frame i h]
  cases i with
  | resetRelease _ | serviceRestart _ | configurationReadEnd _ | ksupMeasurement _ | bandFall | bandRise
  | draw _ _ _ _ _ | peerEntryStale _ => cases hi
  | _ => rfl

/-- What follows a received frame leaves the LIVE bands. -/
theorem State.live_of_receive (h : ∀ u : State, (take u).peers = u.peers)
    (e : (.next (s.receive st take).settle : Host.Outcome State Fault Refusal) = .next t) : t.liveBands = s.liveBands :=
  next_inj e ▸ (State.liveBands_of_peers (State.acts_settle _).peers).trans (State.receive_live h)

/-- R45, R46: only a STALE entry is removed or held. -/
theorem State.peerEntryRemoval_live (h : execPeerEntryRemoval st s = .next t) : t.liveBands = s.liveBands := by
  unfold execPeerEntryRemoval at h
  split at h
  · rw [← next_inj h]
    unfold State.liveBands
    dsimp only
    rw [List.filter_map, List.map_map]
    have hstale : ∀ e : PeerEntry, (if e.station = st ∧ e.stale = true ∧ Config.peerRemovalMs ≤ e.age
        then { e with age := Config.peerRemovalMs } else e).stale = e.stale := fun e => by split <;> rfl
    have hband : ∀ e : PeerEntry, (if e.station = st ∧ e.stale = true ∧ Config.peerRemovalMs ≤ e.age
        then { e with age := Config.peerRemovalMs } else e).band = e.band := fun e => by split <;> rfl
    simp only [Function.comp_def, hstale, hband]
  · rw [← next_inj h]
    unfold State.liveBands
    dsimp only
    rw [List.filter_filter]
    congr 1
    refine List.filter_congr fun e _ => ?_
    cases e.stale <;> simp

theorem exec_live (hi : movesBands i = false) (h : exec i s = .next t) : t.liveBands = s.liveBands := by
  cases i with
  | resetRelease _ | serviceRestart _ | configurationReadEnd _ | ksupMeasurement _ | bandFall | bandRise
  | draw _ _ _ _ _ | peerEntryStale _ => cases hi
  | peerEntryRemoval st => exact State.peerEntryRemoval_live h
  | signal st l => exact State.live_of_receive (State.takeSignals_peers l) h
  | intent st _ _ _ _ =>
    refine State.live_of_receive (fun u => ?_) h
    split
    · rfl
    · split
      · exact State.storeIntent_peers _ u
      · rfl
  | withdraw =>
    refine State.live_of_receive (fun u => ?_) h
    split <;> rfl
  | otherFrameReceived => exact State.live_of_receive (fun _ => rfl) h
  | clearFault =>
    refine State.live_of_receive (fun u => State.serve_peers ?_) h
    exact State.clearFaults_peers _ _ u
  | clearEvents =>
    refine State.live_of_receive (fun u => State.serve_peers ?_) h
    exact (State.carried_peers _ _ _ _).trans (State.clearFlags_peers _ _ u)
  | readChannel =>
    refine State.live_of_receive (fun u => ?_) h
    split <;> exact State.serve_peers rfl
  | readPeers => exact State.live_of_receive (fun u => State.serve_peers rfl) h
  | readEvents =>
    refine State.live_of_receive (fun u => State.serve_peers ?_) h
    rfl
  | override =>
    refine State.live_of_receive (fun u => ?_) h
    split
    · exact State.serve_peers rfl
    · exact State.serve_peers ((u.acts_modChan _ _).trans (State.acts_applyRequest _ _)).peers
  | restart => exact State.live_of_receive (fun u => State.serve_peers rfl) h
  | unknownCommand => exact State.live_of_receive (fun u => State.serve_peers rfl) h
  | _ =>
    refine State.liveBands_of_peers ?_
    rw [← exec_frame _ h]
    rfl

/-- A command that the bands do not follow leaves all that they are read from. -/
theorem exec_keepsBands (hi : movesBands i = false) (h : exec i s = .next t) : s.KeepsBands t := by
  refine ⟨exec_bandCore hi h, State.lowestLiveBand_congr (exec_live hi h), (exec_runs ?_ h).configuring⟩
  cases i with
  | resetRelease _ | serviceRestart _ | configurationReadEnd _ => cases hi
  | _ => rfl

theorem State.BandSound.takeDraw (h : s.BandSound) (b : Band) (v : TierValues) : (s.takeDraw st b v).BandSound := by
  unfold State.takeDraw
  exact h.peerNotice rfl rfl rfl

/-- Hearing a frame, or a clash frame, leaves what the bands are read from. -/
theorem State.Hears.keepsBands (h : s.Hears t) (hl : t.liveBands = s.liveBands)
    (hm : t.mode = .configuring ↔ s.mode = .configuring) : s.KeepsBands t := by
  refine ⟨?_, State.lowestLiveBand_congr hl, hm⟩
  rw [← h.rest]
  rfl

theorem State.BandSound.execDraw {w0 w1 w2 w3 : BitVec 16} (h : s.BandSound) (e : execDraw st w0 w1 w2 w3 s = .next t) :
    t.BandSound := by
  have hclash : s.heard.KeepsBands s.heard.clashFrame := (State.hears_clashFrame _).keepsBands
    (State.clashFrame_live _) (State.runs_clashFrame _).configuring
  have hend : s.heard.KeepsBands s.heard.endIsolation := (State.hears_endIsolation _).keepsBands
    (State.endIsolation_live _) (State.runs_endIsolation _).configuring
  have hheard : s.heard.BandSound := ⟨h.order, h.range, h.apart, h.band, h.worst, h.unset⟩
  rw [← next_inj e]
  refine (State.acts_settle _).keepsBands.bandSound ?_
  unfold State.receive
  split
  · exact h
  · split
    · exact hclash.bandSound hheard
    · split
      · exact hend.bandSound hheard
      · exact (hend.bandSound hheard).takeDraw _ _

theorem exec_bandSound (h : s.BandSound) (e : exec i s = .next t) : t.BandSound := by
  by_cases hi : movesBands i = false
  · exact (exec_keepsBands hi e).bandSound h
  · cases i with
    | resetRelease straps => exact next_inj e ▸ State.bandSound_released straps s
    | serviceRestart straps => exact next_inj e ▸ State.bandSound_restarted straps s
    | configurationReadEnd => exact h.execReadEnd e
    | ksupMeasurement v => exact next_inj e ▸ h.measureKsup v
    | bandFall => exact h.execBandFall e
    | bandRise => exact h.execBandRise e
    | draw => exact h.execDraw e
    | peerEntryStale => exact h.execPeerEntryStale e
    | _ => exact absurd rfl hi

/-! ### The part's own clock (log 1) -/

/-- R45: a millisecond turns no entry STALE. -/
theorem State.passMs_live (s : State) : s.passMs.liveBands = s.liveBands := by
  unfold State.liveBands State.passMs
  dsimp only
  rw [List.filter_map, List.map_map]
  rfl

theorem State.passMs_keepsBands (s : State) : s.KeepsBands s.passMs :=
  ⟨rfl, State.lowestLiveBand_congr s.passMs_live, Iff.rfl⟩

theorem State.BandSound.setPending (h : s.BandSound) (p : List Instr) : State.BandSound { s with pending := p } :=
  State.KeepsBands.bandSound (s := s) ⟨rfl, rfl, Iff.rfl⟩ h

end Sys2Proof.Machine

/-- Settles O9: the commands that move a band keep the soundness of the bands, and every other command, and a millisecond,
leaves all that it is read from. -/
theorem everyStepKeepsBandSound : Obligations.EveryStepKeepsBandSound := by
  open Sys2Proof.Machine in
  intro s t h e
  unfold step at e
  split at e
  · rw [← next_inj e]
    unfold State.idleStep
    split
    · exact (s.passMs_keepsBands.bandSound h).setPending _
    · exact h.setPending _
  · exact exec_bandSound (h.setPending _) e
end

-- ==== Proofs: tables ====
section
/-! PROOFS. The Peer Table's ages and the Intent List (R45, R46, R49 to R56): O27, O28, O29. -/

namespace Sys2Proof.Machine

variable {s t u : State} {st : Station} {take : State → State}

/-! ### Entries that age (R45, R46) -/

theorem State.Bands.peers (h : s.Bands t) : t.peers = s.peers := by
  rw [← h]
  rfl

theorem State.peerNotice_peers (b : Option Band) (s : State) : (s.peerNotice b).peers = s.peers :=
  (State.bands_peerNotice b s).peers

/-- R45: the entry of a station once its age has been judged. -/
def PeerEntry.judgedStale (st : Station) (e : PeerEntry) : PeerEntry :=
  if e.station = st ∧ e.stale = false ∧ 350 ≤ e.age then { e with stale := true } else e

theorem PeerEntry.judgedStale_eq (e : PeerEntry) :
    (if e.turnsStale st then { e with stale := true } else e) = e.judgedStale st := by
  unfold PeerEntry.judgedStale
  have h : e.turnsStale st = true ↔ e.station = st ∧ e.stale = false ∧ Config.peerStaleMs ≤ e.age := by
    simp [PeerEntry.turnsStale, and_assoc]
  exact if_congr h rfl rfl

/-- R45: the state in which the station's LIVE entry, if old enough, is STALE. -/
def State.judgedStale (st : Station) (s : State) : State := { s with peers := s.peers.map (·.judgedStale st) }

theorem exec_peerEntryStale (st : Station) (s : State) :
    exec (.peerEntryStale st) s = .next ((s.judgedStale st).peerNotice s.lowestLiveBand).settle := by
  have hmap : (fun e : PeerEntry => if e.turnsStale st then { e with stale := true } else e) = (·.judgedStale st) :=
    funext fun e => e.judgedStale_eq
  show execPeerEntryStale st s = _
  unfold execPeerEntryStale State.judgedStale
  dsimp only
  rw [hmap]

/-! ### Frames to the Intent List (R50, R53) -/

/-- R156: what a frame's block makes of a state that has heard it stands once the echoes are taken. -/
theorem State.receive_settle (hm : s.mode ≠ .configuring) (hb : s.line.busOff = false) (ho : st ≠ s.own)
    (h : take s.heardFrame = u) (hu : u.Plain) : (s.receive st take).settle = u.echoed := by
  rw [State.receive_other take hm hb ho, h, hu.settle]

theorem State.takesIntents_heardFrame (hm : s.mode ≠ .configuring) : s.heardFrame.takesIntents = true ↔ s.mode ≠ .limp := by
  rw [State.takesIntents, State.heardFrame_mode]
  by_cases hi : s.mode = .isolated <;> simp [hi, hm]

/-- R50: the tiers of an INTENT that is taken. -/
theorem intentTier_eq_some {b : Byte} {tr : Tier} (h : tr.val = b.toNat) (h0 : tr ≠ 0) : intentTier b = some tr := by
  have hpos : tr.val ≠ 0 := fun e => h0 (Fin.ext e)
  have hlt := tr.isLt
  rw [intentTier, if_pos (by omega)]
  refine congrArg some (Fin.ext ?_)
  rw [Fin.val_ofNat, ← h, Nat.mod_eq_of_lt hlt]

theorem intentTier_eq_none {b : Byte} : intentTier b = none ↔ b.toNat = 0 ∨ 3 < b.toNat := by
  unfold intentTier
  split
  · simp only [reduceCtorEq, false_iff]
    omega
  · simp only [true_iff]
    omega

/-- The entry that a frame of station `st` and channel `ch` names. -/
def IntentEntry.named (st : Station) (ch : BitVec 5) (e : IntentEntry) : Bool := e.station == st && e.channel.val == ch.toNat

theorem lineChannel_eq (ch : BitVec 5) : lineChannel ch = ⟨ch.toNat, ch.isLt⟩ :=
  Fin.ext (Nat.mod_eq_of_lt ch.isLt)

theorem IntentEntry.named_eq (st : Station) (ch : BitVec 5) (e : IntentEntry) :
    (e.station == st && e.channel == lineChannel ch) = e.named st ch := by
  rw [lineChannel_eq, IntentEntry.named]
  congr 1
  rw [Bool.eq_iff_iff, beq_iff_eq, beq_iff_eq, Fin.ext_iff]

theorem IntentEntry.station_of_named {ch : BitVec 5} {e : IntentEntry} (h : e.named st ch = true) : e.station = st :=
  beq_iff_eq.1 (Bool.and_eq_true_iff.1 h).1

/-- R50: an INTENT that finds an earlier entry of its station and channel, or room, is the last entry. -/
theorem State.storeIntent_room {ch : BitVec 5} {e : IntentEntry} (hs : e.station = st) (hc : e.channel = lineChannel ch)
    (h : s.intents.entries.any (·.named st ch) ∨ s.intents.entries.length < 24) :
    s.storeIntent e = s.setEntries (s.intents.entries.filter (fun x => !x.named st ch) ++ [e]) := by
  unfold State.storeIntent
  simp only [hs, hc, IntentEntry.named_eq]
  split
  · rfl
  · next hl =>
    have hlen := List.length_filter_le (fun x : IntentEntry => !x.named st ch) s.intents.entries
    have hall : s.intents.entries.filter (fun x => !x.named st ch) = s.intents.entries :=
      List.filter_sublist.eq_of_length (by omega)
    have hroom : s.intents.entries.length < 24 := by
      refine h.resolve_left fun ha => ?_
      obtain ⟨x, hx, hn⟩ := List.any_eq_true.1 ha
      have := List.filter_eq_self.1 hall x hx
      rw [hn] at this
      cases this
    rw [hall]
    exact if_pos hroom

/-- R55: an INTENT that finds the list full. -/
theorem State.storeIntent_full {ch : BitVec 5} {e : IntentEntry} (hs : e.station = st) (hc : e.channel = lineChannel ch)
    (hn : s.intents.entries.any (·.named st ch) = false) (h : 24 ≤ s.intents.entries.length) :
    s.storeIntent e = s.overflowOnset := by
  have hall : s.intents.entries.filter (fun x => !x.named st ch) = s.intents.entries :=
    List.filter_eq_self.2 fun x hx => by simpa using List.any_eq_false.1 hn x hx
  unfold State.storeIntent
  simp only [hs, hc, IntentEntry.named_eq, hall]
  rw [if_neg (Nat.lt_irrefl _)]
  exact if_neg (Nat.not_lt.2 h)

/-- R50: what the Intent List makes of an INTENT. -/
def State.takeIntent (st : Station) (ch : BitVec 5) (tier : Byte) (booking : BitVec 16) (window : Byte) (s : State) : State :=
  match intentTier tier with
  | none => s
  | some tr =>
    if s.takesIntents then s.storeIntent ⟨st, lineChannel ch, tr, intentBooking booking, window.toNat, 0, 0, none⟩ else s

/-- R50: an INTENT frame heard and taken. -/
theorem exec_intent_eq {ch : BitVec 5} {tier : Byte} {booking : BitVec 16} {window : Byte} (hm : s.mode ≠ .configuring)
    (hb : s.line.busOff = false) (ho : st ≠ s.own) (h : s.heardFrame.takeIntent st ch tier booking window = u)
    (hu : u.Plain) : exec (.intent st ch tier booking window) s = .next u.echoed :=
  congrArg Host.Outcome.next (State.receive_settle hm hb ho h hu)

theorem State.takeIntent_dropped {ch : BitVec 5} {tier : Byte} {booking : BitVec 16} {window : Byte}
    (h : intentTier tier = none ∨ s.takesIntents = false) : s.takeIntent st ch tier booking window = s := by
  unfold State.takeIntent
  split
  · rfl
  · next he =>
    rw [he] at h
    exact if_neg (by simpa using h)

theorem State.takeIntent_stored {ch : BitVec 5} {tier : Byte} {booking : BitVec 16} {window : Byte} {tr : Tier}
    (h : intentTier tier = some tr) (ht : s.takesIntents = true) : s.takeIntent st ch tier booking window
      = s.storeIntent ⟨st, lineChannel ch, tr, intentBooking booking, window.toNat, 0, 0, none⟩ := by
  unfold State.takeIntent
  rw [h]
  exact if_pos ht

end Sys2Proof.Machine

/-- Settles O27. -/
theorem peerEntriesAgeOut : Obligations.PeerEntriesAgeOut := by
  open Sys2Proof.Machine in
  intro st s
  refine ⟨⟨_, exec_peerEntryStale st s, ?_⟩, fun hm => if_neg hm, fun hm => if_pos hm⟩
  exact (State.acts_settle _).peers.trans (State.peerNotice_peers _ _)

/-- Settles O28. -/
theorem intentTaken : Obligations.IntentTaken := by
  open Sys2Proof.Machine in
  intro sender ch tier booking window s hm hb ho p old entry es
  have hplain := p.heardFrame
  have htakes := State.takesIntents_heardFrame hm
  have hints := s.heardFrame_intents
  refine ⟨fun hl => ?_, fun hl tr htr h0 hroom => ?_, fun hl h1 h3 hn hfull => ?_, fun ht => ?_⟩
  · refine exec_intent_eq hm hb ho (State.takeIntent_dropped (.inr ?_)) hplain
    exact Bool.eq_false_iff.2 fun h => htakes.1 h hl
  · refine exec_intent_eq hm hb ho ?_ ⟨hplain.noFollower, hplain.noQueue⟩
    rw [State.takeIntent_stored (intentTier_eq_some htr h0) (htakes.2 hl),
      State.storeIntent_room (ch := ch) rfl rfl (by rw [hints]; exact hroom), State.setEntries, hints, lineChannel_eq]
    rfl
  · refine exec_intent_eq hm hb ho ?_ ⟨hplain.noFollower, hplain.noQueue⟩
    obtain ⟨tr, htr⟩ := Option.ne_none_iff_exists'.1 (mt (intentTier_eq_none (b := tier)).1 (by omega))
    rw [State.takeIntent_stored htr (htakes.2 hl),
      State.storeIntent_full (ch := ch) rfl rfl (by rw [hints]; exact hn) (by rw [hints]; exact hfull), State.overflowOnset,
      State.raise_intents, hints]
    unfold State.raise
    rw [State.heardFrame_events]
    rfl
  · exact exec_intent_eq hm hb ho (State.takeIntent_dropped (.inl (intentTier_eq_none.2 ht))) hplain

/-- Settles O29. -/
theorem intentsAreRemoved : Obligations.IntentsAreRemoved := by
  open Sys2Proof.Machine in
  intro sender ch s named without
  have hnamed : (fun e : IntentEntry => !(e.station == sender && e.channel == lineChannel ch)) = fun e => !named e :=
    funext fun e => congrArg _ (e.named_eq sender ch)
  refine ⟨fun hm hl hb ho p => ?_, fun hl hb ho p => ?_, fun ho => ?_, fun h => ?_, fun h => ?_⟩
  · have hplain := p.heardFrame
    refine congrArg Host.Outcome.next (State.receive_settle hm hb ho ?_ ⟨hplain.noFollower, hplain.noQueue⟩)
    dsimp only
    rw [if_pos ((State.takesIntents_heardFrame hm).2 hl), State.setEntries, hnamed, s.heardFrame_intents]
  · have hm : s.mode ≠ .configuring := by rw [hl]; exact PartMode.noConfusion
    refine congrArg Host.Outcome.next (State.receive_settle hm hb ho ?_ p.heardFrame)
    exact if_neg fun h => (State.takesIntents_heardFrame hm).1 h hl
  · refine congrArg (fun es => Host.Outcome.next (s.setEntries es)) (List.filter_congr fun e _ => ?_)
    rw [e.named_eq sender ch]
    change _ = !(named e && decide (500 ≤ e.age))
    cases hn : e.named sender ch with
    | false =>
      have : named e = false := hn
      rw [this]
      rfl
    | true =>
      have : named e = true := hn
      have hother : (e.station != s.own) = true := by rw [bne_iff_ne, IntentEntry.station_of_named hn]; exact ho
      rw [this, hother]
      rfl
  · exact if_pos (by rw [h]; rfl)
  · exact if_neg (by simpa [ended] using h)
end

-- ==== Proofs: completion ====
section
/-! PROOFS. A completed transmission (R51, R55, R161, R167, R171): O51. -/

namespace Sys2Proof.Machine

variable {s t u : State} {c : Channel} {e : TxEntry} {xs zs : List TxEntry}

/-! ### A refusal (R66) -/

theorem State.refuse_chan (c : Channel) (s : State) : (s.refuse c).chan c = (s.chan c).idle .deferred := by
  simp [State.refuse]

theorem State.refuse_intents (c : Channel) (s : State) : (s.refuse c).intents = s.intents := by
  simp [State.refuse]

theorem State.touches_refuse (h : s.sequencer.queue = []) : State.Touches c s (s.refuse c) :=
  (State.touches_enter h).trans (State.touches_send (State.enter_noQueue c _ h) _)

/-- R160: an entry that may queue a STATUS leaves room for a frame of the INTENT kind, if need be in that STATUS's place. -/
theorem State.enter_notFull {f : ChannelRecord → ChannelRecord} (h : s.queued (fun e => e.frame.kind != 1) < 5) :
    ¬(s.enter c f).Full := by
  rintro ⟨h5, h0⟩
  rcases State.enter_txQueue c f s with e | e
  · unfold State.queued at h h5
    rw [e] at h5
    omega
  · have := State.queued_status_eq_zero.1 h0 ⟨.status c, 0, none⟩ (by simp [e])
    cases this

/-- R66: the WITHDRAW of a refusal. -/
theorem State.refuse_withdraws (hm : s.mode ≠ .clashed) (h : s.queued (fun e => e.frame.kind != 1) < 5) :
    ∃ x ∈ (s.refuse c).line.queue, x.frame = .withdraw c := by
  have hmode : (s.enter c (·.idle .deferred)).mode ≠ .clashed := by rwa [State.enter_mode]
  obtain ⟨-, t, ho, ha⟩ :=
    (State.offer_intent (x := .withdraw c) rfl hmode).resolve_left fun hf => State.enter_notFull h hf.1
  have hsend : s.refuse c = t := by rw [State.refuse, State.send, ho]; rfl
  rw [hsend]
  refine (State.mem_kind0.1 (?_ : TxFrame.withdraw c ∈ t.kind0)).2
  rw [ha.frames]
  exact List.mem_append_right _ (List.mem_singleton_self _)

/-! ### The frame leaves the queue (R161) -/

/-- R161: the completion of the frame under way, handed to its owner. -/
theorem exec_completion (h : s.line.queue = xs ++ e :: zs) (hx : ∀ x ∈ xs, x.attempt = none) (he : e.attempt ≠ none) :
    exec .transmissionCompletion s = .next ((s.setQueue (xs ++ zs)).completed e.frame).settle := by
  have hsome : e.attempt.isSome = true := Option.isSome_iff_ne_none.2 he
  have hnone : ∀ x ∈ xs, ¬x.attempt.isSome = true := fun x hm => by rw [hx x hm]; decide
  have hfind : s.txQueue.find? (fun x => x.attempt.isSome) = some e := by
    rw [show s.txQueue = xs ++ e :: zs from h, List.find?_append, List.find?_eq_none.2 hnone, Option.none_or]
    exact List.find?_cons_of_pos hsome
  have herase : s.txQueue.eraseP (fun x => x.attempt.isSome) = xs ++ zs := by
    rw [show s.txQueue = xs ++ e :: zs from h, List.eraseP_append_right _ hnone]
    exact congrArg (xs ++ ·) (List.eraseP_cons_of_pos hsome)
  show execTransmissionCompletion s = _
  unfold execTransmissionCompletion
  rw [hfind, herase]

/-- R55: an own INTENT that completes over a full list is refused. -/
theorem State.ownCompleted_full {tr : Tier} {b w : Nat} (h : 24 ≤ s.intents.entries.length)
    (hp : (s.chan c).state = .pending) : s.ownCompleted c tr b w = s.overflowOnset.refuse c := by
  have hpend : ((s.overflowOnset.chan c).state == .pending) = true := beq_iff_eq.2 hp
  unfold State.ownCompleted State.deferPending
  rw [if_pos hpend]
  exact if_neg (Nat.not_lt.2 h)

end Sys2Proof.Machine

/-- Settles O51. -/
theorem completionIsHandedToItsOwner : Obligations.CompletionIsHandedToItsOwner := by
  open Sys2Proof.Machine in
  intro xs zs e s p h hx he left
  have hexec := exec_completion h hx he
  have hleft : left.Plain := ⟨p.noFollower, p.noQueue⟩
  refine ⟨fun c tr b w hf hroom => ?_, fun c tr b w hf hfull hp => ?_, fun dst data b q hf hq hl hno => ?_, fun hf => ?_⟩
  · have hown : left.ownCompleted c tr b w
        = left.setEntries (left.intents.entries ++ [⟨left.own, intentChannel c, tr, b, w, 0, 0, some Sys2Proof.Config.holdMs⟩]) :=
      if_pos hroom
    rw [hf] at hexec
    exact hexec.trans (congrArg Host.Outcome.next
      ((congrArg State.settle hown).trans (State.Plain.settle ⟨p.noFollower, p.noQueue⟩)))
  · have hown := State.ownCompleted_full (s := left) (tr := tr) (b := b) (w := w) hfull hp
    have hover : left.overflowOnset.Plain := ⟨p.noFollower, p.noQueue⟩
    have ht := State.touches_refuse (c := c) hover.noQueue
    rw [hf] at hexec
    refine ⟨_, hexec.trans (congrArg Host.Outcome.next ((congrArg State.settle hown).trans (ht.settle hover))), ?_, ?_, ?_,
      fun hm hcount => ?_⟩
    · exact State.refuse_intents c _
    · exact congrArg EventUnit.flags ht.acts.events
    · rw [State.echoed_chan, State.refuse_chan]
      rfl
    · exact State.refuse_withdraws (s := left.overflowOnset) hm hcount
  · have hend := State.endRequest_last (s := left) hq hl hno
    rw [hf] at hexec
    exact hexec.trans (congrArg Host.Outcome.next
      ((congrArg State.settle hend).trans (State.Plain.settle ⟨p.noFollower, p.noQueue⟩)))
  · have hdone : left.completed e.frame = left := by
      cases hk : e.frame with
      | draw _ _ | status _ | withdraw _ => rfl
      | intent _ _ _ _ | reply _ _ _ =>
        rw [hk] at hf
        rcases hf with hf | hf | ⟨c, hf⟩ <;> cases hf
    exact hexec.trans (congrArg Host.Outcome.next ((congrArg State.settle hdone).trans hleft.settle))
end

-- ==== Proofs: admission ====
section
/-! PROOFS. The decision at the end of a hold (R49, R52, R62 to R66, R80, R115): O30. -/

namespace Sys2Proof.Machine

variable {s t u : State} {c d : Channel} {y : IntentEntry} {xs zs : List IntentEntry} {q : StartSequencer}

/-! ### The entries that precede (R49) -/

/-- Among the first entries of line order those of the same or a lower tier number precede. -/
theorem precedes_before (j : Nat) (y : IntentEntry) (l : List IntentEntry) : ∀ k, k + l.length ≤ j →
    ((l.zipIdx k).filter fun p => precedes p.2 p.1 j y).map (·.1) = l.filter fun e => e.tier ≤ y.tier := by
  induction l with
  | nil => exact fun _ _ => rfl
  | cons x l ih =>
    intro k hk
    rw [List.length_cons] at hk
    have hx : precedes k x j y = decide (x.tier ≤ y.tier) := by
      have hlt : k < j := by omega
      rw [Bool.eq_iff_iff]
      simp [precedes, hlt, le_iff_lt_or_eq]
    rw [List.zipIdx_cons, List.filter_cons, List.filter_cons, hx, ← ih (k + 1) (by omega)]
    split <;> rfl

/-- From the entry itself on those of a lower tier number alone precede. -/
theorem precedes_after (j : Nat) (y : IntentEntry) (l : List IntentEntry) : ∀ k, j ≤ k →
    ((l.zipIdx k).filter fun p => precedes p.2 p.1 j y).map (·.1) = l.filter fun e => e.tier < y.tier := by
  induction l with
  | nil => exact fun _ _ => rfl
  | cons x l ih =>
    intro k hk
    have hx : precedes k x j y = decide (x.tier < y.tier) := by
      have hge : ¬k < j := by omega
      simp [precedes, hge]
    rw [List.zipIdx_cons, List.filter_cons, List.filter_cons, hx, ← ih (k + 1) (by omega)]
    split <;> rfl

/-- R49: the entries that precede `y` in the Intent List `xs ++ y :: zs`. -/
def priorEntries (xs zs : List IntentEntry) (y : IntentEntry) : List IntentEntry :=
  xs.filter (fun e => e.tier ≤ y.tier) ++ zs.filter (fun e => e.tier < y.tier)

theorem State.preceding_eq (h : s.intents.entries = xs ++ y :: zs) : s.preceding xs.length y = priorEntries xs zs y := by
  unfold State.preceding priorEntries
  rw [h, List.zipIdx_append, List.filter_append, List.map_append, precedes_before _ _ _ _ (by omega),
    precedes_after _ _ _ _ (by omega), List.filter_cons_of_neg (by simp)]

/-- The place of an own entry. -/
theorem State.ownPlace_eq (h : s.intents.entries = xs ++ y :: zs) (hx : ∀ e ∈ xs, s.isOwnEntry c e = false)
    (hy : s.isOwnEntry c y = true) : s.ownPlace c = some xs.length := by
  unfold State.ownPlace
  rw [h, List.findIdx?_append, List.findIdx?_eq_none_iff.2 hx, List.findIdx?_cons, hy]
  simp

/-! ### The five conditions (R62 to R65) -/

/-- R62: the five conditions, for the entry `y` with the entries `prior` before it. -/
def State.Admitted (s : State) (c : Channel) (y : IntentEntry) (prior : List IntentEntry) : Prop :=
  s.mode = .running
    ∧ s.intents.entries.length < 24 ∧ s.intents.overflow = none
    ∧ s.tierSum y.tier + (prior.map (·.booking)).sum + y.booking ≤ s.allowanceNow
    ∧ s.bankBooked (bankOf c) + y.booking ≤ s.budgetConfig.feedRating[bankOf c]
    ∧ (y.window ≤ 2 ∨ (prior.filter fun e => 2 < e.window && e.age < e.window * 10).length < s.budgetConfig.inrushLimit)

theorem State.admits_iff (h : s.intents.entries = xs ++ y :: zs) :
    s.admits c xs.length y = true ↔ s.Admitted c y (priorEntries xs zs y) := by
  unfold State.admits State.budgetHolds State.bankHolds State.inrushHolds
  rw [State.preceding_eq h]
  have hover : s.overflowing = false ↔ s.intents.entries.length < 24 ∧ s.intents.overflow = none := by
    unfold State.overflowing
    rw [Bool.or_eq_false_iff, decide_eq_false_iff_not, Nat.not_le, Option.isSome_eq_false_iff, Option.isNone_iff_eq_none]
    rfl
  simp only [Bool.and_eq_true, Bool.or_eq_true, beq_iff_eq, decide_eq_true_eq, Bool.not_eq_true', hover, and_assoc]
  rfl

/-- R52: the end of a hold, or a hold that still runs. -/
theorem exec_holdExpiry (h : s.intents.entries = xs ++ y :: zs) (hx : ∀ e ∈ xs, s.isOwnEntry c e = false)
    (hy : s.isOwnEntry c y = true) :
    exec (.holdExpiry c) s = if ended y.hold then .next (s.decide c xs.length y).settle else .next s := by
  have hget : s.intents.entries[xs.length]? = some y := by rw [h]; simp
  show execHoldExpiry c s = _
  unfold execHoldExpiry
  rw [State.ownPlace_eq h hx hy]
  dsimp only
  rw [hget]

/-- R52, R62, R66: the decision on the own entry of a PENDING channel; the entry goes in either case. -/
theorem State.decide_eq (h : s.intents.entries = xs ++ y :: zs) (hp : (s.chan c).state = .pending) :
    s.decide c xs.length y = if s.admits c xs.length y = true then (s.setEntries (xs ++ zs)).grantAdmission c
      else (s.setEntries (xs ++ zs)).refuse c := by
  have herase : s.intents.entries.eraseIdx xs.length = xs ++ zs := by
    rw [h, List.eraseIdx_append_of_length_le (Nat.le_refl _), Nat.sub_self, List.eraseIdx_cons_zero]
  have hpend : ((s.chan c).state != .pending) = false := by rw [hp]; rfl
  unfold State.decide
  dsimp only
  rw [herase, hpend]
  rfl

/-! ### An admission (R66, R80, R115) -/

theorem State.enter_slots {f : ChannelRecord → ChannelRecord} (hq : s.sequencer.queue = [])
    (h0 : s.sequencer.slot0 ≠ some c) (h1 : s.sequencer.slot1 ≠ some c) : (s.enter c f).sequencer = s.sequencer := by
  have b0 : (s.sequencer.slot0 == some c) = false := beq_false_of_ne h0
  have b1 : (s.sequencer.slot1 == some c) = false := beq_false_of_ne h1
  rw [State.enter_sequencer]
  unfold State.dropClaims
  simp only [State.modChan_sequencer, b0, b1, Bool.and_false, Bool.false_eq_true, if_false, hq, List.filter_nil, ite_self]
  rw [← hq]

/-- R81: a slot handed to the one channel that waits. -/
theorem State.handSlots_take (hq : s.sequencer.queue = [c]) (ht : { s.sequencer with queue := [] }.take c = some q) :
    s.handSlots = ({ s with sequencer := q } : State).startChannel c := by
  have hnil : q.queue = [] := StartSequencer.take_queue ht
  unfold State.handSlots handSlotsFor
  rw [hq]
  dsimp only
  rw [ht]
  exact handSlotsFor_of_noQueue _ (State.touches_startChannel (c := c) (by exact hnil)).noQueue

/-- R81: with no slot free the one channel waits on. -/
theorem State.handSlots_none (hq : s.sequencer.queue = [c]) (ht : { s.sequencer with queue := [] }.take c = none) :
    s.handSlots = s := by
  unfold State.handSlots handSlotsFor
  rw [hq]
  dsimp only
  rw [ht]

/-- R66: the state in which an admitted channel waits for a slot. -/
def State.joined (c : Channel) (s : State) : State :=
  { s.enter c (·.toSlotwait) with sequencer := { s.sequencer with queue := [c] } }

theorem State.joined_chan (c : Channel) (s : State) : (s.joined c).chan c = (s.chan c).toSlotwait :=
  State.enter_chan_self c (·.toSlotwait) s

theorem State.joined_chan_ne (hd : d ≠ c) : (s.joined c).chan d = s.chan d :=
  State.enter_chan_ne hd (·.toSlotwait) s

theorem State.joined_bind (c : Channel) (s : State) : (s.joined c).bind = s.bind := State.enter_bind c (·.toSlotwait) s

theorem State.joined_intents (c : Channel) (s : State) : (s.joined c).intents = s.intents :=
  State.enter_intents c (·.toSlotwait) s

/-- R66, R80: an admission over a NORMAL switch. -/
theorem State.grantAdmission_cool (hh : (s.chan c).prot.hot = false) (hq : s.sequencer.queue = [])
    (h0 : s.sequencer.slot0 ≠ some c) (h1 : s.sequencer.slot1 ≠ some c) : s.grantAdmission c = (s.joined c).handSlots := by
  have hc : (s.enter c (·.toSlotwait)).chan c = (s.chan c).toSlotwait := State.enter_chan_self c _ s
  have hhot : ¬(s.chan c).toSlotwait.prot.hot = true := by
    rw [show (s.chan c).toSlotwait.prot.hot = false from hh]
    decide
  have hseq := State.enter_slots (f := (·.toSlotwait)) hq h0 h1
  unfold State.grantAdmission State.joined
  dsimp only
  rw [hc, if_neg hhot, hseq, hq]
  rfl

/-- R80, R85: the admitted channel takes a free slot and starts. -/
theorem State.grantAdmission_starts (p : s.Plain) (hh : (s.chan c).prot.hot = false) (h0 : s.sequencer.slot0 ≠ some c)
    (h1 : s.sequencer.slot1 ≠ some c) (ht : { s.sequencer with queue := [] }.take c = some q) :
    let t := (s.grantAdmission c).settle
    (t.chan c).booking = (s.chan c).cfg.bookingFor (s.chan c).duty false ∧ (t.chan c).state = .starting ∧ t.sequencer = q
      ∧ t.intents = s.intents ∧ ∀ d, d ≠ c → t.chan d = (s.chan d).followed := by
  have hnil : q.queue = [] := StartSequencer.take_queue ht
  obtain ⟨w, hw⟩ : ∃ w : State, { s.joined c with sequencer := q } = w := ⟨_, rfl⟩
  have hwq : w.sequencer = q := by rw [← hw]
  have hwc : w.chan c = (s.chan c).toSlotwait := by rw [← hw]; exact s.joined_chan c
  have hwd : ∀ d, d ≠ c → w.chan d = s.chan d := fun d hd => by rw [← hw]; exact State.joined_chan_ne hd
  have hwp : w.Plain := ⟨by rw [← hw]; exact (s.joined_bind c) ▸ p.noFollower, by rw [hwq, hnil]⟩
  have hwh : (w.chan c).prot.hot = false := by rw [hwc]; exact hh
  have hwi : w.intents = s.intents := by rw [← hw]; exact s.joined_intents c
  have hgrant : s.grantAdmission c = w.startChannel c := by
    rw [State.grantAdmission_cool hh p.noQueue h0 h1, State.handSlots_take (s := s.joined c) rfl ht, hw]
  have htouch := State.touches_startChannel (c := c) hwp.noQueue
  have hstart : w.startChannel c = w.enter c (·.toStarting) := by
    have : (w.chan c).toStarting.prot.hot = false := hwh
    simp [State.startChannel, this]
  dsimp only
  rw [hgrant, htouch.settle hwp]
  refine ⟨?_, ?_, ?_, ?_, fun d hd => ?_⟩
  · rw [State.echoed_chan, State.startChannel_chan_self hwh, hwc]
    rfl
  · rw [State.echoed_chan, State.startChannel_chan_self hwh]
    rfl
  · rw [State.echoed_sequencer, State.startChannel_sequencer hwp.noQueue hwh, hwq]
  · rw [State.echoed_intents, hstart, State.enter_intents, hwi]
  · rw [htouch.echoed_others hd, hwd d hd]

/-- R80: with both slots held the admitted channel waits. -/
theorem State.grantAdmission_waits (p : s.Plain) (hh : (s.chan c).prot.hot = false) (h0 : s.sequencer.slot0 ≠ some c)
    (h1 : s.sequencer.slot1 ≠ some c) (ht : { s.sequencer with queue := [] }.take c = none) :
    let t := (s.grantAdmission c).settle
    (t.chan c).booking = (s.chan c).cfg.bookingFor (s.chan c).duty false ∧ (t.chan c).state = .slotwait
      ∧ t.sequencer = ⟨s.sequencer.slot0, s.sequencer.slot1, [c]⟩ ∧ t.intents = s.intents
      ∧ ∀ d, d ≠ c → t.chan d = (s.chan d).followed := by
  have hnone : (s.joined c).handSlots = s.joined c := State.handSlots_none rfl ht
  have hsettle : (s.grantAdmission c).settle = (s.joined c).echoed := by
    rw [State.grantAdmission_cool hh p.noQueue h0 h1, hnone, State.settle, hnone]
    exact settleFor_of_noFollower _ _ ((s.joined_bind c) ▸ p.noFollower)
  dsimp only
  rw [hsettle]
  refine ⟨?_, ?_, rfl, s.joined_intents c, fun d hd => ?_⟩
  · rw [State.echoed_chan, State.joined_chan]
    rfl
  · rw [State.echoed_chan, State.joined_chan]
    rfl
  · rw [State.echoed_chan, State.joined_chan_ne hd]

/-- R66, R80: what becomes of a channel admitted over a NORMAL switch: slot 0 first, then slot 1, then the slot queue. -/
theorem State.grantAdmission_slots (p : s.Plain) (hh : (s.chan c).prot.hot = false) (h0 : s.sequencer.slot0 ≠ some c)
    (h1 : s.sequencer.slot1 ≠ some c) :
    let t := (s.grantAdmission c).settle
    (t.chan c).booking = (s.chan c).cfg.bookingFor (s.chan c).duty false
      ∧ (s.sequencer.slot0 = none → (t.chan c).state = .starting ∧ t.sequencer = ⟨some c, s.sequencer.slot1, []⟩)
      ∧ (s.sequencer.slot0 ≠ none → s.sequencer.slot1 = none →
          (t.chan c).state = .starting ∧ t.sequencer = ⟨s.sequencer.slot0, some c, []⟩)
      ∧ (s.sequencer.slot0 ≠ none → s.sequencer.slot1 ≠ none →
          (t.chan c).state = .slotwait ∧ t.sequencer = ⟨s.sequencer.slot0, s.sequencer.slot1, [c]⟩)
      ∧ t.intents = s.intents ∧ ∀ d, d ≠ c → t.chan d = (s.chan d).followed := by
  have hstarts := fun q => State.grantAdmission_starts (q := q) p hh h0 h1
  have hwaits := State.grantAdmission_waits p hh h0 h1
  cases e0 : s.sequencer.slot0 with
  | none =>
    obtain ⟨hb, hs, hq, hrest⟩ := hstarts ⟨some c, s.sequencer.slot1, []⟩ (by simp [StartSequencer.take, e0])
    exact ⟨hb, fun _ => ⟨hs, hq⟩, fun h => absurd rfl h, fun h => absurd rfl h, hrest⟩
  | some a =>
    cases e1 : s.sequencer.slot1 with
    | none =>
      obtain ⟨hb, hs, hq, hrest⟩ := hstarts ⟨some a, some c, []⟩ (by simp [StartSequencer.take, e0, e1])
      exact ⟨hb, fun h => absurd h (Option.some_ne_none a), fun _ _ => ⟨hs, hq⟩, fun _ h => absurd rfl h, hrest⟩
    | some b =>
      obtain ⟨hb, hs, hq, hrest⟩ := hwaits (by simp [StartSequencer.take, e0, e1])
      rw [e0, e1] at hq
      exact ⟨hb, fun h => absurd h (Option.some_ne_none a), fun _ h => absurd h (Option.some_ne_none b),
        fun _ _ => ⟨hs, hq⟩, hrest⟩

/-- R115: a channel in SLOTWAIT takes THERMAL. -/
theorem State.takeFault_slotwait (hs : (s.chan c).state = .slotwait) :
    s.takeFault c .thermal = (s.enter c (·.retryStop .thermal)).requestStatus c := by
  have ht : (s.chan c).takesFault .thermal = true := by simp [ChannelRecord.takesFault, hs]
  have hn : ((s.chan c).state == .cooldown && FaultKind.thermal == .thermal) = false := by rw [hs]; rfl
  unfold State.takeFault
  dsimp only
  rw [if_neg (Bool.eq_false_iff.1 hn), if_pos ht]
  rfl

/-- R115: a channel admitted over a HOT switch is stopped by THERMAL and takes no slot. -/
theorem State.grantAdmission_hot (p : s.Plain) (hh : (s.chan c).prot.hot = true) (h0 : s.sequencer.slot0 ≠ some c)
    (h1 : s.sequencer.slot1 ≠ some c) :
    let t := (s.grantAdmission c).settle
    (s.chan c).StoppedHot (t.chan c) ∧ t.sequencer = s.sequencer ∧ t.intents = s.intents
      ∧ ∀ d, d ≠ c → t.chan d = (s.chan d).followed := by
  obtain ⟨w, hw⟩ : ∃ w, s.enter c (·.toSlotwait) = w := ⟨_, rfl⟩
  have htouch : State.Touches c s w := hw ▸ State.touches_enter p.noQueue
  have hwc : w.chan c = (s.chan c).toSlotwait := by rw [← hw]; exact State.enter_chan_self c _ s
  have hwq : w.sequencer = s.sequencer := by rw [← hw, State.enter_slots p.noQueue h0 h1]
  have hwi : w.intents = s.intents := by rw [← hw, State.enter_intents]
  have hgrant : s.grantAdmission c = w.takeFault c .thermal := by
    have : (s.chan c).toSlotwait.prot.hot = true := hh
    unfold State.grantAdmission
    dsimp only
    rw [hw, hwc, if_pos this]
  have hfault := State.takeFault_slotwait (s := w) (c := c) (by rw [hwc]; rfl)
  have hall : State.Touches c s (w.takeFault c .thermal) := htouch.trans (State.touches_takeFault htouch.noQueue)
  dsimp only
  rw [hgrant, hall.settle p]
  refine ⟨?_, ?_, ?_, fun d hd => hall.echoed_others hd⟩
  · rw [State.echoed_chan, hfault, State.requestStatus_chan, State.enter_chan_self, hwc]
    unfold ChannelRecord.StoppedHot ChannelRecord.retryStop
    dsimp only
    have hlimit : (s.chan c).toSlotwait.cfg.retryLimit = (s.chan c).cfg.retryLimit := rfl
    have hcount : (s.chan c).toSlotwait.retryCount = (s.chan c).retryCount := rfl
    rw [hlimit, hcount]
    split <;> exact ⟨rfl, rfl, rfl, rfl, rfl, rfl, rfl⟩
  · rw [State.echoed_sequencer, hfault, State.requestStatus_sequencer, State.enter_slots, hwq]
    · rw [hwq, p.noQueue]
    · rwa [hwq]
    · rwa [hwq]
  · obtain ⟨x, hx⟩ := State.requestStatus_eq c (w.enter c (·.retryStop .thermal))
    rw [State.echoed_intents, hfault, hx, State.setQueue_intents, State.enter_intents, hwi]

end Sys2Proof.Machine

/-- Settles O30. -/
theorem holdExpiryDecides : Obligations.HoldExpiryDecides := by
  open Sys2Proof.Machine in
  intro c s xs zs y p hp h0 h1 h hx hst hch r prior admitted
  have hxs : ∀ e ∈ xs, s.isOwnEntry c e = false := fun e he => Bool.eq_false_iff.2 fun ho => hx e he (State.isOwnEntry_iff.1 ho)
  have hy : s.isOwnEntry c y = true := State.isOwnEntry_iff.2 ⟨hst, hch⟩
  have hexec := exec_holdExpiry h hxs hy
  refine ⟨fun hne => hexec.trans (if_neg (by simpa [ended] using hne)), fun he => ?_⟩
  rw [he, if_pos (by rfl), State.decide_eq h hp] at hexec
  obtain ⟨v, hv⟩ : ∃ v, s.setEntries (xs ++ zs) = v := ⟨_, rfl⟩
  have hvp : v.Plain := by rw [← hv]; exact ⟨p.noFollower, p.noQueue⟩
  have hvi : v.intents = ⟨xs ++ zs, s.intents.overflow⟩ := by rw [← hv]; rfl
  have hvc : v.chan = s.chan := by rw [← hv]; rfl
  have hvq : v.sequencer = s.sequencer := by rw [← hv]; rfl
  rw [hv] at hexec
  by_cases ha : s.admits c xs.length y = true
  · have hadm : admitted := (State.admits_iff h).1 ha
    rw [if_pos ha] at hexec
    rw [← hvq] at h0 h1
    refine ⟨_, hexec, ?_⟩
    cases hh : r.prot.hot with
    | false =>
      have hslots := State.grantAdmission_slots hvp (by rw [hvc]; exact hh) h0 h1
      rw [hvq, hvc, hvi] at hslots
      obtain ⟨hb, hs0, hs1, hs2, hi, hd⟩ := hslots
      exact ⟨hi, fun _ _ => ⟨hb, hs0, hs1, hs2⟩, fun _ h => absurd h Bool.false_ne_true, fun h => absurd hadm h, hd⟩
    | true =>
      have hhot := State.grantAdmission_hot hvp (by rw [hvc]; exact hh) h0 h1
      rw [hvq, hvc, hvi] at hhot
      obtain ⟨hs, hq, hi, hd⟩ := hhot
      exact ⟨hi, fun _ h => absurd h.symm Bool.false_ne_true, fun _ _ => ⟨hs, hq⟩, fun h => absurd hadm h, hd⟩
  · have hadm : ¬admitted := mt (State.admits_iff h).2 ha
    rw [if_neg ha] at hexec
    have ht := State.touches_refuse (c := c) hvp.noQueue
    refine ⟨_, hexec.trans (congrArg Host.Outcome.next (ht.settle hvp)), ?_, fun h => absurd h hadm,
      fun h => absurd h hadm, fun _ => ⟨?_, ?_, fun hm hq => ?_⟩, fun d hd => ?_⟩
    · exact (State.refuse_intents c v).trans hvi
    · rw [State.echoed_chan, State.refuse_chan]
      rfl
    · rw [State.echoed_chan, State.refuse_chan]
      rfl
    · exact State.refuse_withdraws (s := v) (by rw [← hv]; exact hm) (by rw [← hv]; exact hq)
    · rw [ht.echoed_others hd, hvc]
end

-- ==== Proofs: reports ====
section
/-! SUPPORT. What a budget round leaves (R67 to R77), and that nothing but a report touches a queued DRAW (R160). -/

namespace Sys2Proof.Machine

variable {s t u : State} {c : Channel} {f : TxFrame} {R : State → State → Prop}

/-! ### Faults, starts and announcements -/

/-- A relation that changes of a record, entries, status requests, frames queued but DRAWs, and slots handed on keep. -/
structure State.Routine (R : State → State → Prop) : Prop where
  refl : ∀ s, R s s
  trans : ∀ {s t u}, R s t → R t u → R s u
  modChan : ∀ c g (s : State), R s (s.modChan c g)
  enter : ∀ c g (s : State), R s (s.enter c g)
  offer : ∀ {f} {s t : State}, f.isDraw = false → s.offer f = some t → R s t
  handOver : ∀ {s : State} {c : Channel} {rest : List Channel} (q : StartSequencer), s.sequencer.queue = c :: rest →
    R s { s with sequencer := q }

theorem State.Routine.send (k : State.Routine R) (h : f.isDraw = false) (s : State) : R s (s.send f) := by
  unfold State.send
  cases ho : s.offer f with
  | none => exact k.refl s
  | some t => exact k.offer h ho

theorem State.Routine.requestStatus (k : State.Routine R) (c : Channel) (s : State) : R s (s.requestStatus c) := by
  unfold State.requestStatus
  split
  · exact k.refl s
  · exact k.send rfl s

theorem State.Routine.takeFault (k : State.Routine R) (c : Channel) (x : FaultKind) (s : State) : R s (s.takeFault c x) := by
  have hm : ∀ g, R s ((s.modChan c g).requestStatus c) := fun g => k.trans (k.modChan c g s) (k.requestStatus c _)
  have he : ∀ g, R s ((s.enter c g).requestStatus c) := fun g => k.trans (k.enter c g s) (k.requestStatus c _)
  unfold State.takeFault
  dsimp only
  split
  · exact hm _
  · split
    · cases (s.chan c).cfg.actionFor x with
      | latch => exact he _
      | retry => exact he _
      | report => exact hm _
      | ignore => exact k.refl s
    · exact k.refl s

theorem State.Routine.startChannel (k : State.Routine R) (c : Channel) (s : State) : R s (s.startChannel c) := by
  unfold State.startChannel
  dsimp only
  split
  · exact k.trans (k.enter c _ s) (k.takeFault c _ _)
  · exact k.enter c _ s

theorem State.Routine.handSlotsFor (k : State.Routine R) (n : Nat) : ∀ s : State, R s (handSlotsFor n s) := by
  induction n with
  | zero => exact k.refl
  | succ n ih =>
    intro s
    unfold Machine.handSlotsFor
    split
    · exact k.refl s
    · next hq =>
      split
      · exact k.refl s
      · exact k.trans (k.trans (k.handOver _ hq) (k.startChannel _ _)) (ih _)

theorem State.Routine.handSlots (k : State.Routine R) (s : State) : R s s.handSlots := k.handSlotsFor 20 s

theorem State.Routine.announce (k : State.Routine R) (c : Channel) (s : State) : R s (s.announce c) := by
  unfold State.announce
  dsimp only
  split
  · next ho => exact k.trans (k.enter c _ s) (k.offer rfl ho)
  · exact k.trans (k.enter c _ s) (k.enter c _ _)

theorem State.Routine.foldl {α : Type} {g : State → α → State} (k : State.Routine R) (h : ∀ (s : State) a, R s (g s a))
    (l : List α) : ∀ s : State, R s (l.foldl g s) := by
  induction l with
  | nil => exact k.refl
  | cons a l ih => exact fun s => k.trans (h s a) (ih _)

/-- A fold beside a total. -/
theorem State.Routine.foldlPair {g : State × Nat → Channel → State × Nat} (k : State.Routine R)
    (h : ∀ p c, R p.1 (g p c).1) (l : List Channel) : ∀ p : State × Nat, R p.1 (l.foldl g p).1 := by
  induction l with
  | nil => exact fun p => k.refl p.1
  | cons c l ih => exact fun p => k.trans (h p c) (ih _)

/-! ### The stages of a round (R67 to R76) -/

theorem State.Routine.shedAbove (k : State.Routine R) (tr : Tier) (s : State) : R s (s.shedAbove tr) := by
  refine k.foldl (fun s c => ?_) _ s
  split
  · exact k.enter c _ s
  · exact k.refl s

theorem State.Routine.throttle (k : State.Routine R) (c : Channel) (s : State) : R s (s.throttle c) := by
  unfold State.throttle
  split
  · exact k.enter c _ s
  · exact k.modChan c _ s

theorem State.Routine.throttleStep (k : State.Routine R) (tr : Tier) (share : Nat) (s : State) :
    R s (s.throttleStep tr share).1 := by
  refine k.foldlPair (fun p c => ?_) _ (s, 0)
  dsimp only
  split
  · exact k.throttle c p.1
  · exact k.refl p.1

theorem State.Routine.offStep (k : State.Routine R) (tr : Tier) (share : Nat) (p : State × Nat) :
    R p.1 (State.offStep tr share p).1 := by
  refine k.foldlPair (fun p c => ?_) _ p
  dsimp only
  split
  · exact k.enter c _ p.1
  · exact k.refl p.1

/-- R67 to R72: the shed stage, once the overbooked indicator has been judged. -/
theorem State.Routine.shedStage (k : State.Routine R) (s : State) : R s.judgeOverbooked s.shedStage := by
  unfold State.shedStage
  split
  · exact k.refl _
  · exact k.trans (k.trans (k.trans (k.shedAbove _ _) (k.throttleStep _ _ _)) (k.offStep _ _ _)) (k.handSlots _)

theorem State.Routine.unthrottle (k : State.Routine R) (c : Channel) (s : State) : R s (s.unthrottle c) := by
  unfold State.unthrottle
  split
  · exact k.enter c _ s
  · exact k.modChan c _ s

theorem State.Routine.restoreStages (k : State.Routine R) (b : Bool) (s : State) : R s (s.restoreStages b) := by
  have hrestore : ∀ chosen : Option Channel, R s (match chosen with
      | some c => if (s.chan c).throttled = true then s.unthrottle c else s
      | none => s) := by
    intro chosen
    split
    · split
      · exact k.unthrottle _ s
      · exact k.refl s
    · exact k.refl s
  exact k.trans (hrestore _) (k.foldl (fun s c => k.announce c s) _ _)

/-! ### The Intent List, the bindings and an empty slot queue stand -/

/-- From `s` to `t` the Intent List and the bindings stand, and no channel comes to wait for a slot where none waited. -/
structure State.Calm (s t : State) : Prop where
  intents : t.intents = s.intents
  bind : t.bind = s.bind
  noQueue : s.sequencer.queue = [] → t.sequencer.queue = []

theorem State.Calm.refl (s : State) : s.Calm s := ⟨rfl, rfl, id⟩

theorem State.Calm.trans (h : s.Calm t) (k : t.Calm u) : s.Calm u :=
  ⟨k.intents.trans h.intents, k.bind.trans h.bind, fun hq => k.noQueue (h.noQueue hq)⟩

theorem State.Calm.plain (h : s.Calm t) (p : s.Plain) : t.Plain := ⟨h.bind ▸ p.noFollower, h.noQueue p.noQueue⟩

theorem State.calm_send (f : TxFrame) (s : State) : s.Calm (s.send f) := by
  obtain ⟨q, h⟩ := State.send_eq f s
  rw [h]
  exact ⟨rfl, rfl, id⟩

theorem State.routine_calm : State.Routine State.Calm where
  refl := State.Calm.refl
  trans := State.Calm.trans
  modChan _ _ _ := ⟨rfl, rfl, id⟩
  enter c g s := ⟨State.enter_intents c g s, State.enter_bind c g s, State.enter_noQueue c g⟩
  offer _ ho := by
    obtain ⟨_, q, _, rfl⟩ := State.offer_eq_some ho
    exact ⟨rfl, rfl, id⟩
  handOver q hq := ⟨rfl, rfl, fun h => by rw [h] at hq; cases hq⟩

theorem State.calm_judgeOverbooked (s : State) : s.Calm s.judgeOverbooked := by
  unfold State.judgeOverbooked
  dsimp only
  split <;> exact ⟨rfl, rfl, id⟩

theorem State.calm_takeRound (s : State) : s.Calm s.takeRound := by
  have hshed : s.Calm s.shedStage := s.calm_judgeOverbooked.trans (State.routine_calm.shedStage s)
  have hreport : ∀ u : State, u.Calm u.reportStage := fun u => State.calm_send _ u
  unfold State.takeRound
  split
  · exact .refl s
  · exact hshed.trans (hreport _)
  · exact hshed.trans (hreport _)
  · exact (hshed.trans (State.routine_calm.restoreStages _ _)).trans (hreport _)
  · exact hshed
  · exact hreport s

theorem State.calm_setWorst (s : State) : s.Calm s.setWorst := by
  unfold State.setWorst
  split <;> exact ⟨rfl, rfl, id⟩

theorem State.calm_peerNotice (b : Option Band) (s : State) : s.Calm (s.peerNotice b) := by
  have hraise : ∀ u : State, u.Calm (u.raise .bandDrop) := fun _ => ⟨rfl, rfl, id⟩
  unfold State.peerNotice State.bandNotice
  dsimp only
  split
  · exact .refl s
  · split
    · exact (s.calm_setWorst.trans (hraise _)).trans (State.calm_takeRound _)
    · exact s.calm_setWorst

/-! ### Queued DRAWs stand (R160) -/

/-- The DRAWs that wait. -/
def State.draws (s : State) : List TxEntry := s.line.queue.filter fun e => e.frame.isDraw

/-- R160: a frame but a DRAW that the queue takes leaves the DRAWs. -/
theorem offerTo_draws {q q' : List TxEntry} (hf : f.isDraw = false) (h : offerTo f q = some q') :
    q'.filter (fun e => e.frame.isDraw) = q.filter fun e => e.frame.isDraw := by
  rcases offerTo_cases h with ⟨hd, -⟩ | ⟨-, -, rfl⟩ | ⟨-, -, -, xs, e, zs, rfl, he, -, rfl⟩
  · rw [hf] at hd
    cases hd
  · simp [List.filter_append, hf]
  · have hed : e.frame.isDraw = false := by
      have : e.frame.kind = 5 := by simpa [TxFrame.isStatus] using he
      simp [TxFrame.isDraw, this]
    simp [List.filter_append, hf, hed]

/-- From `s` to `t` the queued DRAWs stand. -/
def State.SameDraws (s t : State) : Prop := t.draws = s.draws

theorem State.SameDraws.trans (h : s.SameDraws t) (k : t.SameDraws u) : s.SameDraws u := Eq.trans k h

theorem State.sameDraws_offer (hf : f.isDraw = false) (h : s.offer f = some t) : s.SameDraws t := by
  obtain ⟨_, q, hq, rfl⟩ := State.offer_eq_some h
  exact offerTo_draws hf hq

theorem State.sameDraws_enter (c : Channel) (g : ChannelRecord → ChannelRecord) (s : State) : s.SameDraws (s.enter c g) := by
  unfold State.SameDraws State.draws
  rcases State.enter_txQueue c g s with h | h <;> rw [h]
  simp [TxFrame.isDraw, TxFrame.kind]

theorem State.routine_sameDraws : State.Routine State.SameDraws where
  refl _ := rfl
  trans := State.SameDraws.trans
  modChan _ _ _ := rfl
  enter := State.sameDraws_enter
  offer := State.sameDraws_offer
  handOver _ _ := rfl

/-! ### What follows an event leaves the queued DRAWs -/

theorem State.sameDraws_undoAnnouncement (c : Channel) (s : State) : s.SameDraws (s.undoAnnouncement c) := by
  unfold State.undoAnnouncement
  split
  · show (s.txQueue.filter _).filter _ = _
    rw [List.filter_filter]
    refine List.filter_congr fun e _ => ?_
    cases e.frame <;> rfl
  · split
    · exact State.SameDraws.trans rfl (State.routine_sameDraws.send rfl _)
    · rfl

theorem State.sameDraws_beginRequest (c : Channel) (s : State) : s.SameDraws (s.beginRequest c) := by
  have k := State.routine_sameDraws
  unfold State.beginRequest
  split
  · rfl
  · split
    · exact k.startChannel c s
    · rfl
  · split
    · exact k.startChannel c s
    · exact k.announce c s
  all_goals
    split
    · exact k.startChannel c s
    · exact k.enter c _ s

theorem State.sameDraws_requestFall (c : Channel) (s : State) : s.SameDraws (s.requestFall c) := by
  have k := State.routine_sameDraws
  have hfree : s.SameDraws (s.freeSlot c) := State.SameDraws.trans (by rfl) (k.handSlots _)
  unfold State.requestFall
  cases (s.chan c).state with
  | pending => exact (State.sameDraws_undoAnnouncement c s).trans (k.enter c _ _)
  | starting => exact hfree.trans (k.enter c _ _)
  | deferred | slotwait | on | cycling | shed => exact k.enter c _ s
  | off | cooldown | latched | inhibited => rfl

theorem State.sameDraws_applyRequest (c : Channel) (s : State) : s.SameDraws (s.applyRequest c) := by
  have h : ∀ g, s.SameDraws (s.modChan c g) := fun _ => rfl
  unfold State.applyRequest State.requestRise
  dsimp only
  split
  · rfl
  · split
    · split
      · exact (h _).trans (State.sameDraws_beginRequest c _)
      · exact h _
    · split
      · exact (h _).trans (State.sameDraws_requestFall c _)
      · exact h _

theorem State.sameDraws_setRaw (c : Channel) (v : Byte) (s : State) : s.SameDraws (s.setRaw c v) := by
  unfold State.setRaw
  split
  · rfl
  · exact State.SameDraws.trans rfl (State.sameDraws_applyRequest c _)

theorem State.sameDraws_reevaluate (c : Channel) (s : State) : s.SameDraws (s.reevaluate c) := by
  have hbindings : ∀ bs, s.SameDraws (s.setBindings bs) := fun _ => rfl
  unfold State.reevaluate
  exact ((hbindings _).trans (State.sameDraws_setRaw c _ _)).trans (State.routine_sameDraws.handSlots _)

theorem State.sameDraws_sourceChanged (n : Byte) (s : State) : s.SameDraws (s.sourceChanged n) :=
  (State.routine_sameDraws.foldl (fun s c => (rfl : s.SameDraws (s.notice c))) _ s).trans
    (State.routine_sameDraws.foldl (fun s c => State.sameDraws_reevaluate c s) _ _)

theorem sameDraws_settleFor (n : Nat) : ∀ s : State, s.SameDraws (settleFor n s) := by
  induction n with
  | zero => exact fun _ => rfl
  | succ n ih =>
    intro s
    unfold settleFor
    split
    · rfl
    · have htaken : ∀ l c g, s.SameDraws (({ s with echoes := l } : State).modChan c g) := fun _ _ _ => rfl
      exact ((htaken _ _ _).trans (State.sameDraws_sourceChanged _ _)).trans (ih _)

/-- R38, R81, R160: what follows an event leaves the queued DRAWs. -/
theorem State.sameDraws_settle (s : State) : s.SameDraws s.settle :=
  (State.routine_sameDraws.handSlots s).trans (sameDraws_settleFor _ _)

end Sys2Proof.Machine
end

-- ==== Proofs: draw ====
section
/-! PROOFS. Draw reports, peer entries that turn STALE, and what the Budget Unit makes of them (R43 to R47, R54, R60): O25,
O26. -/

namespace Sys2Proof.Machine

variable {s t u : State} {st : Station}

/-! ### A report taken (R43, R44, R54) -/

/-- R44: what an insertion makes of a table in station order. -/
theorem mem_insertPeer_iff {e x : PeerEntry} {l : List PeerEntry} (h : l.Pairwise fun a b => a.station < b.station) :
    x ∈ insertPeer e l ↔ (x.station ≠ e.station ∧ x ∈ l) ∨ x = e := by
  induction l with
  | nil => simp [insertPeer]
  | cons y l ih =>
    obtain ⟨hy, hl⟩ := List.pairwise_cons.1 h
    unfold insertPeer
    split
    · next hlt =>
      have hne : ∀ z ∈ y :: l, z.station ≠ e.station := fun z hz => by
        rcases List.mem_cons.1 hz with rfl | hz
        · exact hlt.ne'
        · exact (hlt.trans (hy z hz)).ne'
      rw [List.mem_cons]
      exact ⟨fun h => h.elim .inr fun hx => .inl ⟨hne x hx, hx⟩, fun h => h.elim (fun hx => .inr hx.2) .inl⟩
    · split
      · next heq =>
        have hne : ∀ z ∈ l, z.station ≠ e.station := fun z hz => by
          rw [heq]
          exact (hy z hz).ne'
        rw [List.mem_cons, List.mem_cons]
        constructor
        · rintro (rfl | hx)
          · exact .inr rfl
          · exact .inl ⟨hne x hx, .inr hx⟩
        · rintro (⟨hn, rfl | hx⟩ | rfl)
          · exact absurd heq.symm hn
          · exact .inr hx
          · exact .inl rfl
      · next hne =>
        rw [List.mem_cons, List.mem_cons, ih hl]
        constructor
        · rintro (rfl | ⟨hn, hx⟩ | rfl)
          · exact .inl ⟨Ne.symm hne, .inl rfl⟩
          · exact .inl ⟨hn, .inr hx⟩
          · exact .inr rfl
        · rintro (⟨hn, rfl | hx⟩ | rfl)
          · exact .inl rfl
          · exact .inr (.inl ⟨hn, hx⟩)
          · exact .inr (.inr rfl)

/-- R43: the entry of a report is in the table. -/
theorem mem_insertPeer_self (e : PeerEntry) (l : List PeerEntry) : e ∈ insertPeer e l := by
  induction l with
  | nil => exact List.mem_singleton_self e
  | cons x l ih =>
    unfold insertPeer
    split
    · exact List.mem_cons_self
    · split
      · exact List.mem_cons_self
      · exact List.mem_cons_of_mem _ ih

/-- R54: a report of another station counts against its own entries alone. -/
theorem countReport_other {own : Station} (h : st ≠ own) (es : List IntentEntry) : countReport own st es
    = (es.filter fun e => e.station != st || e.reports == 0).map fun e =>
        if e.station = st then { e with reports := e.reports + 1 } else e := by
  have hkeep : ∀ e : IntentEntry, (!(e.station == st && e.station != own && 1 ≤ e.reports))
      = (e.station != st || e.reports == 0) := fun e => by
    by_cases he : e.station = st
    · have hown : (e.station != own) = true := bne_iff_ne.2 (he ▸ h)
      rw [beq_iff_eq.2 he, hown, show (e.station != st) = false by simp [he]]
      cases e.reports <;> rfl
    · rw [beq_false_of_ne he, bne_iff_ne.2 he]
      rfl
  have hcount : ∀ e : IntentEntry, (if e.station = st ∧ e.station ≠ own then { e with reports := e.reports + 1 } else e)
      = if e.station = st then { e with reports := e.reports + 1 } else e := fun e =>
    if_congr ⟨And.left, fun he => ⟨he, he ▸ h⟩⟩ rfl rfl
  unfold countReport
  simp only [hkeep, hcount]

/-- R43: a DRAW frame's booking fields, in tier order. -/
def drawValues (w0 w1 w2 w3 : BitVec 16) : TierValues :=
  ⟨drawBooking w0, drawBooking w1, drawBooking w2, drawBooking w3⟩

/-- R43, R44: a report of another station. -/
theorem exec_draw {w0 w1 w2 w3 : BitVec 16} {b : Band} (hm : s.mode ≠ .configuring) (hb : s.line.busOff = false)
    (ho : st ≠ s.own) (h : Band.ofCode (w0.toNat / 8192) = some b) :
    exec (.draw st w0 w1 w2 w3) s = .next (s.heardFrame.takeDraw st b (drawValues w0 w1 w2 w3)).settle := by
  have hband : drawBand w0 = some b := h
  show execDraw st w0 w1 w2 w3 s = _
  unfold execDraw
  rw [State.receive_other _ hm hb ho, hband]
  rfl

/-- R43: a report of a band code above 3. -/
theorem exec_draw_dropped {w0 w1 w2 w3 : BitVec 16} (hm : s.mode ≠ .configuring) (hb : s.line.busOff = false)
    (ho : st ≠ s.own) (h : Band.ofCode (w0.toNat / 8192) = none) :
    exec (.draw st w0 w1 w2 w3) s = .next s.heardFrame.settle := by
  have hband : drawBand w0 = none := h
  show execDraw st w0 w1 w2 w3 s = _
  unfold execDraw
  rw [State.receive_other _ hm hb ho, hband]

/-- R43, R44, R54: the Peer Table and the Intent List once a report has been taken, before the Budget Unit hears of it. -/
def State.reported (st : Station) (b : Band) (v : TierValues) (s : State) : State :=
  ({ s with peers := insertPeer ⟨st, v, b, 0, false⟩ s.peers } : State).setEntries (countReport s.own st s.intents.entries)

theorem State.takeDraw_eq (b : Band) (v : TierValues) (s : State) :
    s.takeDraw st b v = (s.reported st b v).peerNotice s.lowestLiveBand := rfl

theorem State.Bands.silence (h : s.Bands t) : t.line.silence = s.line.silence := by
  rw [← h]
  rfl

theorem State.heardFrame_silence (s : State) : s.heardFrame.line.silence = some 0 := by
  unfold State.heardFrame
  split <;> rfl

theorem State.heardFrame_sorted (h : s.peers.Pairwise fun a b => a.station < b.station) :
    s.heardFrame.peers.Pairwise fun a b => a.station < b.station := by
  unfold State.heardFrame
  split
  · exact h.sublist List.filter_sublist
  · exact h

/-- R45: once judged, no LIVE entry of the station is 350 ms old. -/
theorem PeerEntry.judgedStale_stale {e : PeerEntry} (hst : (e.judgedStale st).station = st)
    (hage : 350 ≤ (e.judgedStale st).age) : (e.judgedStale st).stale = true := by
  by_cases h : e.station = st ∧ e.stale = false ∧ 350 ≤ e.age
  · rw [PeerEntry.judgedStale, if_pos h]
  · have hsame : e.judgedStale st = e := if_neg h
    rw [hsame] at hst hage ⊢
    by_contra hl
    exact h ⟨hst, by simpa using hl, hage⟩

/-! ### The worst band (R47, R60) -/

theorem Band.lower_cases (a b : Band) : a.lower b = a ∨ a.lower b = b := by
  unfold Band.lower
  split
  · exact .inr rfl
  · exact .inl rfl

theorem Band.lower_le (a b : Band) : (a.lower b).code ≤ a.code ∧ (a.lower b).code ≤ b.code := by
  unfold Band.lower
  split <;> omega

/-- R47: the lowest of several bands, one found so far. -/
theorem foldl_lowerOf (l : List Band) : ∀ a : Band, ∃ p, l.foldl lowerOf (some a) = some p
    ∧ (p = a ∨ p ∈ l) ∧ p.code ≤ a.code ∧ ∀ b ∈ l, p.code ≤ b.code := by
  induction l with
  | nil => exact fun a => ⟨a, rfl, .inl rfl, Nat.le_refl _, fun b hb => absurd hb List.not_mem_nil⟩
  | cons b l ih =>
    intro a
    obtain ⟨p, hp, hin, hle, hall⟩ := ih (a.lower b)
    obtain ⟨h1, h2⟩ := Band.lower_le a b
    refine ⟨p, hp, ?_, hle.trans h1, fun x hx => ?_⟩
    · rcases hin with rfl | hin
      · rcases Band.lower_cases a b with h | h <;> rw [h]
        · exact .inl rfl
        · exact .inr List.mem_cons_self
      · exact .inr (List.mem_cons_of_mem _ hin)
    · rcases List.mem_cons.1 hx with rfl | hx
      · exact hle.trans h2
      · exact hall x hx

/-- R47: the lowest LIVE band, none where no entry is LIVE. -/
theorem State.lowestLiveBand_spec (s : State) : (s.lowestLiveBand = none ∧ s.liveBands = [])
    ∨ ∃ p, s.lowestLiveBand = some p ∧ p ∈ s.liveBands ∧ ∀ b ∈ s.liveBands, p.code ≤ b.code := by
  rw [State.lowestLiveBand_eq]
  cases s.liveBands with
  | nil => exact .inl ⟨rfl, rfl⟩
  | cons a l =>
    obtain ⟨p, hp, hin, hle, hall⟩ := foldl_lowerOf l a
    exact .inr ⟨p, hp, List.mem_cons.2 hin, fun b hb => (List.mem_cons.1 hb).elim (fun e => e ▸ hle) (hall b)⟩

theorem State.mem_liveBands {b : Band} : b ∈ s.liveBands ↔ ∃ e ∈ s.peers, e.stale = false ∧ e.band = b := by
  simp [State.liveBands, and_assoc]

/-- R60: the worst band is the lowest of the own band and the LIVE bands. -/
theorem State.worstBand_spec {own : Band} (h : s.budget.ownBand = some own) : ∃ w, s.worstBand = some w
    ∧ (w = own ∨ ∃ e ∈ s.peers, e.stale = false ∧ e.band = w) ∧ w.code ≤ own.code
    ∧ ∀ e ∈ s.peers, e.stale = false → w.code ≤ e.band.code := by
  have hlive : ∀ e ∈ s.peers, e.stale = false → e.band ∈ s.liveBands := fun e he hl => State.mem_liveBands.2 ⟨e, he, hl, rfl⟩
  unfold State.worstBand
  rw [h]
  rcases s.lowestLiveBand_spec with ⟨hn, hnil⟩ | ⟨p, hp, hin, hall⟩
  · rw [hn]
    exact ⟨own, rfl, .inl rfl, Nat.le_refl _, fun e he hl => by rw [hnil] at hlive; exact absurd (hlive e he hl) List.not_mem_nil⟩
  · rw [hp]
    obtain ⟨h1, h2⟩ := Band.lower_le own p
    refine ⟨own.lower p, rfl, (Band.lower_cases own p).imp_right fun hw => ?_, h1, fun e he hl => h2.trans (hall _ (hlive e he hl))⟩
    rw [hw]
    exact State.mem_liveBands.1 hin

theorem BudgetConfig.allowanceAt_eq (k : BudgetConfig) (w : Band) : k.allowanceAt w = match w with
    | .charging => k.aCfg
    | .battery => k.aCfg * k.pB / 100
    | .low => k.aCfg * k.pL / 100
    | .crank => 0 := by
  cases w with
  | charging => exact Nat.mul_div_cancel k.aCfg (show 0 < 100 by decide)
  | battery | low => rfl
  | crank => exact (congrArg (· / 100) (Nat.mul_zero _)).trans (Nat.zero_div _)

/-! ### A band notice (R60) -/

/-- R163: a flag that is set stays set through a round. -/
theorem State.takeRound_eventSet {e : PartEvent} (h : s.eventSet e = true) : s.takeRound.eventSet e = true := by
  have hacts : ∀ {u v : State}, u.Acts v → u.eventSet e = true → v.eventSet e = true := fun k hu => by
    unfold State.eventSet at *
    rwa [k.events]
  have hraise : ∀ {u : State} (x : PartEvent), u.eventSet e = true → (u.raise x).eventSet e = true := fun x hu => by
    unfold State.eventSet at *
    rw [State.raise_events, BitVec.getLsbD_or, hu, Bool.true_or]
  have hjudge : s.judgeOverbooked.eventSet e = true := by
    unfold State.judgeOverbooked
    dsimp only
    split
    · exact hraise _ h
    · exact h
  have hshed := hacts (State.moves_shedStage s).acts hjudge
  have hreport : ∀ {u : State}, u.eventSet e = true → u.reportStage.eventSet e = true := hacts (State.acts_send _ _)
  unfold State.takeRound
  split
  · exact h
  · exact hreport hshed
  · exact hreport hshed
  · exact hreport (hacts (State.moves_restoreStages _ _).acts hshed)
  · exact hshed
  · exact hreport h

/-- R77: the report of a round takes its place in the queue. -/
theorem State.reportStage_draws (hm : s.mode ≠ .limp) {own : Band} (h : s.budget.ownBand = some own) :
    s.reportStage.draws = [⟨.draw own s.reportValues, 0, none⟩] := by
  have hd : s.discards (.draw own s.reportValues) = false := by simp [State.discards, hm, TxFrame.kind]
  unfold State.reportStage State.send State.offer
  rw [h, Option.getD_some, hd]
  show List.filter _ (List.filter _ _ ++ _) = _
  rw [List.filter_append, List.filter_filter]
  simp [TxFrame.isDraw, TxFrame.kind]

/-- R58, R77: a round outside CLASHED and LIMP reports. -/
theorem State.takeRound_draws (hm : s.mode = .listening ∨ s.mode = .running ∨ s.mode = .isolated) {own : Band}
    (h : s.budget.ownBand = some own) : ∃ v, s.takeRound.draws = [⟨.draw own v, 0, none⟩] := by
  have hown : ∀ {u : State}, s.Rounds u → u.mode ≠ .limp ∧ u.budget.ownBand = some own := fun k => by
    refine ⟨?_, ?_⟩
    · rw [k.mode]
      rcases hm with e | e | e <;> rw [e] <;> exact PartMode.noConfusion
    · rw [← h, ← k]
  have hreport : ∀ {u : State}, s.Rounds u → ∃ v, u.reportStage.draws = [⟨.draw own v, 0, none⟩] := fun k =>
    ⟨_, State.reportStage_draws (hown k).1 (hown k).2⟩
  have hshed := s.rounds_shedStage
  unfold State.takeRound
  rcases hm with e | e | e <;> rw [e]
  · exact hreport hshed
  · exact hreport (hshed.trans (State.moves_restoreStages _ _).acts.rounds)
  · exact hreport hshed

/-- R60: what a notice makes of the worst band: it is taken anew; where it drops, the round is taken; where it does not,
nothing else changes. `held` is the worst band held before. -/
theorem State.peerNotice_spec {own held : Band} {k : BudgetConfig} {before : Option Band} (hk : t.budget.config = some k)
    (ho : t.budget.ownBand = some own) (hw : t.budget.worst = some held)
    (hsame : t.lowestLiveBand = before → t.worstBand = some held ∧ t.budget.allowance = some (k.allowanceAt held)) :
    ∃ w, t.worstBand = some w ∧ (t.peerNotice before).budget.worst = some w
      ∧ (t.peerNotice before).budget.allowance = some (k.allowanceAt w)
      ∧ (w.code < held.code → (t.peerNotice before).eventSet .bandDrop = true
          ∧ (t.mode = .listening ∨ t.mode = .running ∨ t.mode = .isolated →
              ∃ v, (t.peerNotice before).draws = [⟨.draw own v, 0, none⟩]))
      ∧ (held.code ≤ w.code → (t.peerNotice before).events = t.events ∧ (t.peerNotice before).line = t.line) := by
  obtain ⟨w, hworst, -⟩ := State.worstBand_spec ho
  refine ⟨w, hworst, ?_⟩
  unfold State.peerNotice
  split
  · next hl =>
    obtain ⟨h1, h2⟩ := hsame hl
    obtain rfl := Option.some.inj (hworst.symm.trans h1)
    exact ⟨hw, h2, fun h => absurd h (Nat.lt_irrefl _), fun _ => ⟨rfl, rfl⟩⟩
  · have hset : t.setWorst = { t with budget := { t.budget with worst := some w, allowance := some (k.allowanceAt w) } } := by
      unfold State.setWorst
      rw [hk, hworst]
    have hkeeps := t.keepsBands_bandNotice.core
    rw [hset] at hkeeps
    simp only [State.bandCore, Prod.mk.injEq] at hkeeps
    obtain ⟨-, -, -, -, -, -, h1, h2⟩ := hkeeps
    refine ⟨h1, h2, fun hlt => ?_, fun hle => ?_⟩
    · have hdrop : t.bandNotice = (t.setWorst.raise .bandDrop).takeRound := by
        unfold State.bandNotice
        rw [hset, hw]
        exact if_pos (by simpa [bandDropped] using hlt)
      rw [hdrop]
      refine ⟨State.takeRound_eventSet ?_, fun hm => State.takeRound_draws ?_ ?_⟩
      · unfold State.eventSet
        rw [State.raise_events, BitVec.getLsbD_or, show PartEvent.bandDrop.mask.getLsbD PartEvent.bandDrop.place = true by decide,
          Bool.or_true]
      · rw [hset]
        exact hm
      · rw [hset]
        exact ho
    · have hstay : t.bandNotice = t.setWorst := by
        unfold State.bandNotice
        rw [hset, hw]
        exact if_neg (by simpa [bandDropped] using hle)
      rw [hstay, hset]
      exact ⟨rfl, rfl⟩

/-- R47, R60: what a report or a turn to STALE, taken in `s`, has made of the Budget Unit in `t`; without a drop the
transmit queue is `queue`. -/
def State.Judged (own held : Band) (k : BudgetConfig) (s : State) (queue : List TxEntry) (t : State) : Prop :=
  ∃ worst : Band, t.budget.worst = some worst
    ∧ (worst = own ∨ ∃ e ∈ t.peers, e.stale = false ∧ e.band = worst)
    ∧ worst.code ≤ own.code ∧ (∀ e ∈ t.peers, e.stale = false → worst.code ≤ e.band.code)
    ∧ t.budget.allowance = some (match worst with
        | .charging => k.aCfg
        | .battery => k.aCfg * k.pB / 100
        | .low => k.aCfg * k.pL / 100
        | .crank => 0)
    ∧ (worst.code < held.code → t.eventSet .bandDrop = true
        ∧ (s.mode ≠ .clashed → s.mode ≠ .limp → ∃ v, ∃ x ∈ t.line.queue, x.frame = .draw own v))
    ∧ (held.code ≤ worst.code → t.events.flags = s.events.flags ∧ (s.Plain → t.line.queue = queue))

theorem PartMode.reports {m : PartMode} (h : m ≠ .configuring) (hc : m ≠ .clashed) (hl : m ≠ .limp) :
    m = .listening ∨ m = .running ∨ m = .isolated := by
  cases m <;> simp at *

/-- R47, R60: a notice after a change of the Peer Table, and what follows it. -/
theorem State.BandSound.judged {own held : Band} {k : BudgetConfig} (h : s.BandSound) (hm : s.mode ≠ .configuring)
    (hk : s.budget.config = some k) (ho : s.budget.ownBand = some own) (hw : s.budget.worst = some held)
    (hbudget : u.budget = s.budget) (hmode : u.mode = s.mode) (hevents : u.events = s.events) (hplain : s.Plain → u.Plain) :
    State.Judged own held k s u.line.queue (u.peerNotice s.lowestLiveBand).settle := by
  have hsame : u.lowestLiveBand = s.lowestLiveBand →
      u.worstBand = some held ∧ u.budget.allowance = some (k.allowanceAt held) := fun hl => by
    obtain ⟨h1, h2⟩ := h.worst hm k hk
    rw [State.worstBand_congr (congrArg BudgetUnit.ownBand hbudget) hl, hbudget, h2, ← h1, hw]
    exact ⟨rfl, rfl⟩
  rw [← hbudget] at hk ho hw
  obtain ⟨w, hwu, hworst, hallow, hdrop, hstay⟩ := State.peerNotice_spec hk ho hw hsame
  obtain ⟨w', hw', hin, hle, hall⟩ := State.worstBand_spec ho
  obtain rfl := Option.some.inj (hwu.symm.trans hw')
  have hcalm := u.calm_peerNotice s.lowestLiveBand
  have hpeers := u.peerNotice_peers s.lowestLiveBand
  obtain ⟨t, ht⟩ : ∃ t, u.peerNotice s.lowestLiveBand = t := ⟨_, rfl⟩
  rw [ht] at hworst hallow hdrop hstay hcalm hpeers ⊢
  have hsettle := State.acts_settle t
  refine ⟨w, ?_, ?_, hle, ?_, ?_, fun hlt => ⟨?_, fun hc hl => ?_⟩, fun hge => ⟨?_, fun p => ?_⟩⟩
  · rw [hsettle.budget, hworst]
  · rw [hsettle.peers, hpeers]
    exact hin
  · rw [hsettle.peers, hpeers]
    exact hall
  · rw [hsettle.budget, hallow]
    exact congrArg some (k.allowanceAt_eq w)
  · unfold State.eventSet
    rw [hsettle.events]
    exact (hdrop hlt).1
  · obtain ⟨v, hv⟩ := (hdrop hlt).2 (by rw [hmode]; exact PartMode.reports hm hc hl)
    have hmem : (⟨.draw own v, 0, none⟩ : TxEntry) ∈ t.settle.draws := by
      rw [State.sameDraws_settle t, hv]
      exact List.mem_singleton_self _
    exact ⟨v, _, (List.mem_filter.1 hmem).1, rfl⟩
  · rw [hsettle.events, (hstay hge).1, hevents]
  · rw [(hcalm.plain (hplain p)).settle, State.echoed_line, (hstay hge).2]

/-- Hearing a frame leaves what the bands are read from (R46, R156). -/
theorem State.keepsBands_heardFrame (s : State) : s.KeepsBands s.heardFrame := by
  unfold State.heardFrame
  split
  · next hm => exact ⟨rfl, State.lowestLiveBand_congr s.dropHeldPeers_live, by rw [hm]; simp [State.mode]⟩
  · exact ⟨rfl, rfl, Iff.rfl⟩

theorem State.Judged.of_heardFrame {own held : Band} {k : BudgetConfig} {q : List TxEntry}
    (h : State.Judged own held k s.heardFrame q t) : State.Judged own held k s q t := by
  obtain ⟨w, hw, hin, hle, hall, hallow, hdrop, hstay⟩ := h
  rw [s.heardFrame_events] at hstay
  refine ⟨w, hw, hin, hle, hall, hallow, fun hlt => ⟨(hdrop hlt).1, fun hc hl => (hdrop hlt).2 ?_ (State.heardFrame_ne_limp hl)⟩,
    fun hge => ⟨(hstay hge).1, fun p => (hstay hge).2 p.heardFrame⟩⟩
  rw [State.heardFrame_mode]
  split
  · exact PartMode.noConfusion
  · exact hc

end Sys2Proof.Machine

/-- Settles O25. -/
theorem drawTaken : Obligations.DrawTaken := by
  open Sys2Proof.Machine in
  intro sender w0 w1 w2 w3 s hm hb ho hsort
  have hheard := State.heardFrame_sorted hsort
  refine ⟨fun band hband => ⟨_, exec_draw hm hb ho hband, ?_⟩, fun hnone => ⟨_, exec_draw_dropped hm hb ho hnone, ?_⟩⟩
  · rw [State.takeDraw_eq]
    obtain ⟨u, hu⟩ : ∃ u, s.heardFrame.reported sender band (drawValues w0 w1 w2 w3) = u := ⟨_, rfl⟩
    have hpeers : u.peers = insertPeer ⟨sender, drawValues w0 w1 w2 w3, band, 0, false⟩ s.heardFrame.peers := by
      rw [← hu]
      rfl
    have hentries : u.intents = ⟨countReport s.own sender s.intents.entries, s.intents.overflow⟩ := by
      rw [← hu, ← s.heardFrame_own, ← s.heardFrame_intents]
      rfl
    have hsilence : u.line.silence = some 0 := by
      rw [← hu]
      exact s.heardFrame_silence
    have hplain : s.Plain → u.Plain := fun p => by
      rw [← hu]
      exact ⟨p.heardFrame.noFollower, p.heardFrame.noQueue⟩
    rw [hu]
    have hbands := u.bands_peerNotice s.heardFrame.lowestLiveBand
    have hcalm := u.calm_peerNotice s.heardFrame.lowestLiveBand
    obtain ⟨t, ht⟩ : ∃ t, u.peerNotice s.heardFrame.lowestLiveBand = t := ⟨_, rfl⟩
    rw [ht] at hbands hcalm ⊢
    have hall : t.settle.peers = _ := (State.acts_settle t).peers.trans (hbands.peers.trans hpeers)
    refine ⟨?_, fun e => ?_, ?_, fun p => ?_⟩
    · rw [hall]
      exact insertPeer_sorted _ hheard
    · rw [hall]
      exact mem_insertPeer_iff hheard
    · exact (State.acts_settle t).listen.2.trans (hbands.silence.trans hsilence)
    · rw [(hcalm.plain (hplain p)).settle, State.echoed_intents, hcalm.intents, hentries]
      exact ⟨rfl, countReport_other ho _⟩
  · exact ⟨(State.acts_settle _).peers, (State.acts_settle _).budget.trans s.heardFrame_budget,
      (State.acts_settle _).listen.2.trans s.heardFrame_silence, fun p => p.heardFrame.settle⟩

/-- Settles O26. -/
theorem peerBandSetsTheAllowance : Obligations.PeerBandSetsTheAllowance := by
  open Sys2Proof.Machine in
  intro sender st w0 w1 w2 w3 own peer held k s hm hs hk hown hheld judged
  refine ⟨fun hb ho hband => ⟨_, exec_draw hm hb ho hband, ?_, ?_⟩, ⟨_, exec_peerEntryStale st s, ?_, ?_⟩⟩
  · have hpeers := (State.acts_settle (s.heardFrame.takeDraw sender peer (drawValues w0 w1 w2 w3))).peers
    rw [hpeers, State.takeDraw_eq, State.peerNotice_peers]
    exact ⟨_, mem_insertPeer_self _ _, rfl, rfl, rfl⟩
  · have hsound := s.keepsBands_heardFrame.bandSound hs
    rw [← s.heardFrame_budget] at hk hown hheld
    exact (hsound.judged (u := s.heardFrame.reported sender peer (drawValues w0 w1 w2 w3))
      (mt s.keepsBands_heardFrame.mode.1 hm) hk hown hheld rfl rfl rfl fun p => ⟨p.noFollower, p.noQueue⟩).of_heardFrame
  · have hpeers := (State.acts_settle ((s.judgedStale st).peerNotice s.lowestLiveBand)).peers
    rw [hpeers, State.peerNotice_peers]
    intro e he hst hage
    obtain ⟨x, -, rfl⟩ := List.mem_map.1 he
    exact PeerEntry.judgedStale_stale hst hage
  · exact hs.judged (u := s.judgedStale st) hm hk hown hheld rfl rfl rfl fun p => ⟨p.noFollower, p.noQueue⟩
end

-- ==== Proofs: rounds ====
section
/-! PROOFS. A budget round and its report (R57, R58, R77): O31. -/

namespace Sys2Proof.Machine

variable {s t u : State} {own : Band}

/-! ### The round (R57) -/

/-- R57: the state whose round timer starts its next 100 ms. -/
def State.rearmed (s : State) : State := { s with budget := { s.budget with round := some Config.roundMs } }

theorem State.Plain.rearmed (p : s.Plain) : s.rearmed.Plain := ⟨p.noFollower, p.noQueue⟩

/-- R57: while the round timer runs a round is taken; in a state in which nothing follows, the echoes are taken after it. -/
theorem State.Plain.exec_budgetRound (p : s.Plain) (h : s.budget.round ≠ none) :
    exec .budgetRound s = .next s.rearmed.takeRound.echoed := by
  have hrun : s.budget.round.isNone = false := Option.isNone_eq_false_iff.2 (Option.isSome_iff_ne_none.2 h)
  have hsettle : s.periodicRound.settle = s.rearmed.takeRound.echoed := ((State.calm_takeRound s.rearmed).plain p.rearmed).settle
  show execBudgetRound s = _
  rw [execBudgetRound, hrun, hsettle]
  rfl

theorem State.Rounds.round (h : s.Rounds t) : t.budget.round = s.budget.round := by rw [← h]
theorem State.Rounds.ownBand (h : s.Rounds t) : t.budget.ownBand = s.budget.ownBand := by rw [← h]
theorem State.Rounds.clashMark (h : s.Rounds t) : t.line.clashMark = s.line.clashMark := by rw [← h]; rfl

/-! ### Own tier bookings (R61) -/

/-- R61: own tier bookings are read from tiers and bookings alone. -/
theorem State.ownTier_congr (h : ∀ c, (t.chan c).cfg.tier = (s.chan c).cfg.tier ∧ (t.chan c).booking = (s.chan c).booking)
    (k : Tier) : t.ownTier k = s.ownTier k := by
  unfold State.ownTier
  refine congrArg List.sum (List.map_congr_left fun c _ => ?_)
  rw [(h c).1, (h c).2]

theorem State.echoed_ownTier (s : State) (k : Tier) : s.echoed.ownTier k = s.ownTier k :=
  State.ownTier_congr (fun c => by rw [State.echoed_chan]; exact ⟨rfl, rfl⟩) k

theorem State.reportStage_chan (s : State) (c : Channel) : s.reportStage.chan c = s.chan c := State.send_chan _ s c

theorem State.reportStage_ownTier (s : State) (k : Tier) : s.reportStage.ownTier k = s.ownTier k :=
  State.ownTier_congr (fun c => by rw [State.reportStage_chan]; exact ⟨rfl, rfl⟩) k

/-! ### The report (R58, R77, R157) -/

/-- R58: a round that reports does so last. -/
theorem State.takeRound_reports (hm : s.mode = .listening ∨ s.mode = .running ∨ s.mode = .isolated ∨ s.mode = .limp) :
    ∃ u, s.Rounds u ∧ s.takeRound = u.reportStage := by
  unfold State.takeRound
  rcases hm with e | e | e | e <;> rw [e]
  · exact ⟨_, s.rounds_shedStage, rfl⟩
  · exact ⟨_, s.rounds_shedStage.trans (State.moves_restoreStages _ _).acts.rounds, rfl⟩
  · exact ⟨_, s.rounds_shedStage, rfl⟩
  · exact ⟨_, (State.Acts.refl s).rounds, rfl⟩

/-- R77: with no clash marked the report takes its place in the queue, in LIMP too. -/
theorem State.reportStage_draws_of_unmarked (hk : s.line.clashMark = false) (h : s.budget.ownBand = some own) :
    s.reportStage.draws = [⟨.draw own s.reportValues, 0, none⟩] := by
  have hd : s.discards (.draw own s.reportValues) = false := by simp [State.discards, hk, TxFrame.kind]
  unfold State.reportStage State.send State.offer
  rw [h, Option.getD_some, hd]
  show List.filter _ (List.filter _ _ ++ _) = _
  rw [List.filter_append, List.filter_filter]
  simp [TxFrame.isDraw, TxFrame.kind]

/-- R77: the report of a round carries the bookings that the round leaves. -/
theorem State.takeRound_reported (h : s.budget.ownBand = some own)
    (hm : s.mode = .listening ∨ s.mode = .running ∨ s.mode = .isolated ∨ (s.mode = .limp ∧ s.line.clashMark = false)) :
    s.takeRound.draws = [⟨.draw own s.takeRound.reportValues, 0, none⟩] := by
  obtain ⟨u, hu, htake⟩ := State.takeRound_reports (hm.imp_right (Or.imp_right (Or.imp_right And.left)))
  have hown : u.budget.ownBand = some own := hu.ownBand.trans h
  have hvalues : u.reportStage.reportValues = u.reportValues := by
    unfold State.reportValues
    simp only [State.reportStage_ownTier]
  rw [htake, hvalues]
  by_cases hl : s.mode = .limp
  · have hmark : s.line.clashMark = false := by simpa [hl] using hm
    exact State.reportStage_draws_of_unmarked (hu.clashMark.trans hmark) hown
  · exact State.reportStage_draws (by rwa [hu.mode]) hown

/-- R58, R157: in CLASHED no report is built, and in LIMP after a clash the one built is discarded. -/
theorem State.takeRound_unreported (hm : s.mode = .clashed ∨ (s.mode = .limp ∧ s.line.clashMark = true)) :
    s.takeRound.draws = s.draws := by
  unfold State.takeRound
  rcases hm with e | ⟨e, hk⟩ <;> rw [e]
  · have hjudge : s.SameDraws s.judgeOverbooked := by
      unfold State.judgeOverbooked
      dsimp only
      split <;> rfl
    exact hjudge.trans (State.routine_sameDraws.shedStage s)
  · have hdiscard : ∀ b v, s.discards (.draw b v) = true := fun b v => by simp [State.discards, e, hk, TxFrame.isDraw, TxFrame.kind]
    dsimp only
    unfold State.reportStage State.send State.offer
    rw [hdiscard]
    rfl

end Sys2Proof.Machine

/-- Settles O31. -/
theorem roundReportsTheBookings : Obligations.RoundReportsTheBookings := by
  open Sys2Proof.Machine in
  intro s own p hround hown
  refine ⟨_, p.exec_budgetRound hround, (State.rounds_takeRound s.rearmed).round, fun hm => ?_, fun hm => ?_⟩
  · simp only [State.echoed_ownTier]
    exact State.takeRound_reported (s := s.rearmed) hown hm
  · exact State.takeRound_unreported (s := s.rearmed) hm
end

-- ==== Proofs: ownband ====
section
/-! PROOFS. The own supply band (R60, R137 to R140): O45. -/

namespace Sys2Proof.Machine

variable {s t : State} {n : Band}

/-! ### Measurements (R138, R139) -/

/-- R138: a measurement below the floor counts. -/
theorem nextFall_eq (floor : Option Nat) (v count : Nat) :
    nextFall floor v count = if floor.any (v < ·) then min (count + 1) 20 else 0 := by
  cases floor with
  | none => rfl
  | some f => simp [nextFall, Config.fallCount]

/-- R139: a measurement at or above the next floor plus 0.4 V counts. -/
theorem nextRise_eq (floor : Option Nat) (v count : Nat) :
    nextRise floor v count = if (floor.map (· + 4)).any (· ≤ v) then min (count + 1) 500 else 0 := by
  cases floor with
  | none => rfl
  | some f => by_cases h : f + 4 ≤ v <;> simp [nextRise, Config.riseMargin, Config.riseCount, h]

/-- R138, R139: a measurement is judged once the thresholds and the own band are set. -/
theorem FeedMonitor.measureKsup_judged {f : FeedMonitor} {th : Thresholds} {b : Band} (v : Nat) (hth : f.thresholds = some th)
    (hb : f.ownBand = some b) : f.measureKsup v
      = { f with ksup := v, fall := nextFall (th.floor b) v f.fall, rise := nextRise (th.nextFloor b) v f.rise } := by
  rw [FeedMonitor.measureKsup, hth, hb]

theorem FeedMonitor.measureKsup_unjudged {f : FeedMonitor} (v : Nat) (h : f.thresholds = none ∨ f.ownBand = none) :
    f.measureKsup v = { f with ksup := v } := by
  unfold FeedMonitor.measureKsup
  split
  · next hth hb => rcases h with h | h <;> simp_all
  · rfl

/-! ### A change of the own band (R60, R140) -/

theorem State.Bands.feed (h : s.Bands t) : t.feed = s.feed := by rw [← h]; rfl

/-- R140: the own band and the timers as a change leaves them, before the Budget Unit judges. -/
def State.withBand (n : Band) (s : State) : State :=
  { s with
    feed := { s.feed with ownBand := some n, fall := 0, rise := 0 }
    budget := { s.budget with ownBand := some n } }

theorem State.changeBand_eq (n : Band) (s : State) : s.changeBand n = (s.withBand n).bandNotice := rfl

/-- R140: what a change of the own band leaves in the Feed Monitor and the Budget Unit. -/
theorem State.changeBand_bands (n : Band) (s : State) :
    (s.changeBand n).feed = (s.withBand n).feed ∧ (s.changeBand n).budget.ownBand = some n := by
  refine ⟨(s.withBand n).bands_bandNotice.feed, ?_⟩
  have hkeeps := (s.withBand n).keepsBands_bandNotice.core
  simp only [State.bandCore, Prod.mk.injEq] at hkeeps
  obtain ⟨-, -, -, -, -, hown, -⟩ := hkeeps
  refine hown.trans ?_
  unfold State.setWorst
  split <;> rfl

/-- R47: with no LIVE entry there is no lowest LIVE band. -/
theorem State.lowestLiveBand_none (h : ∀ e ∈ s.peers, e.stale = true) : s.lowestLiveBand = none := by
  have hnil : (s.peers.filter fun e => !e.stale) = [] := List.filter_eq_nil_iff.2 fun e he => by simp [h e he]
  rw [State.lowestLiveBand, hnil]
  rfl

/-- R60: with no LIVE entry the worst band is the own band; BAND_DROP is raised where it is lower, and no flag where not. -/
theorem State.changeBand_judged {k : BudgetConfig} {held : Band} (n : Band) (hk : s.budget.config = some k)
    (hw : s.budget.worst = some held) (hl : ∀ e ∈ s.peers, e.stale = true) :
    (s.changeBand n).budget.worst = some n ∧ (s.changeBand n).budget.allowance = some (k.allowanceAt n)
      ∧ (n.code < held.code → (s.changeBand n).eventSet .bandDrop = true)
      ∧ (held.code ≤ n.code → (s.changeBand n).events = s.events) := by
  have hnone : (s.withBand n).lowestLiveBand = none := State.lowestLiveBand_none hl
  have hnotice : (s.withBand n).peerNotice (some n) = s.changeBand n := by
    rw [State.peerNotice, hnone, if_neg (by simp), State.changeBand_eq]
  have hworst : (s.withBand n).worstBand = some n := by
    rw [State.worstBand, hnone]
    rfl
  obtain ⟨w, h1, h2, h3, h4, h5⟩ := State.peerNotice_spec (t := s.withBand n) (own := n) (before := some n) hk rfl hw
    fun h => absurd (hnone.symm.trans h) (by simp)
  obtain rfl := Option.some.inj (hworst.symm.trans h1)
  rw [hnotice] at h2 h3 h4 h5
  exact ⟨h2, h3, fun hlt => (h4 hlt).1, fun hle => (h5 hle).1⟩

/-- R60, R140: a change of the own band as it is seen once the event has ended. -/
theorem State.changeBand_seen (n : Band) (s : State) :
    (s.changeBand n).settle.feed = (s.withBand n).feed ∧ (s.changeBand n).settle.budget.ownBand = some n
      ∧ ∀ (k : BudgetConfig) (held : Band), s.budget.config = some k → s.budget.worst = some held →
          (∀ e ∈ s.peers, e.stale = true) →
          (s.changeBand n).settle.budget.worst = some n
            ∧ (s.changeBand n).settle.budget.allowance = some (match n with
                | .charging => k.aCfg
                | .battery => k.aCfg * k.pB / 100
                | .low => k.aCfg * k.pL / 100
                | .crank => 0)
            ∧ (n.code < held.code → (s.changeBand n).settle.eventSet .bandDrop = true)
            ∧ (held.code ≤ n.code → (s.changeBand n).settle.events.flags = s.events.flags) := by
  have hacts := State.acts_settle (s.changeBand n)
  obtain ⟨hfeed, hown⟩ := State.changeBand_bands n s
  rw [hacts.feed, hacts.budget]
  refine ⟨hfeed, hown, fun k held hk hw hl => ?_⟩
  obtain ⟨hworst, hallow, hdrop, hstay⟩ := State.changeBand_judged n hk hw hl
  refine ⟨hworst, hallow.trans (congrArg some (k.allowanceAt_eq n)), fun hlt => ?_, fun hle => ?_⟩
  · unfold State.eventSet
    rw [hacts.events]
    exact hdrop hlt
  · rw [hacts.events, hstay hle]

/-- R138: BAND_FALL acts where its count stands. -/
theorem exec_bandFall {th : Thresholds} (hth : s.feed.thresholds = some th) : exec .bandFall s
    = if s.feed.fall < 20 then .next s else .next (s.changeBand (th.band s.feed.ksup)).settle := by
  show execBandFall s = _
  rw [execBandFall, hth]
  rfl

/-- R139: BAND_RISE acts where its count stands. -/
theorem exec_bandRise {b : Band} (hb : s.feed.ownBand = some b) : exec .bandRise s
    = if s.feed.rise < 500 then .next s else .next (s.changeBand b.up).settle := by
  show execBandRise s = _
  rw [execBandRise, hb]
  rfl

end Sys2Proof.Machine

/-- Settles O45. -/
theorem ownBandFollowsKsup : Obligations.OwnBandFollowsKsup := by
  open Sys2Proof.Machine in
  intro v th b s floor rises fallen risen changed
  have hmeasure : exec (.ksupMeasurement v) s = .next { s with feed := s.feed.measureKsup v } := rfl
  refine ⟨fun h => by rw [hmeasure, FeedMonitor.measureKsup_unjudged v h], fun hth hb => ⟨?_, ?_⟩⟩
  · have hfloor : th.floor b = floor := by cases b <;> rfl
    have hrises : (th.nextFloor b).map (· + 4) = rises := by cases b <;> rfl
    rw [hmeasure, FeedMonitor.measureKsup_judged v hth hb, nextFall_eq, nextRise_eq, hfloor, hrises]
  · have hrisen : b.up = risen := by cases b <;> rfl
    rw [exec_bandFall hth, exec_bandRise hb, hrisen]
    exact ⟨fun h => ⟨_, if_neg (Nat.not_lt.2 h), State.changeBand_seen fallen s⟩, fun h => if_pos h,
      fun h => ⟨_, if_neg (Nat.not_lt.2 h), State.changeBand_seen risen s⟩, fun h => if_pos h⟩
end

-- ==== Proofs: readmission ====
section
/-! PROOFS. The re-admission and deferred stages of a round (R73 to R76, R160): O33. -/

namespace Sys2Proof.Machine

variable {s t u : State} {c d : Channel} {x : TxFrame} {r : ChannelRecord}

/-! ### What a round begins with (R57, R67) -/

/-- R67: the overbooked indicator follows `S_0 > A`, and its onset raises SAFETY_OVERBOOKED. -/
theorem State.judgeOverbooked_eq (s : State) : s.judgeOverbooked = { s with
    budget := { s.budget with overbooked := Decidable.decide (s.allowanceNow < s.tierSum 0) }
    events := { s.events with flags := s.events.flags
      ||| if s.allowanceNow < s.tierSum 0 ∧ s.budget.overbooked = false then 16#11 else 0#11 } } := by
  unfold State.judgeOverbooked State.raise
  by_cases h : s.allowanceNow < s.tierSum 0 <;> cases hb : s.budget.overbooked <;> simp [h]
  all_goals rfl

/-- R57, R67: the state of a round whose indicator has been judged. -/
def State.judged (s : State) : State := s.rearmed.judgeOverbooked

theorem State.judged_chan (s : State) (c : Channel) : s.judged.chan c = s.chan c := by
  rw [State.judged, State.judgeOverbooked_eq]
  rfl

theorem State.judged_line (s : State) : s.judged.line = s.line := by
  rw [State.judged, State.judgeOverbooked_eq]
  rfl

theorem State.judged_mode (s : State) : s.judged.mode = s.mode := by
  rw [State.judged, State.judgeOverbooked_eq]
  rfl

theorem State.judged_readmits (s : State) (c : Channel) : s.judged.readmits c = s.readmits c := by
  rw [State.judged, State.judgeOverbooked_eq]
  rfl

theorem State.judged_readmissionCandidate (s : State) : s.judged.readmissionCandidate = s.readmissionCandidate := by
  rw [State.judged, State.judgeOverbooked_eq]
  rfl

/-- R67: with no tier exceeded there is no shed tier, and the shed stage judges the indicator alone. -/
theorem State.shedTier_none (h : ∀ k, s.tierSum k ≤ s.allowanceNow) : s.shedTier = none := by
  rw [State.shedTier, if_neg (Nat.not_lt.2 (h 0)), List.find?_eq_none]
  exact fun k _ => by simpa using h k

theorem State.shedStage_none (h : s.shedTier = none) : s.shedStage = s.judgeOverbooked := by
  rw [State.shedStage, h]

/-! ### Announcements one after another (R12, R76) -/

/-- R12: channels announced one after another change their own records alone, and each waits in PENDING or DEFERRED. -/
theorem State.announceAll_chan (l : List Channel) : ∀ s : State, l.Nodup →
    (∀ d, d ∉ l → (l.foldl (fun s c => s.announce c) s).chan d = s.chan d)
      ∧ ∀ d ∈ l, (l.foldl (fun s c => s.announce c) s).chan d = (s.chan d).idle .pending
        ∨ (l.foldl (fun s c => s.announce c) s).chan d = ((s.chan d).idle .pending).idle .deferred := by
  induction l with
  | nil => exact fun s _ => ⟨fun _ _ => rfl, fun d hd => absurd hd List.not_mem_nil⟩
  | cons c l ih =>
    intro s hn
    obtain ⟨hc, hl⟩ := List.nodup_cons.1 hn
    obtain ⟨hout, hin⟩ := ih (s.announce c) hl
    rw [List.foldl_cons]
    refine ⟨fun d hd => ?_, fun d hd => ?_⟩
    · obtain ⟨hdc, hdl⟩ := not_or.1 (mt List.mem_cons.2 hd)
      exact (hout d hdl).trans (State.announce_chan_ne hdc s)
    · by_cases hdc : d = c
      · rw [hdc, hout c hc]
        exact State.announce_chan_self c s
      · rw [← State.announce_chan_ne hdc s]
        exact hin d ((List.mem_cons.1 hd).resolve_left hdc)

/-- R160: a queue of INTENT-kind and STATUS frames alone, within the limit of five. -/
def State.Spare (s : State) : Prop :=
  s.line.queue.length ≤ 5 ∧ ∀ e ∈ s.line.queue, e.frame.kind = 0 ∨ e.frame.kind = 5

theorem State.spare_of_empty (h : s.line.queue = []) : s.Spare := by
  rw [State.Spare, h]
  exact ⟨Nat.zero_le _, fun e he => absurd he List.not_mem_nil⟩

/-- R160: every frame of such a queue counts against the limit of five. -/
theorem State.Spare.others (h : s.Spare) : s.queued (fun e => e.frame.kind != 1) = s.line.queue.length := by
  unfold State.queued
  rw [List.filter_eq_self.2 fun e he => by rcases h.2 e he with hk | hk <;> simp [hk]]

/-- R160: such a queue is full once it holds five INTENT-kind frames. -/
theorem State.Spare.full_iff (h : s.Spare) : s.Full ↔ 5 ≤ s.kind0.length := by
  have hle : (s.line.queue.filter fun e => e.frame.kind == 0).length ≤ s.line.queue.length := List.length_filter_le _ _
  rw [State.Full, h.others, State.queued, State.kind0, List.length_map, List.length_eq_zero_iff, List.filter_eq_nil_iff]
  constructor
  · rintro ⟨hlen, hno⟩
    rwa [List.filter_eq_self.2 fun e he => by simpa using (h.2 e he).resolve_right (by simpa using hno e he)]
  · intro hlen
    have hall := List.length_filter_eq_length_iff.1 (Nat.le_antisymm hle (h.1.trans hlen))
    exact ⟨hlen.trans hle, fun e he => by simp [show e.frame.kind = 0 by simpa using hall e he]⟩

/-- R160: an INTENT-kind frame or a STATUS that such a queue takes leaves such a queue. -/
theorem State.Spare.offer (h : s.Spare) (hk : x.kind = 0 ∨ x.kind = 5) (ho : s.offer x = some t) : t.Spare := by
  obtain ⟨-, q, hq, rfl⟩ := State.offer_eq_some ho
  have hd : x.isDraw = false := by rcases hk with hk | hk <;> simp [TxFrame.isDraw, hk]
  have hlast : ∀ e ∈ ([⟨x, 0, none⟩] : List TxEntry), e.frame.kind = 0 ∨ e.frame.kind = 5 := fun e he => by
    rw [List.mem_singleton.1 he]
    exact hk
  rcases offerTo_cases hq with ⟨h1, -⟩ | ⟨-, hr, rfl⟩ | ⟨-, -, -, xs, e, zs, hs, -, -, rfl⟩
  · rw [hd] at h1
    cases h1
  · have hroom : s.line.queue.length < 5 := by
      rw [← h.others, ← otherCount_eq]
      simp only [hasRoom, hd, Bool.false_or, Bool.and_eq_true, decide_eq_true_eq] at hr
      exact hr.1
    refine ⟨?_, fun e he => (List.mem_append.1 he).elim (h.2 e) (hlast e)⟩
    show (s.line.queue ++ [_]).length ≤ 5
    rw [List.length_append, List.length_singleton]
    exact hroom
  · have hs : s.line.queue = xs ++ e :: zs := hs
    obtain ⟨hlen, hkinds⟩ := h
    rw [hs] at hlen hkinds
    refine ⟨?_, fun y hy => (List.mem_append.1 hy).elim (fun hy => hkinds y ?_) (hlast y)⟩
    · show (xs ++ zs ++ [_]).length ≤ 5
      simp only [List.length_append, List.length_cons, List.length_nil] at hlen ⊢
      omega
    · exact (List.mem_append.1 hy).elim (List.mem_append_left _) fun hz => List.mem_append_right _ (List.mem_cons_of_mem _ hz)

theorem State.Spare.enter (h : s.Spare) (c : Channel) (f : ChannelRecord → ChannelRecord) : (s.enter c f).Spare := by
  have h1 : ((s.modChan c f).dropClaims c).Spare := h
  unfold State.enter
  dsimp only
  split
  · exact h1
  · unfold State.requestStatus
    split
    · exact h1
    · unfold State.send
      cases ho : State.offer (.status c) _ with
      | none => exact h1
      | some t => exact h1.offer (.inr rfl) ho

theorem State.Spare.announce (h : s.Spare) (c : Channel) : (s.announce c).Spare := by
  have h1 := h.enter c (·.idle .pending)
  unfold State.announce
  dsimp only
  split
  · next ho => exact h1.offer (.inl rfl) ho
  · exact h1.enter c _

/-- R12, R160: over such a queue an announcement is taken while fewer than five INTENT-kind frames wait. -/
theorem State.Spare.announce_outcome (h : s.Spare) (hm : s.mode ≠ .clashed) (c : Channel) :
    (s.kind0.length < 5 ∧ ((s.announce c).chan c).state = .pending ∧ (s.announce c).kind0 = s.kind0 ++ [s.intentOf c])
      ∨ (5 ≤ s.kind0.length ∧ ((s.announce c).chan c).state = .deferred ∧ (s.announce c).kind0 = s.kind0) := by
  have hfull := (h.enter c (·.idle .pending)).full_iff
  rw [(State.appends_enter c (·.idle .pending) s).frames, List.append_nil] at hfull
  rcases State.announce_outcome hm c with ⟨hf, hc, ha⟩ | ⟨hf, hc, ha, -⟩
  · exact .inl ⟨Nat.not_le.1 (mt hfull.2 hf), by rw [hc]; rfl, ha.frames⟩
  · exact .inr ⟨hfull.1 hf, by rw [hc]; rfl, by rw [ha.frames, List.append_nil]⟩

/-- R76, R160: of channels announced one after another those that bring the INTENT-kind frames to five wait in PENDING,
their INTENTs queued in order; the rest wait in DEFERRED. -/
theorem State.Spare.announceAll (l : List Channel) : ∀ s : State, s.Spare → s.mode ≠ .clashed → l.Nodup →
    let t := l.foldl (fun s c => s.announce c) s
    let k := 5 - s.kind0.length
    t.kind0 = s.kind0 ++ (l.take k).map s.intentOf ∧ (∀ c ∈ l.take k, (t.chan c).state = .pending)
      ∧ ∀ c ∈ l.drop k, (t.chan c).state = .deferred := by
  induction l with
  | nil => exact fun s _ _ _ => by simp
  | cons c l ih =>
    intro s h hm hn
    obtain ⟨hc, hl⟩ := List.nodup_cons.1 hn
    have hm' : (s.announce c).mode ≠ .clashed := by rwa [(State.acts_announce c s).mode]
    obtain ⟨hkind, hpend, hdefer⟩ := ih (s.announce c) (h.announce c) hm' hl
    have hself := (State.announceAll_chan l (s.announce c) hl).1 c hc
    have hintents : ∀ k, (l.take k).map (s.announce c).intentOf = (l.take k).map s.intentOf := fun k =>
      List.map_congr_left fun d hd => by
        have hdc : d ≠ c := by
          rintro rfl
          exact hc (List.mem_of_mem_take hd)
        rw [State.intentOf_eq, State.intentOf_eq, State.announce_chan_ne hdc]
    rw [hintents] at hkind
    dsimp only [List.foldl_cons]
    rcases h.announce_outcome hm c with ⟨hlt, hstate, hq⟩ | ⟨hle, hstate, hq⟩ <;> rw [hq] at hkind hpend hdefer
    · obtain ⟨k, hk⟩ : ∃ k, 5 - s.kind0.length = k + 1 := ⟨4 - s.kind0.length, by omega⟩
      have hk' : 5 - (s.kind0 ++ [s.intentOf c]).length = k := by
        rw [List.length_append, List.length_singleton]
        omega
      rw [hk'] at hkind hpend hdefer
      rw [hk, List.take_succ_cons, List.drop_succ_cons, List.map_cons]
      refine ⟨by rw [hkind, List.append_assoc]; rfl, fun d hd => ?_, hdefer⟩
      rcases List.mem_cons.1 hd with rfl | hd
      · rw [hself, hstate]
      · exact hpend d hd
    · have hk : 5 - s.kind0.length = 0 := by omega
      rw [hk] at hkind hdefer
      rw [hk]
      refine ⟨hkind, fun d hd => absurd hd (by simp), fun d hd => ?_⟩
      rcases List.mem_cons.1 hd with rfl | hd
      · rw [hself, hstate]
      · exact hdefer d hd

/-! ### The one candidate (R73 to R75) -/

/-- The first of a list in order that passes a test is the one that comes before every other that passes. -/
theorem find?_eq_some_iff_first {α : Type} {R : α → α → Prop} (hR : ∀ a b, R a b → ¬R b a) {p : α → Bool} {l : List α}
    (hl : l.Pairwise R) {a : α} : l.find? p = some a ↔ a ∈ l ∧ p a = true ∧ ∀ b ∈ l, b ≠ a → p b = true → R a b := by
  have hfirst : ∀ {a}, l.find? p = some a → a ∈ l ∧ p a = true ∧ ∀ b ∈ l, b ≠ a → p b = true → R a b := by
    intro a h
    obtain ⟨hp, as, bs, rfl, hno⟩ := List.find?_eq_some_iff_append.1 h
    refine ⟨List.mem_of_find?_eq_some h, hp, fun b hb hne hpb => ?_⟩
    rcases List.mem_append.1 hb with hb | hb
    · exact absurd (hno b hb) (by simp [hpb])
    · exact (List.pairwise_cons.1 (List.pairwise_append.1 hl).2.1).1 b ((List.mem_cons.1 hb).resolve_left hne)
  refine ⟨hfirst, fun ⟨hmem, hp, hall⟩ => ?_⟩
  obtain ⟨b, hb⟩ := Option.isSome_iff_exists.1 (List.find?_isSome.2 ⟨a, hmem, hp⟩)
  obtain ⟨hbmem, hpb, hbfirst⟩ := hfirst hb
  by_cases hne : b = a
  · rw [hb, hne]
  · exact absurd (hall b hbmem hne hpb) (hR b a (hbfirst a hmem (Ne.symm hne) hp))

theorem State.before_asymm (h : s.before c d) : ¬s.before d c := by
  intro h'
  rcases h with h | ⟨h, hcd⟩ <;> rcases h' with h' | ⟨h', hdc⟩
  · exact lt_asymm h h'
  · exact h.ne' h'
  · exact h'.ne' h
  · exact lt_asymm hcd hdc

theorem State.before_congr (h : ∀ c, (t.chan c).cfg.tier = (s.chan c).cfg.tier) : t.before = s.before := by
  funext c d
  rw [State.before, State.before, h, h]

/-- R73: the channel of lowest tier number and then channel number among the candidates. -/
theorem State.readmissionCandidate_eq_some : s.readmissionCandidate = some c
    ↔ (s.chan c).candidate = true ∧ ∀ d, d ≠ c → (s.chan d).candidate = true → s.before c d := by
  rw [State.readmissionCandidate, find?_eq_some_iff_first (fun _ _ => State.before_asymm) s.byTier_before]
  exact ⟨fun ⟨_, hc, hall⟩ => ⟨hc, fun d => hall d (s.mem_byTier d)⟩, fun ⟨hc, hall⟩ => ⟨s.mem_byTier c, hc, fun d _ => hall d⟩⟩

theorem ChannelRecord.candidate_iff : r.candidate = true ↔ (r.state = .shed ∧ r.eff ≠ 0)
    ∨ (r.throttled = true ∧ (r.state = .slotwait ∨ r.state = .starting ∨ r.state = .cycling)) := by
  simp [ChannelRecord.candidate, or_assoc]

/-- R73 to R75: the candidate that the re-admission stage restores, where it keeps the margin. -/
def State.chosen (s : State) : Option Channel := s.readmissionCandidate.filter s.readmits

theorem State.chosen_eq_some : s.chosen = some c ↔ s.readmissionCandidate = some c ∧ s.readmits c = true := by
  unfold State.chosen
  rw [Option.filter_eq_some_iff]

theorem State.judged_chosen (s : State) : s.judged.chosen = s.chosen := by
  have hreadmits : s.judged.readmits = s.readmits := funext s.judged_readmits
  rw [State.chosen, State.judged_readmissionCandidate, hreadmits]
  rfl

/-! ### The restored channel (R74) -/

/-- R74: the record after an un-throttle. -/
def ChannelRecord.unthrottled (r : ChannelRecord) : ChannelRecord :=
  if r.state = .cycling then r.toOnFromCycling else r.withThrottle false

theorem State.unthrottle_chan_self (c : Channel) (s : State) : (s.unthrottle c).chan c = (s.chan c).unthrottled := by
  unfold State.unthrottle ChannelRecord.unthrottled
  by_cases h : (s.chan c).state = .cycling <;> simp [h]

theorem State.unthrottle_chan_ne (h : d ≠ c) (s : State) : (s.unthrottle c).chan d = s.chan d := by
  unfold State.unthrottle
  split
  · exact State.enter_chan_ne h _ s
  · exact s.modChan_chan_ne h _

/-- R74: an un-throttled record keeps its state but for CYCLING, and books in full. -/
theorem ChannelRecord.unthrottled_spec (h : r.state = .slotwait ∨ r.state = .starting ∨ r.state = .cycling) :
    r.unthrottled.throttled = false ∧ r.unthrottled.booking = r.cfg.bookingFor r.duty false ∧ r.unthrottled.eff = r.eff
      ∧ r.unthrottled.start = r.start ∧ r.unthrottled.state = if r.state = .cycling then .on else r.state := by
  unfold ChannelRecord.unthrottled
  rcases h with h | h | h <;> simp [h, ChannelRecord.withThrottle, ChannelState.books, ChannelRecord.toOnFromCycling]

theorem ChannelRecord.unthrottled_levels (c : Channel) (r : ChannelRecord) :
    r.unthrottled.cfg = r.cfg ∧ r.unthrottled.intent c = r.intent c := by
  unfold ChannelRecord.unthrottled
  split <;> exact ⟨rfl, rfl⟩

/-- R74: the state once the chosen candidate, where it is throttled, is un-throttled. -/
def State.restoredBy (chosen : Option Channel) (s : State) : State :=
  match chosen with
  | some c => if (s.chan c).throttled then s.unthrottle c else s
  | none => s

theorem State.restoredBy_chan_self (h : (s.chan c).throttled = true) :
    (s.restoredBy (some c)).chan c = (s.chan c).unthrottled := by
  rw [State.restoredBy, if_pos h, State.unthrottle_chan_self]

/-- R74: every other record stands. -/
theorem State.restoredBy_chan_other {chosen : Option Channel} (h : ¬(chosen = some c ∧ (s.chan c).throttled = true)) :
    (s.restoredBy chosen).chan c = s.chan c := by
  unfold State.restoredBy
  split
  · next d =>
    split
    · next ht => exact State.unthrottle_chan_ne (by rintro rfl; exact h ⟨rfl, ht⟩) s
    · rfl
  · rfl

theorem State.acts_restoredBy (chosen : Option Channel) (s : State) : s.Acts (s.restoredBy chosen) := by
  unfold State.restoredBy
  split
  · split
    · exact (State.moves_unthrottle _ s).acts
    · exact State.Acts.refl s
  · exact State.Acts.refl s

/-- R74, R76: a restored channel queues no INTENT. -/
theorem State.restoredBy_spare (h : s.line.queue = []) (chosen : Option Channel) :
    (s.restoredBy chosen).Spare ∧ (s.restoredBy chosen).kind0 = [] := by
  have hnil : s.kind0 = [] := by rw [State.kind0, h]; rfl
  have hstay : s.Spare ∧ s.kind0 = [] := ⟨State.spare_of_empty h, hnil⟩
  unfold State.restoredBy State.unthrottle
  split
  · split
    · split
      · exact ⟨hstay.1.enter _ _, by rw [(State.appends_enter _ _ s).frames, hnil]; rfl⟩
      · exact hstay
    · exact hstay
  · exact hstay

/-- R76: the channels that a round announces, in order. -/
def State.announcers (chosen : Option Channel) (s : State) : List Channel :=
  s.byTier.filter fun c => (s.chan c).reannounces || (chosen == some c && (s.chan c).state == .shed)

theorem State.mem_announcers {chosen : Option Channel} : c ∈ s.announcers chosen
    ↔ ((s.chan c).state = .deferred ∧ (s.chan c).eff ≠ 0) ∨ (chosen = some c ∧ (s.chan c).state = .shed) := by
  rw [State.announcers, List.mem_filter]
  simp [s.mem_byTier c, ChannelRecord.reannounces]

/-- R73 to R76: with no tier exceeded the two stages restore the chosen candidate and announce. -/
theorem State.restoreStages_false (s : State) : s.restoreStages false
    = ((s.restoredBy s.chosen).announcers s.chosen).foldl (fun s c => s.announce c) (s.restoredBy s.chosen) := rfl

/-- R77: the report leaves the INTENT-kind frames that wait. -/
theorem State.reportStage_kind0 (s : State) : s.reportStage.kind0 = s.kind0 := by
  unfold State.reportStage State.send
  cases ho : State.offer _ s with
  | none => rfl
  | some t =>
    obtain ⟨-, q, hq, rfl⟩ := State.offer_eq_some ho
    rcases offerTo_cases hq with ⟨-, rfl⟩ | ⟨hd, -⟩ | ⟨hd, -⟩
    · have hkeep : s.txQueue.filter (fun e => e.frame.kind == 0 && !e.frame.isDraw) = s.txQueue.filter fun e => e.frame.kind == 0 :=
        List.filter_congr fun e _ => by cases e.frame <;> rfl
      show List.map _ (List.filter _ (List.filter _ _ ++ [_])) = _
      rw [List.filter_append, List.filter_filter, hkeep]
      exact congrArg _ (List.append_nil _)
    · cases hd
    · cases hd

/-! ### A round that restores -/

/-- R74: the state of a round in RUNNING with no tier exceeded once the chosen candidate is un-throttled. -/
def State.restoring (s : State) : State := s.judged.restoredBy s.chosen

theorem State.takeRound_restores (hm : s.mode = .running) (h : ∀ k, s.tierSum k ≤ s.allowanceNow) :
    s.rearmed.takeRound
      = ((s.restoring.announcers s.chosen).foldl (fun s c => s.announce c) s.restoring).reportStage := by
  have hnone : s.rearmed.shedTier = none := State.shedTier_none (s := s.rearmed) h
  have hmode : s.rearmed.mode = .running := hm
  have hrestore := s.judged.restoreStages_false
  rw [State.judged_chosen] at hrestore
  rw [State.takeRound, hmode]
  dsimp only
  rw [hnone, State.shedStage_none hnone]
  exact congrArg State.reportStage hrestore

theorem State.restoring_chan_self (h : s.chosen = some c) (ht : (s.chan c).throttled = true) :
    s.restoring.chan c = (s.chan c).unthrottled := by
  rw [State.restoring, h, State.restoredBy_chan_self (by rwa [State.judged_chan]), State.judged_chan]

theorem State.restoring_chan_other (h : ¬(s.chosen = some c ∧ (s.chan c).throttled = true)) :
    s.restoring.chan c = s.chan c := by
  rw [State.restoring, State.restoredBy_chan_other (by rwa [State.judged_chan]), State.judged_chan]

theorem State.restoring_mode (s : State) : s.restoring.mode = s.mode := by
  rw [State.restoring, (State.acts_restoredBy _ _).mode, State.judged_mode]

/-- R76: a restored channel stands where it stood in the order of the round, and would announce what it would have. -/
theorem State.restoring_levels (s : State) (c : Channel) :
    (s.restoring.chan c).cfg = (s.chan c).cfg ∧ s.restoring.intentOf c = s.intentOf c := by
  rw [State.intentOf_eq, State.intentOf_eq]
  by_cases h : s.chosen = some c ∧ (s.chan c).throttled = true
  · rw [State.restoring_chan_self h.1 h.2]
    exact (s.chan c).unthrottled_levels c
  · rw [State.restoring_chan_other h]
    exact ⟨rfl, rfl⟩

theorem State.restoring_before (s : State) : s.restoring.before = s.before :=
  State.before_congr fun c => by rw [(s.restoring_levels c).1]

/-- R73: the states of a throttled candidate. -/
theorem State.chosen_throttled (hs : ∀ c, (s.chan c).state = .shed → (s.chan c).throttled = false) (h : s.chosen = some c)
    (ht : (s.chan c).throttled = true) :
    (s.chan c).state = .slotwait ∨ (s.chan c).state = .starting ∨ (s.chan c).state = .cycling := by
  have hcand := (State.readmissionCandidate_eq_some.1 (State.chosen_eq_some.1 h).1).1
  rcases ChannelRecord.candidate_iff.1 hcand with ⟨hshed, -⟩ | ⟨-, hstate⟩
  · rw [hs c hshed] at ht
    cases ht
  · exact hstate

/-- R73, R76: a SHED candidate and the DEFERRED channels with a request announce; an un-throttled channel does not. -/
theorem State.mem_restoring_announcers (hs : ∀ c, (s.chan c).state = .shed → (s.chan c).throttled = false) :
    c ∈ s.restoring.announcers s.chosen ↔ ((s.chan c).state = .deferred ∧ (s.chan c).eff ≠ 0)
      ∨ (s.chosen = some c ∧ (s.chan c).state = .shed) := by
  rw [State.mem_announcers]
  by_cases h : s.chosen = some c ∧ (s.chan c).throttled = true
  · obtain ⟨hc, ht⟩ := h
    have hstate := State.chosen_throttled hs hc ht
    obtain ⟨-, -, -, -, hnew⟩ := ChannelRecord.unthrottled_spec hstate
    rw [State.restoring_chan_self hc ht, hnew]
    rcases hstate with e | e | e <;> simp [e]
  · rw [State.restoring_chan_other h]

/-- R73 to R75: the chosen candidate in the terms of the rules. -/
theorem State.chosen_iff (hs : ∀ c, (s.chan c).state = .shed → (s.chan c).throttled = false) : s.chosen = some c
    ↔ ((s.chan c).candidate = true ∧ ∀ d, d ≠ c → (s.chan d).candidate = true → s.before c d)
      ∧ s.tierSum 3 + (if (s.chan c).state = .shed then (s.chan c).cfg.bookingFor (s.chan c).duty false
          else (s.chan c).cfg.nominal - (s.chan c).cfg.bookingFor (s.chan c).duty true) + s.budgetConfig.margin
        ≤ s.allowanceNow := by
  rw [State.chosen_eq_some, State.readmissionCandidate_eq_some]
  refine and_congr_right fun ⟨hcand, _⟩ => ?_
  have hcost : (s.chan c).readmissionCost = if (s.chan c).state = .shed then (s.chan c).cfg.bookingFor (s.chan c).duty false
      else (s.chan c).cfg.nominal - (s.chan c).cfg.bookingFor (s.chan c).duty true := by
    rcases ChannelRecord.candidate_iff.1 hcand with ⟨hshed, -⟩ | ⟨ht, hstate⟩
    · simp [ChannelRecord.readmissionCost, hshed, hs c hshed]
    · rcases hstate with e | e | e <;> simp [ChannelRecord.readmissionCost, ChannelRecord.saving, ht, e]
  rw [State.readmits, hcost, decide_eq_true_eq]

end Sys2Proof.Machine

/-- Settles O33. -/
theorem roundRestores : Obligations.RoundRestores := by
  open Sys2Proof.Machine in
  intro s p hround hm hfit hq hs candidate first passes restored announces
  have hfirst : ∀ c, s.chosen = some c ↔ first c ∧ passes c := fun c => by
    simp only [State.chosen_iff hs, ChannelRecord.candidate_iff]
    rfl
  have hmem : ∀ c, c ∈ s.restoring.announcers s.chosen ↔ announces c := fun c => by
    rw [State.mem_restoring_announcers hs, hfirst, and_assoc]
  obtain ⟨hspare, hnil⟩ := State.restoredBy_spare (s := s.judged) (by rw [State.judged_line, hq]) s.chosen
  have hnodup : (s.restoring.announcers s.chosen).Nodup := s.restoring.byTier_nodup.filter _
  have hmode : s.restoring.mode ≠ .clashed := by rw [s.restoring_mode, hm]; decide
  obtain ⟨hkind, hpend, hdefer⟩ := State.Spare.announceAll _ s.restoring hspare hmode hnodup
  have hfive : 5 - s.restoring.kind0.length = 5 := by rw [State.restoring, hnil]; rfl
  rw [hfive] at hkind hpend hdefer
  obtain ⟨hother, -⟩ := State.announceAll_chan _ s.restoring hnodup
  have hchan : ∀ c, (s.rearmed.takeRound.echoed).chan c
      = (((s.restoring.announcers s.chosen).foldl (fun s c => s.announce c) s.restoring).chan c).followed := fun c => by
    rw [State.echoed_chan, State.takeRound_restores hm hfit, State.reportStage_chan]
  refine ⟨_, p.exec_budgetRound hround, fun c hc => ?_, ⟨s.restoring.announcers s.chosen, ?_, hmem, ?_, fun c hc => ?_,
    fun c hc => ?_⟩, fun c hr ha => ?_⟩
  · obtain ⟨hc1, hc2, hshed⟩ := hc
    obtain ⟨ht, hstate⟩ := hc1.1.resolve_left fun h => hshed h.1
    have hnot : c ∉ s.restoring.announcers s.chosen := fun hin => by
      rcases (State.mem_restoring_announcers hs).1 hin with ⟨e, -⟩ | ⟨-, e⟩ <;> simp [e] at hstate
    simp only [hchan, hother c hnot, State.restoring_chan_self ((hfirst c).2 ⟨hc1, hc2⟩) ht]
    exact ChannelRecord.unthrottled_spec hstate
  · rw [← s.restoring_before]
    exact s.restoring.byTier_before.filter _
  · show s.rearmed.takeRound.kind0 = _
    rw [State.takeRound_restores hm hfit, State.reportStage_kind0, hkind, State.restoring, hnil, List.nil_append]
    exact List.map_congr_left fun c _ => (s.restoring_levels c).2
  · rw [hchan, ChannelRecord.followed_state]
    exact hpend c hc
  · rw [hchan, ChannelRecord.followed_state]
    exact hdefer c hc
  · have hstay : ¬(s.chosen = some c ∧ (s.chan c).throttled = true) := fun ⟨hc, ht⟩ => by
      obtain ⟨hc1, hc2⟩ := (hfirst c).1 hc
      refine hr ⟨hc1, hc2, fun hshed => ?_⟩
      rw [hs c hshed] at ht
      cases ht
    rw [hchan, hother c (mt (hmem c).1 ha), State.restoring_chan_other hstay]
end

-- ==== Proofs: shedding ====
section
/-! SUPPORT. The shed stage (R67 to R72): channels taken from the highest down until a share is reached. -/

namespace Sys2Proof.Machine

variable {s t : State} {k : Tier} {share n : Nat} {L : List Channel}

/-! ### Taking from a list until a share is reached -/

section
variable {α : Type} {w : α → Nat} {a : α} {l : List α}

/-- The members of a list up to the one with which the total of their weights, from `n` on, reaches the share. -/
def reach (w : α → Nat) (share : Nat) : Nat → List α → List α
  | _, [] => []
  | n, a :: l => if n < share then a :: reach w share (n + w a) l else []

theorem reach_of_le (h : share ≤ n) (l : List α) : reach w share n l = [] := by
  cases l with
  | nil => rfl
  | cons a l => exact if_neg (Nat.not_lt.2 h)

theorem reach_cons_of_lt (h : n < share) (a : α) (l : List α) :
    reach w share n (a :: l) = a :: reach w share (n + w a) l := if_pos h

theorem lt_of_reach_ne_nil (h : reach w share n l ≠ []) : n < share :=
  Nat.not_le.1 fun hle => h (reach_of_le hle l)

theorem reach_isPrefix (l : List α) : ∀ n, reach w share n l <+: l := by
  induction l with
  | nil => exact fun n => List.prefix_rfl
  | cons a l ih =>
    intro n
    by_cases h : n < share
    · rw [reach_cons_of_lt h]
      exact (List.prefix_cons_inj a).2 (ih _)
    · rw [reach_of_le (Nat.not_lt.1 h)]
      exact List.nil_prefix

/-- Every member is taken, or the share is reached. -/
theorem reach_eq_or_le (l : List α) : ∀ n, reach w share n l = l ∨ share ≤ n + ((reach w share n l).map w).sum := by
  induction l with
  | nil => exact fun n => .inl rfl
  | cons a l ih =>
    intro n
    by_cases h : n < share
    · rw [reach_cons_of_lt h, List.map_cons, List.sum_cons, ← Nat.add_assoc]
      exact (ih _).imp_left fun e => by rw [e]
    · exact .inr ((Nat.not_lt.1 h).trans (Nat.le_add_right _ _))

/-- Without the last member taken the share is not reached. -/
theorem reach_last (l : List α) : ∀ {n}, (reach w share n l).getLast? = some a →
    n + ((reach w share n l).map w).sum < share + w a := by
  induction l with
  | nil => exact fun h => by cases h
  | cons b l ih =>
    intro n h
    have hlt : n < share := lt_of_reach_ne_nil (l := b :: l) fun e => by rw [e] at h; cases h
    rw [reach_cons_of_lt hlt] at h ⊢
    rw [List.map_cons, List.sum_cons, ← Nat.add_assoc]
    cases hr : reach w share (n + w b) l with
    | nil =>
      rw [hr] at h
      obtain rfl : b = a := by simpa using h
      simpa using hlt
    | cons x xs =>
      have hlast : (reach w share (n + w b) l).getLast? = some a := by rw [hr] at h ⊢; simpa using h
      rw [← hr]
      exact ih hlast

theorem reach_congr {w' : α → Nat} {l : List α} : ∀ {n}, (∀ a ∈ l, w a = w' a) → reach w share n l = reach w' share n l := by
  induction l with
  | nil => exact fun _ => rfl
  | cons a l ih =>
    intro n h
    unfold reach
    rw [h a List.mem_cons_self, ih fun b hb => h b (List.mem_cons_of_mem _ hb)]

end

/-! ### Channels taken from the highest down (R70, R71) -/

/-- R70, R71: `u` follows from `v` by an operation, which makes `F r` of a record `r`, at the channels `L`: those that pass
`P`, from the highest down, until the total of what they give, from `n` on, reaches the share. -/
structure State.Takes (P : ChannelRecord → Bool) (F : ChannelRecord → ChannelRecord) (w : ChannelRecord → Nat)
    (share n : Nat) (L : List Channel) (v u : State) (total : Nat) : Prop where
  nodup : L.Nodup
  chan : ∀ d, u.chan d = if d ∈ L then F (v.chan d) else v.chan d
  passes : ∀ c ∈ L, P (v.chan c) = true
  down : ∀ c ∈ L, ∀ d, c < d → P (v.chan d) = true → d ∈ L
  gained : total = n + (L.map fun c => w (v.chan c)).sum
  met : (∀ c, P (v.chan c) = true → c ∈ L) ∨ share ≤ total
  began : L ≠ [] → n < share
  last : ∀ c ∈ L, (∀ d ∈ L, ¬d < c) → total < share + w (v.chan c)

theorem mem_channelsDown (c : Channel) : c ∈ channelsDown := List.mem_reverse.2 (mem_allChannels c)

theorem channelsDown_sorted : channelsDown.Pairwise fun a b => b < a := List.pairwise_reverse.2 (List.pairwise_lt_finRange 20)

section
variable {P : ChannelRecord → Bool} {F : ChannelRecord → ChannelRecord} {w : ChannelRecord → Nat} {op : State → Channel → State}

/-- R70, R71: one channel of a pass: while the total is below the share, a channel that passes `P` is operated on. -/
def takeOne (P : ChannelRecord → Bool) (w : ChannelRecord → Nat) (op : State → Channel → State) (share : Nat)
    (p : State × Nat) (c : Channel) : State × Nat :=
  if p.2 < share && P (p.1.chan c) then (op p.1 c, p.2 + w (p.1.chan c)) else p

/-- R70, R71: the channels of a list that a pass operates on. -/
def State.reached (P : ChannelRecord → Bool) (w : ChannelRecord → Nat) (share n : Nat) (l : List Channel) (s : State) :
    List Channel :=
  reach (fun c => w (s.chan c)) share n (l.filter fun c => P (s.chan c))

theorem State.reached_subset (l : List Channel) (s : State) : s.reached P w share n l ⊆ l := fun _ hd =>
  (List.mem_filter.1 ((reach_isPrefix _ _).subset hd)).1

/-- The channels of a pass, and what they give, are read from the records of its list alone. -/
theorem State.reached_congr {l : List Channel} (h : ∀ d ∈ l, t.chan d = s.chan d) :
    t.reached P w share n l = s.reached P w share n l
      ∧ ((s.reached P w share n l).map fun d => w (t.chan d)) = (s.reached P w share n l).map fun d => w (s.chan d) := by
  have hfilter : (l.filter fun d => P (t.chan d)) = l.filter fun d => P (s.chan d) :=
    List.filter_congr fun d hd => by rw [h d hd]
  refine ⟨?_, List.map_congr_left fun d hd => by rw [h d (s.reached_subset l hd)]⟩
  rw [State.reached, hfilter]
  exact reach_congr fun d hd => by rw [h d (List.mem_filter.1 hd).1]

/-- R70, R71: a pass operates at the channels that reach the share, and adds up what they give. -/
theorem foldl_takeOne (others : ∀ (s : State) (c d : Channel), d ≠ c → (op s c).chan d = s.chan d) (share : Nat)
    (l : List Channel) : ∀ (s : State) (n : Nat), l.Nodup → l.foldl (takeOne P w op share) (s, n)
      = ((s.reached P w share n l).foldl op s, n + ((s.reached P w share n l).map fun c => w (s.chan c)).sum) := by
  induction l with
  | nil => exact fun s n _ => rfl
  | cons c l ih =>
    intro s n hn
    obtain ⟨hc, hl⟩ := List.nodup_cons.1 hn
    rw [List.foldl_cons]
    by_cases htake : n < share ∧ P (s.chan c) = true
    · obtain ⟨hlt, hP⟩ := htake
      obtain ⟨hsame, hgain⟩ := State.reached_congr (P := P) (w := w) (share := share) (n := n + w (s.chan c)) (l := l) fun d hd =>
        others s c d (by rintro rfl; exact hc hd)
      have hcons : s.reached P w share n (c :: l) = c :: s.reached P w share (n + w (s.chan c)) l := by
        rw [State.reached, List.filter_cons_of_pos (p := fun c => P (s.chan c)) hP, reach_cons_of_lt hlt]
        rfl
      have hone : takeOne P w op share (s, n) c = (op s c, n + w (s.chan c)) := if_pos (by simp [hlt, hP])
      rw [hone, ih _ _ hl, hsame, hgain, hcons, List.foldl_cons, List.map_cons, List.sum_cons, Nat.add_assoc]
    · have hcons : s.reached P w share n (c :: l) = s.reached P w share n l := by
        unfold State.reached
        by_cases hP : P (s.chan c) = true
        · have hle : share ≤ n := Nat.not_lt.1 fun hlt => htake ⟨hlt, hP⟩
          rw [reach_of_le hle, reach_of_le hle]
        · rw [List.filter_cons_of_neg (p := fun c => P (s.chan c)) hP]
      have hone : takeOne P w op share (s, n) c = (s, n) := if_neg (by simpa using htake)
      rw [hone, ih _ _ hl, hcons]

/-- R70, R71: a pass over all channels. -/
theorem State.takes_pass (self : ∀ (s : State) (c : Channel), (op s c).chan c = F (s.chan c))
    (others : ∀ (s : State) (c d : Channel), d ≠ c → (op s c).chan d = s.chan d) (share n : Nat) (v : State) :
    ∃ L u total, channelsDown.foldl (takeOne P w op share) (v, n) = (u, total) ∧ State.Takes P F w share n L v u total := by
  have hnodup : channelsDown.Nodup := List.nodup_reverse.2 allChannels_nodup
  have hmem : ∀ c, c ∈ (channelsDown.filter fun c => P (v.chan c)) ↔ P (v.chan c) = true := fun c =>
    ⟨fun h => (List.mem_filter.1 h).2, fun h => List.mem_filter.2 ⟨mem_channelsDown c, h⟩⟩
  obtain ⟨L, hL⟩ : ∃ L, v.reached P w share n channelsDown = L := ⟨_, rfl⟩
  have hpre : L <+: channelsDown.filter fun c => P (v.chan c) := hL ▸ reach_isPrefix _ n
  have hLn : L.Nodup := hpre.sublist.nodup (hnodup.filter _)
  have hsorted : (channelsDown.filter fun c => P (v.chan c)).Pairwise fun a b => b < a := channelsDown_sorted.filter _
  refine ⟨L, _, _, by rw [foldl_takeOne others share _ _ _ hnodup, hL], hLn, State.foldl_chan self others L hLn v,
    fun c hc => (hmem c).1 (hpre.subset hc), fun c hc d hcd hP => ?_, rfl, ?_, fun h => ?_, fun c hc hlow => ?_⟩
  · obtain ⟨rest, hrest⟩ := hpre
    have hd := (hmem d).2 hP
    rw [← hrest] at hd hsorted
    refine (List.mem_append.1 hd).resolve_right fun hd => ?_
    exact lt_asymm hcd ((List.pairwise_append.1 hsorted).2.2 c hc d hd)
  · rw [← hL]
    exact (reach_eq_or_le _ n).imp_left fun e c hP => by rw [State.reached, e]; exact (hmem c).2 hP
  · rw [← hL] at h
    exact lt_of_reach_ne_nil h
  · have hne : L ≠ [] := List.ne_nil_of_mem hc
    have hlast : L.getLast hne = c := by
      by_contra hx
      have hdesc := hsorted.sublist hpre.sublist
      rw [← List.dropLast_append_getLast hne] at hc hdesc
      have hc := (List.mem_append.1 hc).resolve_right fun h => hx (List.mem_singleton.1 h).symm
      exact hlow _ (List.getLast_mem hne) ((List.pairwise_append.1 hdesc).2.2 c hc _ (List.mem_singleton_self _))
    have hget : L.getLast? = some c := by rw [List.getLast?_eq_some_getLast hne, hlast]
    rw [← hL] at hget ⊢
    exact reach_last (w := fun c => w (v.chan c)) _ hget

end

/-! ### What a pass leaves of an own tier booking (R61) -/

/-- R61: what channels of a tier give up, their tier's booking loses. -/
theorem State.ownTier_add_sum {gain : Channel → Nat} (hn : L.Nodup)
    (hin : ∀ c ∈ L, (s.chan c).cfg.tier = k ∧ (t.chan c).cfg.tier = k ∧ (t.chan c).booking + gain c = (s.chan c).booking)
    (hout : ∀ c, c ∉ L → (t.chan c).cfg.tier = (s.chan c).cfg.tier
      ∧ ((s.chan c).cfg.tier = k → (t.chan c).booking = (s.chan c).booking)) :
    t.ownTier k + (L.map gain).sum = s.ownTier k := by
  have hsum : (L.map gain).sum = (allChannels.map fun c => if c ∈ L then gain c else 0).sum := by
    rw [← List.sum_toFinset gain hn, allChannels, ← Fin.sum_univ_def, Finset.sum_ite, Finset.sum_const_zero, add_zero]
    exact Finset.sum_congr (by ext c; simp) fun _ _ => rfl
  rw [State.ownTier, State.ownTier, hsum, ← List.sum_map_add]
  refine congrArg List.sum (List.map_congr_left fun c _ => ?_)
  by_cases hc : c ∈ L
  · obtain ⟨h1, h2, h3⟩ := hin c hc
    rw [if_pos h2, if_pos h1, if_pos hc, h3]
  · obtain ⟨h1, h2⟩ := hout c hc
    rw [if_neg hc, h1]
    split
    · next hk => rw [h2 hk, add_zero]
    · rfl

end Sys2Proof.Machine
end

-- ==== Proofs: shedstage ====
section
/-! PROOFS. The shed stage of a round (R67 to R72, R163): O32. -/

namespace Sys2Proof.Machine

variable {s t v m w : State} {c d : Channel} {k : Tier} {r : ChannelRecord} {share n total : Nat} {T X : List Channel}

/-! ### One channel throttled or shed (R70, R71, R72) -/

/-- R70: the record after a throttle. -/
def ChannelRecord.toThrottled (r : ChannelRecord) : ChannelRecord :=
  if r.state = .on then r.toCyclingFromOn else r.withThrottle true

theorem State.throttle_chan_self (s : State) (c : Channel) : (s.throttle c).chan c = (s.chan c).toThrottled := by
  unfold State.throttle ChannelRecord.toThrottled
  by_cases h : (s.chan c).state = .on <;> simp [h]

theorem State.throttle_chan_ne (s : State) (c d : Channel) (h : d ≠ c) : (s.throttle c).chan d = s.chan d := by
  unfold State.throttle
  split
  · exact State.enter_chan_ne h _ s
  · exact s.modChan_chan_ne h _

theorem State.shed_chan_self (s : State) (c : Channel) : (s.shed c).chan c = (s.chan c).toShed := State.enter_chan_self c _ s

theorem State.shed_chan_ne (s : State) (c d : Channel) (h : d ≠ c) : (s.shed c).chan d = s.chan d := State.enter_chan_ne h _ s

/-- R70: the channels that a round with shed tier `k` may throttle. -/
theorem ChannelRecord.throttles_iff : r.throttles k = true ↔ r.cfg.tier = k ∧ r.cfg.dutyMode = .slowCycle
    ∧ r.cfg.throttleable = true ∧ r.throttled = false ∧ (r.state = .slotwait ∨ r.state = .starting ∨ r.state = .on)
    ∧ r.cfg.bookingFor r.duty true < r.cfg.nominal := by
  simp [ChannelRecord.throttles, ChannelRecord.saving, and_assoc, or_assoc]

/-- R70: a throttled record books what the throttle leaves, in CYCLING where it was in ON. -/
theorem ChannelRecord.toThrottled_spec (h : r.throttles k = true) : r.toThrottled.cfg = r.cfg ∧ r.toThrottled.throttled = true
    ∧ r.toThrottled.booking = r.cfg.bookingFor r.duty true
    ∧ r.toThrottled.state = if r.state = .on then .cycling else r.state := by
  obtain ⟨-, -, -, -, hstate, -⟩ := ChannelRecord.throttles_iff.1 h
  unfold ChannelRecord.toThrottled
  rcases hstate with e | e | e <;>
    simp [e, ChannelRecord.withThrottle, ChannelState.books, ChannelRecord.toCyclingFromOn, ChannelRecord.startOnPhase]

/-- R71: a booked channel of the tier. -/
def ChannelRecord.bookedIn (k : Tier) (r : ChannelRecord) : Bool := r.cfg.tier == k && r.state.books

theorem ChannelRecord.bookedIn_iff : r.bookedIn k = true ↔ r.cfg.tier = k ∧ r.state.books = true := by
  simp [ChannelRecord.bookedIn]

theorem ChannelRecord.bookedIn_of_throttles (h : r.throttles k = true) : r.bookedIn k = true := by
  obtain ⟨htier, -, -, -, hstate, -⟩ := ChannelRecord.throttles_iff.1 h
  rw [ChannelRecord.bookedIn_iff]
  rcases hstate with e | e | e <;> simp [e, htier, ChannelState.books]

theorem ChannelRecord.toThrottled_bookedIn (h : r.throttles k = true) : r.toThrottled.bookedIn k = true := by
  obtain ⟨hcfg, -, -, hnew⟩ := ChannelRecord.toThrottled_spec h
  obtain ⟨htier, -, -, -, hstate, -⟩ := ChannelRecord.throttles_iff.1 h
  rw [ChannelRecord.bookedIn_iff, hcfg, hnew]
  rcases hstate with e | e | e <;> simp [e, htier, ChannelState.books]

/-- R7, R70: a throttle gives up what it saves. -/
theorem ChannelRecord.Ruled.toThrottled_booking (h : r.Ruled) (ht : r.throttles k = true) :
    r.toThrottled.booking + r.saving = r.booking := by
  obtain ⟨-, -, hbook, -⟩ := ChannelRecord.toThrottled_spec ht
  obtain ⟨-, hbooked⟩ := ChannelRecord.bookedIn_iff.1 (ChannelRecord.bookedIn_of_throttles ht)
  obtain ⟨-, hmode, -, hfree, -, hlt⟩ := ChannelRecord.throttles_iff.1 ht
  have hfull : r.cfg.bookingFor r.duty false = r.cfg.nominal := by simp [ChannelConfig.bookingFor, hmode]
  rw [hbook, h.booked hbooked, hfree, hfull, ChannelRecord.saving]
  omega

/-! ### The two passes (R70, R71) -/

/-- R70: the throttle pass. -/
theorem State.throttleStep_takes (k : Tier) (share : Nat) (v : State) : ∃ T m n, v.throttleStep k share = (m, n)
    ∧ State.Takes (·.throttles k) (·.toThrottled) (·.saving) share 0 T v m n := by
  have hstep : v.throttleStep k share
      = channelsDown.foldl (takeOne (·.throttles k) (·.saving) (fun s c => s.throttle c) share) (v, 0) := rfl
  rw [hstep]
  exact State.takes_pass State.throttle_chan_self State.throttle_chan_ne share 0 v

/-- R71: the pass that sheds. -/
theorem State.offStep_takes (k : Tier) (share n : Nat) (m : State) : ∃ X w total, State.offStep k share (m, n) = (w, total)
    ∧ State.Takes (·.bookedIn k) (·.toShed) (·.booking) share n X m w total := by
  have hstep : ∀ p, State.offStep k share p = channelsDown.foldl (takeOne (·.bookedIn k) (·.booking) (fun s c => s.shed c) share) p :=
    fun p => by
      unfold State.offStep takeOne ChannelRecord.bookedIn
      simp only [Bool.and_assoc]
  simp only [hstep]
  exact State.takes_pass State.shed_chan_self State.shed_chan_ne share n m

/-- R70, R71: what the two passes of a shed tier `k` leave of the state `v`: the channels `T` are throttled, and the channels
`X`, some of them throttled before, are shed. -/
structure State.Sheds (k : Tier) (share : Nat) (T X : List Channel) (v w : State) : Prop where
  untouched : ∀ c, (v.chan c).bookedIn k = true → c ∉ T → c ∉ X → w.chan c = v.chan c
  throttled : ∀ c ∈ T, c ∉ X → w.chan c = (v.chan c).toThrottled
  shed : ∀ c ∈ X, (w.chan c).state = .shed ∧ (w.chan c).events.shed = true ∧ (w.chan c).throttled = false
  throttles : ∀ c ∈ T, (v.chan c).throttles k = true
  booked : ∀ c ∈ X, (v.chan c).bookedIn k = true
  throttlesDown : ∀ c ∈ T, ∀ d, c < d → (v.chan d).throttles k = true → d ∈ T
  shedsDown : ∀ c ∈ X, ∀ d, c < d → (v.chan d).bookedIn k = true → d ∈ X
  throttlesFirst : ∀ c ∈ X, ∀ d, (v.chan d).throttles k = true → d ∈ T
  met : w.ownTier k + share ≤ v.ownTier k
  lastShed : ∀ c ∈ X, (∀ d ∈ X, ¬d < c) → v.ownTier k < w.ownTier k + share + (v.chan c).booking
  lastThrottled : X = [] → ∀ c ∈ T, (∀ d ∈ T, ¬d < c) → v.ownTier k < w.ownTier k + share + (v.chan c).saving
  zero : share = 0 → T = [] ∧ X = []

section
variable (hT : State.Takes (·.throttles k) (·.toThrottled) (·.saving) share 0 T v m n)
  (hX : State.Takes (·.bookedIn k) (·.toShed) (·.booking) share n X m w total) (hv : ∀ c, (v.chan c).Ruled)
include hT

theorem State.throttled_cfg (c : Channel) : (m.chan c).cfg = (v.chan c).cfg := by
  rw [hT.chan]
  split
  · next hc => exact (ChannelRecord.toThrottled_spec (hT.passes c hc)).1
  · rfl

/-- R70: the throttle pass leaves the same channels booked. -/
theorem State.throttled_bookedIn (c : Channel) : (m.chan c).bookedIn k = (v.chan c).bookedIn k := by
  rw [hT.chan]
  split
  · next hc =>
    rw [ChannelRecord.toThrottled_bookedIn (hT.passes c hc), ChannelRecord.bookedIn_of_throttles (hT.passes c hc)]
  · rfl

include hv in
theorem State.throttled_booking_le (c : Channel) : (m.chan c).booking ≤ (v.chan c).booking := by
  rw [hT.chan]
  split
  · next hc => exact (Nat.le_add_right _ _).trans ((hv c).toThrottled_booking (hT.passes c hc)).le
  · exact Nat.le_refl _

include hv in
/-- R70: the tier's booking loses what the throttles save. -/
theorem State.throttled_ownTier : m.ownTier k + n = v.ownTier k := by
  rw [hT.gained, Nat.zero_add]
  refine State.ownTier_add_sum hT.nodup (fun c hc => ⟨?_, ?_, ?_⟩) fun c hc => ?_
  · exact (ChannelRecord.throttles_iff.1 (hT.passes c hc)).1
  · rw [State.throttled_cfg hT]
    exact (ChannelRecord.throttles_iff.1 (hT.passes c hc)).1
  · rw [hT.chan, if_pos hc]
    exact (hv c).toThrottled_booking (hT.passes c hc)
  · rw [hT.chan, if_neg hc]
    exact ⟨rfl, fun _ => rfl⟩

include hX

include hv in
/-- R70, R71: the tier's booking loses the total of the two passes. -/
theorem State.shed_ownTier : w.ownTier k + total = v.ownTier k := by
  have hm : w.ownTier k + (X.map fun c => (m.chan c).booking).sum = m.ownTier k := by
    refine State.ownTier_add_sum hX.nodup (fun c hc => ?_) fun c hc => ?_
    · have htier := (ChannelRecord.bookedIn_iff.1 (hX.passes c hc)).1
      rw [hX.chan, if_pos hc]
      exact ⟨htier, htier, Nat.zero_add _⟩
    · rw [hX.chan, if_neg hc]
      exact ⟨rfl, fun _ => rfl⟩
  rw [hX.gained, ← State.throttled_ownTier hT hv, ← hm]
  omega

include hv in
/-- R71: where every booked channel of the tier is shed, the tier books nothing. -/
theorem State.shed_ownTier_zero (h : ∀ c, (m.chan c).bookedIn k = true → c ∈ X) : w.ownTier k = 0 := by
  refine List.sum_eq_zero fun x hx => ?_
  obtain ⟨c, -, rfl⟩ := List.mem_map.1 hx
  split
  · next htier =>
    by_cases hc : c ∈ X
    · rw [hX.chan, if_pos hc]
      rfl
    · rw [hX.chan, if_neg hc] at htier ⊢
      have hnot := mt (h c) hc
      rw [State.throttled_bookedIn hT, ChannelRecord.bookedIn_iff, ← State.throttled_cfg hT] at hnot
      have hunbooked := (hv c).unbooked (Bool.eq_false_iff.2 fun hb => hnot ⟨htier, hb⟩)
      exact Nat.le_zero.1 ((State.throttled_booking_le hT hv c).trans hunbooked.1.le)
  · rfl

/-- R70, R71: the two passes leave every channel but those booked in the tier. -/
theorem State.others_of_takes (h : (v.chan c).bookedIn k = false) : w.chan c = v.chan c := by
  have hc : c ∉ T := fun hc => by
    rw [ChannelRecord.bookedIn_of_throttles (hT.passes c hc)] at h
    cases h
  have hx : c ∉ X := fun hx => by
    rw [← State.throttled_bookedIn hT, hX.passes c hx] at h
    cases h
  rw [hX.chan, if_neg hx, hT.chan, if_neg hc]

include hv

theorem State.sheds_of_takes (hs : share ≤ v.ownTier k) : State.Sheds k share T X v w := by
  have hown := State.shed_ownTier hT hX hv
  have hlt : X ≠ [] → n < share := hX.began
  refine ⟨fun c _ hc hx => ?_, fun c hc hx => ?_, fun c hc => ?_, hT.passes, fun c hc => ?_, hT.down, fun c hc d hcd hd => ?_,
    fun c hc d hd => ?_, ?_, fun c hc hlow => ?_, fun hnil c hc hlow => ?_, fun hz => ⟨?_, ?_⟩⟩
  · rw [hX.chan, if_neg hx, hT.chan, if_neg hc]
  · rw [hX.chan, if_neg hx, hT.chan, if_pos hc]
  · rw [hX.chan, if_pos hc]
    exact ⟨rfl, rfl, rfl⟩
  · rw [← State.throttled_bookedIn hT]
    exact hX.passes c hc
  · exact hX.down c hc d hcd (by rwa [State.throttled_bookedIn hT])
  · exact hT.met.resolve_right (Nat.not_le.2 (hlt (List.ne_nil_of_mem hc))) d hd
  · rcases hX.met with hall | hle
    · have hzero := State.shed_ownTier_zero hT hX hv hall
      omega
    · omega
  · have hlast := hX.last c hc hlow
    have hle := State.throttled_booking_le hT hv c
    omega
  · have hlast := hT.last c hc hlow
    have hsame : total = n := by rw [hX.gained, hnil]; rfl
    omega
  · by_contra hne
    exact absurd (hT.began hne) (by omega)
  · by_contra hne
    exact absurd (hlt hne) (by omega)

end

theorem State.Sheds.not_deferred (h : State.Sheds k share T X v w) (hb : (v.chan c).bookedIn k = true) :
    (w.chan c).state ≠ .deferred := by
  have hbooks : ∀ {r : ChannelRecord}, r.bookedIn k = true → r.state ≠ .deferred := fun hr e => by
    have := (ChannelRecord.bookedIn_iff.1 hr).2
    rw [e] at this
    cases this
  by_cases hx : c ∈ X
  · rw [(h.shed c hx).1]
    exact ChannelState.noConfusion
  · by_cases ht : c ∈ T
    · rw [h.throttled c ht hx]
      exact hbooks (ChannelRecord.toThrottled_bookedIn (h.throttles c ht))
    · rw [h.untouched c hb ht hx]
      exact hbooks hb

/-- What is read of two passes is read from the channels booked in the tier and from its booking. -/
theorem State.Sheds.congr {z : State} (h : State.Sheds k share T X v w)
    (hs : ∀ c, (s.chan c).bookedIn k = true ∨ (v.chan c).bookedIn k = true → s.chan c = v.chan c)
    (hz : ∀ c, (v.chan c).bookedIn k = true → z.chan c = w.chan c) (hso : s.ownTier k = v.ownTier k)
    (hzo : z.ownTier k = w.ownTier k) : State.Sheds k share T X s z := by
  have hbooked : ∀ c, (s.chan c).bookedIn k = true → (v.chan c).bookedIn k = true := fun c hc => hs c (.inl hc) ▸ hc
  have hpass : ∀ c, (s.chan c).throttles k = true → (v.chan c).throttles k = true := fun c hc =>
    hs c (.inl (ChannelRecord.bookedIn_of_throttles hc)) ▸ hc
  have hT : ∀ c ∈ T, (v.chan c).bookedIn k = true := fun c hc => ChannelRecord.bookedIn_of_throttles (h.throttles c hc)
  refine ⟨fun c hc ht hx => ?_, fun c hc hx => ?_, fun c hc => ?_, fun c hc => ?_, fun c hc => ?_, fun c hc d hcd hd =>
    h.throttlesDown c hc d hcd (hpass d hd), fun c hc d hcd hd => h.shedsDown c hc d hcd (hbooked d hd), fun c hc d hd =>
    h.throttlesFirst c hc d (hpass d hd), ?_, fun c hc hlow => ?_, fun hnil c hc hlow => ?_, h.zero⟩
  · rw [hz c (hbooked c hc), h.untouched c (hbooked c hc) ht hx, hs c (.inl hc)]
  · rw [hz c (hT c hc), h.throttled c hc hx, hs c (.inr (hT c hc))]
  · rw [hz c (h.booked c hc)]
    exact h.shed c hc
  · rw [hs c (.inr (hT c hc))]
    exact h.throttles c hc
  · rw [hs c (.inr (h.booked c hc))]
    exact h.booked c hc
  · rw [hso, hzo]
    exact h.met
  · rw [hso, hzo, hs c (.inr (h.booked c hc))]
    exact h.lastShed c hc hlow
  · rw [hso, hzo, hs c (.inr (hT c hc))]
    exact h.lastThrottled hnil c hc hlow

/-! ### The shed tier (R67) -/

theorem State.shedTier_eq_find (h : s.tierSum 0 ≤ s.allowanceNow) : s.shedTier = some k ↔ k ≠ 0 ∧ s.allowanceNow < s.tierSum k
    ∧ ∀ j, j ≠ 0 → j < k → s.tierSum j ≤ s.allowanceNow := by
  have hmem : ∀ j : Tier, j ∈ ([1, 2, 3] : List Tier) ↔ j ≠ 0 := by decide
  rw [State.shedTier, if_neg (Nat.not_lt.2 h), find?_eq_some_iff_first (R := (· < ·)) (fun _ _ => lt_asymm) (by decide)]
  simp only [hmem, decide_eq_true_eq]
  refine and_congr_right fun _ => and_congr_right fun _ => forall₂_congr fun j _ => ?_
  constructor
  · exact fun hj hlt => Nat.not_lt.1 fun hover => lt_asymm hlt (hj hlt.ne hover)
  · exact fun hj hne hover => (lt_or_gt_of_ne hne).resolve_left fun hlt => Nat.not_le.2 hover (hj hlt)

/-- R67: tier 1 sheds where tier 0 exceeds the allowance, and otherwise the first tier that exceeds it. -/
theorem State.shedTier_of (h : (s.allowanceNow < s.tierSum 0 ∧ k = 1) ∨ (s.tierSum 0 ≤ s.allowanceNow ∧ k ≠ 0
    ∧ s.allowanceNow < s.tierSum k ∧ ∀ j, j ≠ 0 → j < k → s.tierSum j ≤ s.allowanceNow)) : s.shedTier = some k := by
  rcases h with ⟨h, rfl⟩ | ⟨h, hk⟩
  · rw [State.shedTier, if_pos h]
  · exact (State.shedTier_eq_find h).2 hk

/-- R67, R72: tier 0 never sheds; with no shed tier none is exceeded. -/
theorem State.shedTier_cases (s : State) : (∃ k, s.shedTier = some k ∧ k ≠ 0) ∨ ∀ k, s.tierSum k ≤ s.allowanceNow := by
  by_cases h : s.allowanceNow < s.tierSum 0
  · exact .inl ⟨1, State.shedTier_of (.inl ⟨h, rfl⟩), by decide⟩
  · have h0 := Nat.not_lt.1 h
    cases hk : s.shedTier with
    | some k => exact .inl ⟨k, rfl, ((State.shedTier_eq_find h0).1 hk).1⟩
    | none =>
      rw [State.shedTier, if_neg h, List.find?_eq_none] at hk
      refine .inr fun k => ?_
      fin_cases k
      · exact h0
      all_goals exact Nat.not_lt.1 (by simpa using hk _ (by decide))

/-- R69: the own share is at most what the own channels of the tier book. -/
theorem State.ownShare_le (k : Tier) (s : State) : s.ownShare k ≤ s.ownTier k := by
  unfold State.ownShare
  dsimp only
  split
  · exact Nat.min_le_left _ _
  · exact Nat.zero_le _

/-! ### The shed stage (R68 to R72) -/

/-- R68: a booked record of a tier above the shed tier `k` is shed. -/
def ChannelRecord.shedAbove (k : Tier) (r : ChannelRecord) : ChannelRecord :=
  if k < r.cfg.tier && r.state.books then r.toShed else r

theorem State.shedAbove_chan (k : Tier) (s : State) (c : Channel) : (s.shedAbove k).chan c = (s.chan c).shedAbove k := by
  unfold State.shedAbove
  rw [State.foldl_chan (F := ChannelRecord.shedAbove k) (fun s c => ?_) (fun s c d hd => ?_) _ allChannels_nodup,
    if_pos (mem_allChannels c)]
  · unfold ChannelRecord.shedAbove
    split
    · exact s.shed_chan_self c
    · rfl
  · split
    · exact s.shed_chan_ne c d hd
    · rfl

theorem ChannelRecord.shedAbove_of_above (h : k < r.cfg.tier) (hb : r.state.books = true) : r.shedAbove k = r.toShed :=
  if_pos (by simp [h, hb])

theorem ChannelRecord.shedAbove_of_le (h : r.cfg.tier ≤ k) : r.shedAbove k = r := if_neg (by simp [Fin.not_lt.2 h])

theorem ChannelRecord.shedAbove_cfg (k : Tier) (r : ChannelRecord) : (r.shedAbove k).cfg = r.cfg := by
  unfold ChannelRecord.shedAbove
  split <;> rfl

theorem State.Ruled.rearmed (h : s.Ruled) : s.rearmed.Ruled := ⟨h.channels, h.waiting, fun hm =>
  ⟨(h.unbegun hm).channels, (h.unbegun hm).bindings, (h.unbegun hm).queue⟩⟩

theorem State.Ruled.judged (h : s.Ruled) : s.judged.Ruled := (State.runs_judgeOverbooked s.rearmed).ruled h.rearmed

theorem State.judged_shedAbove_chan (k : Tier) (s : State) (c : Channel) :
    (s.judged.shedAbove k).chan c = (s.chan c).shedAbove k := by
  rw [State.shedAbove_chan, State.judged_chan]

/-- R68: shedding the tiers above leaves the booking of the shed tier. -/
theorem State.judged_shedAbove_ownTier (k : Tier) (s : State) : (s.judged.shedAbove k).ownTier k = s.ownTier k := by
  have hsum := State.ownTier_add_sum (s := s) (t := s.judged.shedAbove k) (k := k) (L := []) (gain := fun _ => 0) List.nodup_nil
    (fun c hc => absurd hc List.not_mem_nil) fun c _ => by
      rw [State.judged_shedAbove_chan, ChannelRecord.shedAbove_cfg]
      exact ⟨rfl, fun hk => by rw [ChannelRecord.shedAbove_of_le hk.le]⟩
  rwa [List.map_nil, List.sum_nil, Nat.add_zero] at hsum

/-- R67 to R72: the shed stage sheds the tiers above the shed tier and takes the two passes in it. -/
theorem State.shedStage_sheds (p : s.Plain) (hr : s.Ruled) (hk : s.shedTier = some k) :
    (∃ T X, State.Sheds k (s.ownShare k) T X (s.judged.shedAbove k) s.rearmed.shedStage)
      ∧ ∀ c, ((s.chan c).shedAbove k).bookedIn k = false → s.rearmed.shedStage.chan c = (s.chan c).shedAbove k := by
  obtain ⟨T, m, n, hm, hT⟩ := State.throttleStep_takes k (s.ownShare k) (s.judged.shedAbove k)
  obtain ⟨X, w, total, hw, hX⟩ := State.offStep_takes k (s.ownShare k) n m
  have hstage : s.rearmed.shedStage
      = (State.offStep k (s.ownShare k) ((s.judged.shedAbove k).throttleStep k (s.ownShare k))).1.handSlots := by
    have hk' : s.rearmed.shedTier = some k := hk
    rw [State.shedStage, hk']
    rfl
  have hcalm : s.rearmed.Calm (State.offStep k (s.ownShare k) ((s.judged.shedAbove k).throttleStep k (s.ownShare k))).1 :=
    (State.calm_judgeOverbooked s.rearmed).trans (State.routine_calm.trans
      (State.routine_calm.trans (State.routine_calm.shedAbove k _) (State.routine_calm.throttleStep k _ _))
      (State.routine_calm.offStep k _ _))
  rw [State.handSlots_of_noQueue (hcalm.noQueue p.noQueue), hm, hw] at hstage
  have hv : ∀ c, ((s.judged.shedAbove k).chan c).Ruled := ((State.moves_shedAbove k _).ruledState hr.judged).channels
  rw [hstage]
  refine ⟨⟨T, X, State.sheds_of_takes hT hX hv ?_⟩, fun c hc => ?_⟩
  · rw [State.judged_shedAbove_ownTier]
    exact s.ownShare_le k
  · rw [← State.judged_shedAbove_chan] at hc ⊢
    exact State.others_of_takes hT hX hc

/-! ### The round (R58) -/

theorem State.takeRound_of_running (hm : s.mode = .running) :
    s.takeRound = (s.shedStage.restoreStages s.shedTier.isSome).reportStage := by
  rw [State.takeRound, hm]

/-- R58: outside RUNNING a round restores nothing. -/
theorem State.takeRound_of_not_running (hm : s.mode = .listening ∨ s.mode = .isolated ∨ s.mode = .clashed) :
    (∀ c, s.takeRound.chan c = s.shedStage.chan c) ∧ ∀ j, s.takeRound.ownTier j = s.shedStage.ownTier j := by
  have hreport := And.intro (s.shedStage.reportStage_chan) (s.shedStage.reportStage_ownTier)
  unfold State.takeRound
  rcases hm with e | e | e <;> rw [e]
  · exact hreport
  · exact hreport
  · exact ⟨fun _ => rfl, fun _ => rfl⟩

/-- R58: a round that sheds restores nothing; its DEFERRED channels may still announce. -/
theorem State.restoreStages_shedding (hw : w.Ruled) :
    (∀ c, (w.chan c).state ≠ .deferred → (w.restoreStages true).chan c = w.chan c)
      ∧ ∀ j, (w.restoreStages true).ownTier j = w.ownTier j := by
  have hrestore : w.restoreStages true = (w.announcers none).foldl (fun s c => s.announce c) w := rfl
  obtain ⟨hout, hin⟩ := State.announceAll_chan (w.announcers none) w (w.byTier_nodup.filter _)
  have hmem : ∀ c ∈ w.announcers none, (w.chan c).state = .deferred := fun c hc => by
    rcases State.mem_announcers.1 hc with h | ⟨h, -⟩
    · exact h.1
    · cases h
  rw [hrestore]
  refine ⟨fun c hc => hout c fun h => hc (hmem c h), State.ownTier_congr fun c => ?_⟩
  by_cases hc : c ∈ w.announcers none
  · have hzero := ((hw.channels c).unbooked (by rw [hmem c hc]; rfl)).1
    rcases hin c hc with h | h <;> rw [h, hzero] <;> exact ⟨rfl, rfl⟩
  · rw [hout c hc]
    exact ⟨rfl, rfl⟩

theorem State.takeRound_shedding (hr : s.Ruled) (hk : s.shedTier = some k)
    (hm : s.mode = .listening ∨ s.mode = .running ∨ s.mode = .isolated ∨ s.mode = .clashed) :
    (∀ c, (s.shedStage.chan c).state ≠ .deferred → s.takeRound.chan c = s.shedStage.chan c)
      ∧ ∀ j, s.takeRound.ownTier j = s.shedStage.ownTier j := by
  by_cases hrun : s.mode = .running
  · obtain ⟨hchan, hown⟩ := State.restoreStages_shedding ((State.runs_shedStage s).ruled hr)
    rw [State.takeRound_of_running hrun, hk, Option.isSome_some]
    exact ⟨fun c hc => (State.reportStage_chan _ c).trans (hchan c hc), fun j => (State.reportStage_ownTier _ j).trans (hown j)⟩
  · obtain ⟨hchan, hown⟩ := State.takeRound_of_not_running (hm.imp_right fun h => h.resolve_left hrun)
    exact ⟨fun c _ => hchan c, hown⟩

/-- R67 to R72: a round with shed tier `k`: the two passes in that tier, every tier above shed, every tier below left. -/
theorem State.takeRound_sheds (p : s.Plain) (hr : s.Ruled) (hk : s.shedTier = some k)
    (hm : s.mode = .listening ∨ s.mode = .running ∨ s.mode = .isolated ∨ s.mode = .clashed) :
    (∃ T X, State.Sheds k (s.ownShare k) T X s s.rearmed.takeRound)
      ∧ (∀ c, k < (s.chan c).cfg.tier → (s.chan c).state.books = true → s.rearmed.takeRound.chan c = (s.chan c).toShed)
      ∧ ∀ c, (s.chan c).cfg.tier < k → (s.chan c).state.books = true → s.rearmed.takeRound.chan c = s.chan c := by
  obtain ⟨⟨T, X, hsheds⟩, hothers⟩ := State.shedStage_sheds p hr hk
  obtain ⟨hround, hown⟩ := State.takeRound_shedding (s := s.rearmed) hr.rearmed hk hm
  have hbooked : ∀ c, (s.chan c).bookedIn k = true ∨ ((s.judged.shedAbove k).chan c).bookedIn k = true →
      s.chan c = (s.judged.shedAbove k).chan c := fun c hc => by
    rw [State.judged_shedAbove_chan] at hc ⊢
    rw [ChannelRecord.bookedIn_iff, ChannelRecord.bookedIn_iff, ChannelRecord.shedAbove_cfg] at hc
    exact (ChannelRecord.shedAbove_of_le (hc.elim And.left And.left).le).symm
  refine ⟨⟨T, X, hsheds.congr hbooked (fun c hc => hround c (hsheds.not_deferred hc)) (s.judged_shedAbove_ownTier k).symm (hown k)⟩,
    fun c hc hb => ?_, fun c hc hb => ?_⟩
  · have hshed := ChannelRecord.shedAbove_of_above hc hb
    have hw := hothers c (by rw [hshed]; simp [ChannelRecord.bookedIn, ChannelRecord.toShed, ChannelState.books])
    rw [hround c (by rw [hw, hshed]; exact ChannelState.noConfusion), hw, hshed]
  · have hstay := ChannelRecord.shedAbove_of_le hc.le
    have hw := hothers c (by rw [hstay]; simp [ChannelRecord.bookedIn, hc.ne])
    rw [hround c (by rw [hw, hstay]; intro e; rw [e] at hb; cases hb), hw, hstay]

/-- R73 to R76: a round with no tier exceeded keeps every booked channel booked, and leaves it but where it is throttled. -/
theorem State.takeRound_keeps (hr : s.Ruled) (h : ∀ k, s.tierSum k ≤ s.allowanceNow)
    (hm : s.mode = .listening ∨ s.mode = .running ∨ s.mode = .isolated ∨ s.mode = .clashed) (hb : (s.chan c).state.books = true) :
    ((s.chan c).throttled = false → s.rearmed.takeRound.chan c = s.chan c)
      ∧ (s.rearmed.takeRound.chan c).state.books = true := by
  have hs : ∀ c, (s.chan c).state = .shed → (s.chan c).throttled = false := fun c e =>
    ((hr.channels c).unbooked (by rw [e]; rfl)).2
  by_cases hrun : s.mode = .running
  · have hnot : c ∉ s.restoring.announcers s.chosen := fun hc => by
      rcases (State.mem_restoring_announcers hs).1 hc with ⟨e, -⟩ | ⟨-, e⟩ <;> rw [e] at hb <;> cases hb
    have hchan : s.rearmed.takeRound.chan c = s.restoring.chan c := by
      rw [State.takeRound_restores hrun h, State.reportStage_chan]
      exact (State.announceAll_chan _ _ (s.restoring.byTier_nodup.filter _)).1 c hnot
    rw [hchan]
    by_cases ht : s.chosen = some c ∧ (s.chan c).throttled = true
    · obtain ⟨hc, ht⟩ := ht
      have hstate := State.chosen_throttled hs hc ht
      obtain ⟨-, -, -, -, hnew⟩ := ChannelRecord.unthrottled_spec hstate
      rw [State.restoring_chan_self hc ht, hnew]
      refine ⟨fun hf => absurd (ht.symm.trans hf) (by decide), ?_⟩
      rcases hstate with e | e | e <;> rw [e] <;> rfl
    · rw [State.restoring_chan_other ht]
      exact ⟨fun _ => rfl, hb⟩
  · have hnone : s.rearmed.shedStage = s.judged := State.shedStage_none (State.shedTier_none (s := s.rearmed) h)
    rw [(State.takeRound_of_not_running (s := s.rearmed) (hm.imp_right fun h => h.resolve_left hrun)).1 c, hnone, s.judged_chan]
    exact ⟨fun _ => rfl, hb⟩

/-- R67, R163: a round writes the overbooked indicator and SAFETY_OVERBOOKED alone of what is judged. -/
theorem State.takeRound_judges (hm : s.mode = .listening ∨ s.mode = .running ∨ s.mode = .isolated ∨ s.mode = .clashed) :
    s.judged.Acts s.rearmed.takeRound := by
  have hshed : s.judged.Acts s.rearmed.shedStage := (State.moves_shedStage s.rearmed).acts
  have hreport : ∀ {u : State}, s.judged.Acts u → s.judged.Acts u.reportStage := fun h => h.trans (State.acts_send _ _)
  have hmode : s.rearmed.mode = s.mode := rfl
  unfold State.takeRound
  rw [hmode]
  rcases hm with e | e | e | e <;> rw [e]
  · exact hreport hshed
  · exact hreport (hshed.trans (State.moves_restoreStages _ _).acts)
  · exact hreport hshed
  · exact hshed

/-! ### What is seen of the two passes -/

/-- R71, R72: of the channels booked in the shed tier those of the second pass are found in SHED. -/
theorem State.Sheds.shed_iff (h : State.Sheds k share T X s t) (hb : (s.chan c).bookedIn k = true) :
    (t.chan c).state = .shed ∧ (t.chan c).events.shed = true ↔ c ∈ X := by
  refine ⟨fun ⟨hshed, _⟩ => ?_, fun hx => ⟨(h.shed c hx).1, (h.shed c hx).2.1⟩⟩
  by_contra hx
  have hbooks : (t.chan c).state.books = true := by
    by_cases ht : c ∈ T
    · rw [h.throttled c ht hx]
      exact (ChannelRecord.bookedIn_iff.1 (ChannelRecord.toThrottled_bookedIn (h.throttles c ht))).2
    · rw [h.untouched c hb ht hx]
      exact (ChannelRecord.bookedIn_iff.1 hb).2
  rw [hshed] at hbooks
  cases hbooks

/-- R70: of the eligible channels those of the first pass that are not shed are found throttled. -/
theorem State.Sheds.throttled_iff (h : State.Sheds k share T X s t) (he : (s.chan c).throttles k = true) :
    ((t.chan c).throttled = true ∧ (t.chan c).booking = (s.chan c).cfg.bookingFor (s.chan c).duty true
      ∧ (t.chan c).state = if (s.chan c).state = .on then .cycling else (s.chan c).state) ↔ c ∈ T ∧ c ∉ X := by
  obtain ⟨-, hspec⟩ := ChannelRecord.toThrottled_spec he
  refine ⟨fun ⟨hthrottled, _⟩ => ?_, fun ⟨ht, hx⟩ => by rwa [h.throttled c ht hx]⟩
  have hx : c ∉ X := fun hx => by
    rw [(h.shed c hx).2.2] at hthrottled
    cases hthrottled
  refine ⟨by_contra fun ht => ?_, hx⟩
  obtain ⟨-, -, -, hfree, -⟩ := ChannelRecord.throttles_iff.1 he
  rw [h.untouched c (ChannelRecord.bookedIn_of_throttles he) ht hx, hfree] at hthrottled
  cases hthrottled

end Sys2Proof.Machine

/-- Settles O32. -/
theorem roundShedsItsShare : Obligations.RoundShedsItsShare := by
  open Sys2Proof.Machine in
  intro s star p hr hround hm a above excess share booked eligible
  have hjudged := s.rearmed.judgeOverbooked_eq
  have hacts := State.takeRound_judges hm
  have hchan : ∀ c, s.rearmed.takeRound.echoed.chan c = (s.rearmed.takeRound.chan c).followed := State.echoed_chan _
  refine ⟨_, p.exec_budgetRound hround, ?_, ?_, fun hstar => ?_, fun c htier hb hfree => ?_, fun hfit c hb => ?_⟩
  · rw [State.echoed_budget, hacts.budget, State.judged, hjudged]
    rfl
  · rw [State.echoed_events, hacts.events, State.judged, hjudged]
    rfl
  · obtain ⟨⟨T, X, h⟩, habove, -⟩ := State.takeRound_sheds p hr (State.shedTier_of hstar) hm
    simp only [hchan, State.echoed_ownTier]
    obtain ⟨t, ht⟩ : ∃ t, s.rearmed.takeRound = t := ⟨_, rfl⟩
    rw [ht] at h habove ⊢
    have hbook : ∀ {c}, booked c → (s.chan c).bookedIn star = true := ChannelRecord.bookedIn_iff.2
    have hbooked : ∀ {c}, c ∈ X → booked c := fun hc => ChannelRecord.bookedIn_iff.1 (h.booked _ hc)
    have hpass : ∀ {c}, eligible c → (s.chan c).throttles star = true := ChannelRecord.throttles_iff.2
    have hpassed : ∀ {c}, c ∈ T → eligible c := fun hc => ChannelRecord.throttles_iff.1 (h.throttles _ hc)
    have hshed := fun {c} (hc : booked c) => h.shed_iff (hbook hc)
    have hthrottled := fun {c} (hc : eligible c) => h.throttled_iff (hpass hc)
    have htaken := fun {d} (hd : eligible d) (hT : d ∈ T) =>
      (em (d ∈ X)).imp (fun hx => (hshed (hbooked hx)).2 hx) fun hx => (hthrottled hd).2 ⟨hT, hx⟩
    refine ⟨fun c hc hb => ?_, h.met, fun hz c hc => ?_, fun c hc => ?_, fun c d hc hs hcd hd => ?_, fun c d hc hs hd => ?_,
      fun c d hc hs hcd hd => ?_, fun c hc hs hlow => ?_, fun c hc hs hlow hnone => ?_⟩
    · rw [habove c hc hb]
      exact ⟨rfl, rfl⟩
    · obtain ⟨hT, hX⟩ := h.zero hz
      rw [h.untouched c (hbook hc) (by rw [hT]; exact List.not_mem_nil) (by rw [hX]; exact List.not_mem_nil)]
    · by_cases hx : c ∈ X
      · exact .inl ((hshed hc).2 hx)
      · by_cases hT : c ∈ T
        · exact .inr (.inl ⟨hpassed hT, (hthrottled (hpassed hT)).2 ⟨hT, hx⟩⟩)
        · exact .inr (.inr (congrArg _ (h.untouched c (hbook hc) hT hx)))
    · exact (hshed hd).2 (h.shedsDown c ((hshed hc).1 hs) d hcd (hbook hd))
    · exact htaken hd (h.throttlesFirst c ((hshed hc).1 hs) d (hpass hd))
    · exact htaken hd (h.throttlesDown c ((hthrottled hc).1 hs).1 d hcd (hpass hd))
    · exact h.lastShed c ((hshed hc).1 hs) fun d hd hlt => hlow d hlt (hbooked hd) ((hshed (hbooked hd)).2 hd)
    · have hnil : X = [] := List.eq_nil_iff_forall_not_mem.2 fun d hd => hnone d (hbooked hd) ((hshed (hbooked hd)).2 hd)
      have hempty : ∀ d, d ∉ X := fun d => by rw [hnil]; exact List.not_mem_nil
      have hlast : s.ownTier star < t.ownTier star + share + (s.chan c).saving := h.lastThrottled hnil c ((hthrottled hc).1 hs).1 fun d hd hlt =>
        hlow d hlt (hpassed hd) ((hthrottled (hpassed hd)).2 ⟨hd, hempty d⟩)
      have hsaved := (hr.channels c).toThrottled_booking (hpass hc)
      rw [h.throttled c ((hthrottled hc).1 hs).1 (hempty c), ChannelRecord.followed_booking, ← hsaved]
      omega
  · rw [hchan]
    rcases s.shedTier_cases with ⟨k, hk, hne⟩ | hfit
    · rw [(State.takeRound_sheds p hr hk hm).2.2 c (by rw [htier]; exact Fin.pos_of_ne_zero hne) hb]
    · rw [(State.takeRound_keeps hr hfit hm hb).1 hfree]
  · rw [hchan]
    exact (State.takeRound_keeps hr hfit hm hb).2
end

-- ==== Proofs: slots ====
section
/-! SUPPORT. The slots and the slot queue while an event runs (R79 to R82): what the primitive operations keep, and that
slots handed on leave none free while a channel waits. -/

/-! As in the model's tests, elaboration is synchronous: the many small proofs otherwise start more threads than the memory
limit of the check allows. -/

set_option Elab.async false

namespace Sys2Proof.Machine

variable {s t u : State} {c d : Channel} {r q : ChannelRecord} {f : ChannelRecord → ChannelRecord}

/-! ### What the slots are read from -/

/-- R79 to R82 while an event runs: all of `State.SlotsSound` but that freed slots have been handed on. -/
structure State.SlotsHeld (s : State) : Prop where
  slot0 : ∀ c, s.sequencer.slot0 = some c → (s.chan c).state = .starting
  slot1 : ∀ c, s.sequencer.slot1 = some c → (s.chan c).state = .starting
  distinct : ∀ c, s.sequencer.slot0 = some c → s.sequencer.slot1 ≠ some c
  waiting : ∀ c, c ∈ s.sequencer.queue ↔ (s.chan c).state = .slotwait
  once : s.sequencer.queue.Nodup
  order : s.sequencer.queue.Pairwise s.before
  configuring : s.mode = .configuring → s.sequencer.queue = []

/-- R81: a slot is free only while no channel waits. -/
def State.Handed (s : State) : Prop := s.sequencer.queue ≠ [] → s.sequencer.slot0.isSome ∧ s.sequencer.slot1.isSome

theorem State.SlotsSound.held (h : s.SlotsSound) : s.SlotsHeld :=
  ⟨h.slot0, h.slot1, h.distinct, h.waiting, h.once, h.order, h.configuring⟩

theorem State.SlotsHeld.sound (h : s.SlotsHeld) (hh : s.Handed) : s.SlotsSound :=
  ⟨h.slot0, h.slot1, h.distinct, h.waiting, h.once, h.order, hh, h.configuring⟩

/-- From `s` to `t` everything stands that the slots are read from. -/
structure State.SameSlots (s t : State) : Prop where
  sequencer : t.sequencer = s.sequencer
  mode : t.mode = .configuring → s.mode = .configuring
  chan : ∀ c, (t.chan c).state = (s.chan c).state ∧ (t.chan c).cfg = (s.chan c).cfg

theorem State.SameSlots.held (k : s.SameSlots t) (h : s.SlotsHeld) : t.SlotsHeld where
  slot0 c hc := (k.chan c).1.trans (h.slot0 c (k.sequencer ▸ hc))
  slot1 c hc := (k.chan c).1.trans (h.slot1 c (k.sequencer ▸ hc))
  distinct := k.sequencer ▸ h.distinct
  waiting c := by rw [k.sequencer, (k.chan c).1, h.waiting c]
  once := k.sequencer ▸ h.once
  order := by
    rw [k.sequencer, State.before_congr fun c => congrArg _ (k.chan c).2]
    exact h.order
  configuring hm := k.sequencer ▸ h.configuring (k.mode hm)

theorem State.SameSlots.sound (k : s.SameSlots t) (h : s.SlotsSound) : t.SlotsSound :=
  (k.held h.held).sound (by
    unfold State.Handed
    rw [k.sequencer]
    exact h.handed)

theorem State.SameSlots.of_chan (hq : t.sequencer = s.sequencer) (hm : t.mode = s.mode) (hc : ∀ c, t.chan c = s.chan c) :
    s.SameSlots t := ⟨hq, fun h => hm ▸ h, fun c => by rw [hc]; exact ⟨rfl, rfl⟩⟩

/-- A change beside the channels. -/
theorem State.Beside.sameSlots (b : s.Beside t) : s.SameSlots t :=
  ⟨b.sequencer, fun hm => b.mode.elim (fun e => e ▸ hm) (fun h => absurd hm h.2), fun c => by rw [b.chan]; exact ⟨rfl, rfl⟩⟩

theorem State.sameSlots_modChan (hs : (f (s.chan c)).state = (s.chan c).state) (hc : (f (s.chan c)).cfg = (s.chan c).cfg) :
    s.SameSlots (s.modChan c f) :=
  ⟨rfl, id, State.setChan_chan_cases (P := fun r q => q.state = r.state ∧ q.cfg = r.cfg) (fun _ => ⟨rfl, rfl⟩) ⟨hs, hc⟩⟩

/-- A kept record keeps its static fields. -/
theorem ChannelRecord.Keeps.cfg_eq (h : r.Keeps q) : q.cfg = r.cfg := by
  have hstart : ∀ (v : Nat) (r : ChannelRecord), (r.startSample v).cfg = r.cfg := fun v r => by
    unfold ChannelRecord.startSample
    split <;> rfl
  have hshort : ∀ (v : Nat) (r : ChannelRecord), (r.shortSample v).cfg = r.cfg := fun v r => by
    unfold ChannelRecord.shortSample
    split
    · split <;> rfl
    · rfl
  cases h with
  | startSample v => exact hstart v r
  | shortSample v => exact hshort v r
  | period =>
    unfold ChannelRecord.periodStart
    split <;> rfl
  | phase p =>
    unfold ChannelRecord.changePhase
    split <;> rfl
  | pass =>
    show r.missedSample.cfg = r.cfg
    unfold ChannelRecord.missedSample
    split
    · rfl
    · rw [hshort, hstart]
      rfl
  | _ => rfl

/-- A record kept, at one channel. -/
theorem State.sameSlots_keeps (h : (s.chan c).Keeps (f (s.chan c))) : s.SameSlots (s.modChan c f) :=
  State.sameSlots_modChan h.state_eq h.cfg_eq

/-! ### Entries (R79, R82) -/

/-- A slot that a channel holds after an entry it held before, and the entered channel only in STARTING. -/
theorem State.enter_slot {x : StartSequencer → Option Channel} (hx : x = StartSequencer.slot0 ∨ x = StartSequencer.slot1)
    (h : x (s.enter c f).sequencer = some d) :
    x s.sequencer = some d ∧ (d = c → (f (s.chan c)).state = .starting) := by
  rw [State.enter_sequencer] at h
  unfold State.dropClaims at h
  rcases hx with rfl | rfl
  all_goals
    simp only [State.modChan_chan_self, State.modChan_sequencer] at h
    split at h
    · cases h
    · next hn =>
      refine ⟨h, ?_⟩
      rintro rfl
      simpa [h] using hn

/-- The slot queue after an entry: the entered channel stays only in SLOTWAIT. -/
theorem State.mem_enter_queue : d ∈ (s.enter c f).sequencer.queue
    ↔ d ∈ s.sequencer.queue ∧ (d = c → (f (s.chan c)).state = .slotwait) := by
  refine ⟨State.enter_queue, fun ⟨h, hc⟩ => ?_⟩
  rw [State.enter_sequencer]
  unfold State.dropClaims
  simp only [State.modChan_chan_self, State.modChan_sequencer]
  split
  · next hn =>
    refine List.mem_filter.2 ⟨h, ?_⟩
    rw [bne_iff_ne]
    rintro rfl
    simp [hc rfl] at hn
  · exact h

theorem State.enter_queue_sublist (c : Channel) (f : ChannelRecord → ChannelRecord) (s : State) :
    (s.enter c f).sequencer.queue.Sublist s.sequencer.queue := by
  rw [State.enter_sequencer]
  unfold State.dropClaims
  dsimp only
  split
  · exact List.filter_sublist
  · exact List.Sublist.refl _

theorem State.enter_before (hc : (f (s.chan c)).cfg = (s.chan c).cfg) : (s.enter c f).before = s.before :=
  State.before_congr (State.enter_chan_cases (P := fun r q => q.cfg.tier = r.cfg.tier) (fun _ => rfl) (congrArg _ hc))

/-- The slots of all channels but `c`, which is about to enter a state. -/
structure State.SlotsHeldBut (c : Channel) (s : State) : Prop where
  slot0 : ∀ d, d ≠ c → s.sequencer.slot0 = some d → (s.chan d).state = .starting
  slot1 : ∀ d, d ≠ c → s.sequencer.slot1 = some d → (s.chan d).state = .starting
  distinct : ∀ d, s.sequencer.slot0 = some d → s.sequencer.slot1 ≠ some d
  waiting : ∀ d, d ≠ c → (d ∈ s.sequencer.queue ↔ (s.chan d).state = .slotwait)
  once : s.sequencer.queue.Nodup
  order : s.sequencer.queue.Pairwise s.before
  configuring : s.mode = .configuring → s.sequencer.queue = []

theorem State.SlotsHeld.but (h : s.SlotsHeld) (c : Channel) : s.SlotsHeldBut c :=
  ⟨fun d _ => h.slot0 d, fun d _ => h.slot1 d, h.distinct, fun d _ => h.waiting d, h.once, h.order, h.configuring⟩

theorem State.SlotsHeldBut.held (h : s.SlotsHeldBut c) (h0 : s.sequencer.slot0 = some c → (s.chan c).state = .starting)
    (h1 : s.sequencer.slot1 = some c → (s.chan c).state = .starting)
    (hw : c ∈ s.sequencer.queue ↔ (s.chan c).state = .slotwait) : s.SlotsHeld where
  slot0 d hd := if e : d = c then e ▸ h0 (e ▸ hd) else h.slot0 d e hd
  slot1 d hd := if e : d = c then e ▸ h1 (e ▸ hd) else h.slot1 d e hd
  distinct := h.distinct
  waiting d := if e : d = c then e ▸ hw else h.waiting d e
  once := h.once
  order := h.order
  configuring := h.configuring

/-- An entry of a channel leaves the slots of the others. -/
theorem State.SlotsHeldBut.enterBut (h : s.SlotsHeldBut c) (hc : (f (s.chan c)).cfg = (s.chan c).cfg) :
    (s.enter c f).SlotsHeldBut c where
  slot0 d e hq := by
    rw [State.enter_chan_ne e]
    exact h.slot0 d e (State.enter_slot (.inl rfl) hq).1
  slot1 d e hq := by
    rw [State.enter_chan_ne e]
    exact h.slot1 d e (State.enter_slot (.inr rfl) hq).1
  distinct d hq hq' := h.distinct d (State.enter_slot (.inl rfl) hq).1 (State.enter_slot (.inr rfl) hq').1
  waiting d e := by
    rw [State.mem_enter_queue, State.enter_chan_ne e, ← h.waiting d e]
    exact ⟨And.left, fun hm => ⟨hm, fun x => absurd x e⟩⟩
  once := h.once.sublist (State.enter_queue_sublist c f s)
  order := by
    rw [State.enter_before hc]
    exact h.order.sublist (State.enter_queue_sublist c f s)
  configuring hx := List.eq_nil_of_subset_nil
    (h.configuring (State.enter_mode c f s ▸ hx) ▸ (State.enter_queue_sublist c f s).subset)

/-- R79, R82: a channel that is not to wait for a slot enters a state. -/
theorem State.SlotsHeldBut.enter (h : s.SlotsHeldBut c) (hs : (f (s.chan c)).state ≠ .slotwait)
    (hc : (f (s.chan c)).cfg = (s.chan c).cfg) : (s.enter c f).SlotsHeld := by
  refine (h.enterBut hc).held (fun hq => ?_) (fun hq => ?_) ⟨fun hm => ?_, fun e => ?_⟩
  · rw [State.enter_chan_self]
    exact (State.enter_slot (.inl rfl) hq).2 rfl
  · rw [State.enter_chan_self]
    exact (State.enter_slot (.inr rfl) hq).2 rfl
  · exact absurd ((State.mem_enter_queue.1 hm).2 rfl) hs
  · rw [State.enter_chan_self] at e
    exact absurd e hs

/-! ### What an operation keeps -/

/-- From `s` to `t` the slots stay held as they are while an event runs. -/
def State.KeepsSlots (s t : State) : Prop := s.SlotsHeld → t.SlotsHeld

theorem State.KeepsSlots.refl (s : State) : s.KeepsSlots s := id

theorem State.KeepsSlots.trans (h : s.KeepsSlots t) (k : t.KeepsSlots u) : s.KeepsSlots u := fun hs => k (h hs)

theorem State.SameSlots.keeps (k : s.SameSlots t) : s.KeepsSlots t := k.held

theorem State.KeepsSlots.foldl {α : Type} {g : State → α → State} (h : ∀ (s : State) a, s.KeepsSlots (g s a)) (l : List α) :
    ∀ s : State, s.KeepsSlots (l.foldl g s) := by
  induction l with
  | nil => exact State.KeepsSlots.refl
  | cons a l ih => exact fun s => (h s a).trans (ih _)

/-- A change of nothing that the slots are read from. -/
theorem State.slots_quiet (hq : t.sequencer = s.sequencer := by rfl) (hm : t.mode = s.mode := by rfl)
    (hc : t.channels = s.channels := by rfl) : s.KeepsSlots t :=
  (State.SameSlots.of_chan hq hm fun c => by rw [State.chan, hc, State.chan]).keeps

theorem State.slots_modChan (hs : (f (s.chan c)).state = (s.chan c).state := by rfl)
    (hc : (f (s.chan c)).cfg = (s.chan c).cfg := by rfl) : s.KeepsSlots (s.modChan c f) :=
  (State.sameSlots_modChan hs hc).keeps

theorem State.slots_enter (hs : (f (s.chan c)).state ≠ .slotwait := by exact ChannelState.noConfusion)
    (hc : (f (s.chan c)).cfg = (s.chan c).cfg := by rfl) : s.KeepsSlots (s.enter c f) := fun h => (h.but c).enter hs hc

theorem State.sameSlots_send (x : TxFrame) (s : State) : s.SameSlots (s.send x) :=
  .of_chan (State.send_sequencer x s) (State.send_mode x s) (State.send_chan x s)

theorem State.sameSlots_requestStatus (c : Channel) (s : State) : s.SameSlots (s.requestStatus c) :=
  .of_chan (State.requestStatus_sequencer c s) (State.requestStatus_mode c s) fun d => State.requestStatus_chan c d s

/-! ### Faults and starts (R115, R119 to R122) -/

theorem ChannelRecord.retryStop_cfg (k : FaultKind) (r : ChannelRecord) : (r.retryStop k).cfg = r.cfg := by
  unfold ChannelRecord.retryStop
  dsimp only
  split <;> rfl

theorem ChannelRecord.retryStop_state (k : FaultKind) (r : ChannelRecord) :
    (r.retryStop k).state = if r.cfg.retryLimit < r.retryCount + 1 then .latched else .cooldown := by
  unfold ChannelRecord.retryStop
  dsimp only
  split <;> rfl

theorem State.slots_takeFault (c : Channel) (k : FaultKind) (s : State) : s.KeepsSlots (s.takeFault c k) := by
  have hrecord : s.KeepsSlots ((s.modChan c (·.recordFault k)).requestStatus c) :=
    (State.slots_modChan (c := c)).trans (State.sameSlots_requestStatus c _).keeps
  unfold State.takeFault
  dsimp only
  split
  · exact hrecord
  · split
    · cases (s.chan c).cfg.actionFor k with
      | latch => exact (State.slots_enter (c := c)).trans (State.sameSlots_requestStatus c _).keeps
      | retry =>
        refine (State.slots_enter ?_ (ChannelRecord.retryStop_cfg k _)).trans (State.sameSlots_requestStatus c _).keeps
        rw [ChannelRecord.retryStop_state]
        split <;> exact ChannelState.noConfusion
      | report => exact hrecord
      | ignore => exact .refl s
    · exact .refl s

/-- R115: a hot switch takes THERMAL at an entry. -/
theorem State.slots_startChannel (c : Channel) (s : State) : s.KeepsSlots (s.startChannel c) := by
  unfold State.startChannel
  dsimp only
  split
  · exact (State.slots_enter (c := c)).trans (State.slots_takeFault c _ _)
  · exact State.slots_enter

theorem State.takeFault_queue_sublist (c : Channel) (k : FaultKind) (s : State) :
    (s.takeFault c k).sequencer.queue.Sublist s.sequencer.queue := by
  unfold State.takeFault
  dsimp only
  split
  · rw [State.requestStatus_sequencer]
    exact List.Sublist.refl _
  · split
    · cases (s.chan c).cfg.actionFor k with
      | latch | retry =>
        rw [State.requestStatus_sequencer]
        exact State.enter_queue_sublist c _ s
      | report =>
        rw [State.requestStatus_sequencer]
        exact List.Sublist.refl _
      | ignore => exact List.Sublist.refl _
    · exact List.Sublist.refl _

theorem State.startChannel_queue_sublist (c : Channel) (s : State) :
    (s.startChannel c).sequencer.queue.Sublist s.sequencer.queue := by
  unfold State.startChannel
  dsimp only
  split
  · exact (State.takeFault_queue_sublist c _ _).trans (State.enter_queue_sublist c _ s)
  · exact State.enter_queue_sublist c _ s

/-! ### Slots handed on (R80, R81) -/

/-- R80: which slot is taken. -/
theorem StartSequencer.take_cases {q q' : StartSequencer} (h : q.take c = some q') :
    (q.slot0 = none ∧ q' = { q with slot0 := some c })
      ∨ (q.slot0.isSome ∧ q.slot1 = none ∧ q' = { q with slot1 := some c }) := by
  unfold StartSequencer.take at h
  split at h
  · next h0 => exact .inl ⟨by simpa using h0, (Option.some.inj h).symm⟩
  · next h0 =>
    split at h
    · next h1 => exact .inr ⟨by simpa [Option.isSome_iff_ne_none] using h0, by simpa using h1, (Option.some.inj h).symm⟩
    · cases h

theorem StartSequencer.take_eq_none {q : StartSequencer} (h : q.take c = none) : q.slot0.isSome ∧ q.slot1.isSome := by
  unfold StartSequencer.take at h
  split at h
  · cases h
  · next h0 =>
    split at h
    · cases h
    · next h1 => exact ⟨by simpa [Option.isSome_iff_ne_none] using h0, by simpa [Option.isSome_iff_ne_none] using h1⟩

/-- R81: the first channel of the slot queue takes a slot and enters STARTING. -/
theorem State.SlotsHeld.handOver (h : s.SlotsHeld) {rest : List Channel} {q : StartSequencer}
    (hq : s.sequencer.queue = c :: rest) (ht : { s.sequencer with queue := rest }.take c = some q) :
    (({ s with sequencer := q } : State).enter c (·.toStarting)).SlotsHeld := by
  have hwait : (s.chan c).state = .slotwait := (h.waiting c).1 (by rw [hq]; exact List.mem_cons_self)
  have hfree : ∀ x, x = s.sequencer.slot0 ∨ x = s.sequencer.slot1 → x ≠ some c := by
    intro x hx e
    have hstart : (s.chan c).state = .starting := by
      rcases hx with rfl | rfl
      · exact h.slot0 c e
      · exact h.slot1 c e
    rw [hwait] at hstart
    cases hstart
  have hrest : q.queue = rest := StartSequencer.take_queue ht
  have hn := h.once
  have ho := h.order
  rw [hq] at hn ho
  obtain ⟨hc, hn⟩ := List.nodup_cons.1 hn
  have hw : ∀ d, d ≠ c → (d ∈ rest ↔ (s.chan d).state = .slotwait) := fun d e => by
    rw [← h.waiting d, hq]
    simp [e]
  have hm : s.mode = .configuring → rest = [] := fun hm => by simp [h.configuring hm] at hq
  have hbut : ({ s with sequencer := q } : State).SlotsHeldBut c := by
    have hslots : (∀ d, d ≠ c → q.slot0 = some d → (s.chan d).state = .starting)
        ∧ (∀ d, d ≠ c → q.slot1 = some d → (s.chan d).state = .starting) ∧ ∀ d, q.slot0 = some d → q.slot1 ≠ some d := by
      rcases StartSequencer.take_cases ht with ⟨-, rfl⟩ | ⟨-, -, rfl⟩
      · refine ⟨fun d e hd => absurd (Option.some.inj hd).symm e, fun d _ => h.slot1 d, fun d hd => ?_⟩
        rw [← Option.some.inj hd]
        exact hfree _ (.inr rfl)
      · refine ⟨fun d _ => h.slot0 d, fun d e hd => absurd (Option.some.inj hd).symm e, fun d hd hd' => ?_⟩
        rw [← Option.some.inj hd'] at hd
        exact hfree _ (.inl rfl) hd
    obtain ⟨h0, h1, hd⟩ := hslots
    subst hrest
    exact ⟨h0, h1, hd, hw, hn, List.Pairwise.of_cons ho, hm⟩
  exact hbut.enter ChannelState.noConfusion rfl

/-- R81: slots handed on stay held, and with as many rounds as channels wait none is free while one waits. -/
theorem handSlotsFor_sound (n : Nat) : ∀ s : State, s.SlotsHeld → s.sequencer.queue.length ≤ n →
    (handSlotsFor n s).SlotsSound := by
  induction n with
  | zero => exact fun s h hl => h.sound fun hne => absurd (List.length_eq_zero_iff.1 (Nat.le_zero.1 hl)) hne
  | succ n ih =>
    intro s h hl
    unfold handSlotsFor
    split
    · next hq => exact h.sound fun hne => absurd hq hne
    · next c rest hq =>
      split
      · next ht => exact h.sound fun _ => StartSequencer.take_eq_none (q := { s.sequencer with queue := rest }) ht
      · next q ht =>
        have hstart : (({ s with sequencer := q } : State).startChannel c).SlotsHeld := by
          unfold State.startChannel
          dsimp only
          split
          · exact State.slots_takeFault c _ _ (h.handOver hq ht)
          · exact h.handOver hq ht
        refine ih _ hstart ((State.startChannel_queue_sublist c _).length_le.trans ?_)
        rw [hq, List.length_cons] at hl
        rw [show (({ s with sequencer := q } : State).sequencer.queue) = rest from StartSequencer.take_queue ht]
        omega

/-- R81: the slot queue holds at most the twenty channels, so no slot stays free while one of them waits. -/
theorem State.SlotsHeld.handSlots (h : s.SlotsHeld) : s.handSlots.SlotsSound :=
  handSlotsFor_sound 20 s h (by simpa using h.once.length_le_card)

theorem State.slots_handSlots (s : State) : s.KeepsSlots s.handSlots := fun h => h.handSlots.held

/-- R97: a slot freed. -/
def State.freed (c : Channel) (s : State) : State :=
  { s with
    sequencer := { s.sequencer with
      slot0 := if s.sequencer.slot0 = some c then none else s.sequencer.slot0
      slot1 := if s.sequencer.slot1 = some c then none else s.sequencer.slot1 } }

theorem State.freeSlot_eq (c : Channel) (s : State) : s.freeSlot c = (s.freed c).handSlots := rfl

/-- A slot that stays taken stood so before, with another channel. -/
theorem freed_slot {x : Option Channel} (h : (if x = some c then none else x) = some d) : x = some d ∧ d ≠ c := by
  split at h
  · cases h
  · next hn =>
    refine ⟨h, ?_⟩
    rintro rfl
    exact hn h

theorem State.slots_freed (c : Channel) (s : State) : s.KeepsSlots (s.freed c) := fun h =>
  ⟨fun d hd => h.slot0 d (freed_slot hd).1, fun d hd => h.slot1 d (freed_slot hd).1,
    fun d h0 h1 => h.distinct d (freed_slot h0).1 (freed_slot h1).1, h.waiting, h.once, h.order, h.configuring⟩

theorem State.slots_freeSlot (c : Channel) (s : State) : s.KeepsSlots (s.freeSlot c) :=
  (State.slots_freed c s).trans (State.slots_handSlots _)

theorem State.slots_handFault (c : Channel) (k : FaultKind) (s : State) : s.KeepsSlots (s.handFault c k) := by
  unfold State.handFault
  split
  · exact (State.slots_freeSlot c s).trans (State.slots_takeFault c k _)
  · exact State.slots_takeFault c k s

/-! ### Admission (R66, R79, R80) -/

theorem State.before_of_not (h : ¬((s.chan c).cfg.tier < (s.chan d).cfg.tier
    ∨ ((s.chan c).cfg.tier = (s.chan d).cfg.tier ∧ c < d))) (hne : c ≠ d) : s.before d c := by
  rw [not_or, not_and] at h
  obtain ⟨hlt, heq⟩ := h
  rcases lt_or_eq_of_le (not_lt.1 hlt) with e | e
  · exact .inl e
  · exact .inr ⟨e, lt_of_le_of_ne (not_lt.1 (heq e.symm)) (Ne.symm hne)⟩

theorem State.before_trans {x y z : Channel} (h : s.before x y) (k : s.before y z) : s.before x z := by
  rcases h with h | ⟨h, hlt⟩ <;> rcases k with k | ⟨k, klt⟩
  · exact .inl (h.trans k)
  · exact .inl (k ▸ h)
  · exact .inl (h ▸ k)
  · exact .inr ⟨h.trans k, hlt.trans klt⟩

/-- R79: a channel takes its place in the order of the slot queue. -/
theorem insertByTier_sorted {l : List Channel} (hc : c ∉ l) (h : l.Pairwise s.before) :
    (insertByTier s c l).Pairwise s.before := by
  induction l with
  | nil => exact List.pairwise_singleton _ _
  | cons d l ih =>
    obtain ⟨hd, hl⟩ := List.pairwise_cons.1 h
    rw [List.mem_cons, not_or] at hc
    unfold insertByTier
    dsimp only
    split
    · next hb =>
      have hb : s.before c d := by simpa [State.before] using hb
      refine List.pairwise_cons.2 ⟨fun x hx => ?_, h⟩
      rcases List.mem_cons.1 hx with rfl | hx
      · exact hb
      · exact State.before_trans hb (hd x hx)
    · next hb =>
      refine List.pairwise_cons.2 ⟨fun x hx => ?_, ih hc.2 hl⟩
      rcases mem_insertByTier.1 hx with rfl | hx
      · exact State.before_of_not (by simpa using hb) hc.1
      · exact hd x hx

theorem insertByTier_nodup {l : List Channel} (hc : c ∉ l) (h : l.Nodup) : (insertByTier s c l).Nodup := by
  induction l with
  | nil => exact List.nodup_singleton c
  | cons d l ih =>
    obtain ⟨hd, hl⟩ := List.nodup_cons.1 h
    have hne := hc
    rw [List.mem_cons, not_or] at hne
    unfold insertByTier
    dsimp only
    split
    · exact List.nodup_cons.2 ⟨hc, h⟩
    · refine List.nodup_cons.2 ⟨fun hm => ?_, ih hne.2 hl⟩
      rcases mem_insertByTier.1 hm with e | hm
      · exact hne.1 e.symm
      · exact hd hm

/-- R66, R79: an admitted channel joins the slot queue at its place. -/
theorem State.SlotsHeld.join (h : s.SlotsHeld) (hs : (s.chan c).state ≠ .slotwait) (hm : s.mode ≠ .configuring) :
    let v := s.enter c (·.toSlotwait)
    State.SlotsHeld { v with sequencer := { v.sequencer with queue := insertByTier v c v.sequencer.queue } } := by
  have hbut : (s.enter c (·.toSlotwait)).SlotsHeldBut c := (h.but c).enterBut rfl
  have hc : c ∉ (s.enter c (·.toSlotwait)).sequencer.queue := fun hc =>
    hs ((h.waiting c).1 (State.mem_enter_queue.1 hc).1)
  have hchan : (s.enter c (·.toSlotwait)).chan c = (s.chan c).toSlotwait := State.enter_chan_self c _ s
  have hmode : (s.enter c (·.toSlotwait)).mode ≠ .configuring := (State.enter_mode c _ s).trans_ne hm
  have hslot : ∀ {x : StartSequencer → Option Channel}, x = StartSequencer.slot0 ∨ x = StartSequencer.slot1 →
      x (s.enter c (·.toSlotwait)).sequencer ≠ some c := fun hx hd => ChannelState.noConfusion ((State.enter_slot hx hd).2 rfl)
  have h0 := hslot (.inl rfl)
  have h1 := hslot (.inr rfl)
  generalize s.enter c (·.toSlotwait) = v at hbut hc hchan hmode h0 h1
  refine State.SlotsHeldBut.held (c := c) ⟨hbut.slot0, hbut.slot1, hbut.distinct, fun d e => ?_,
    insertByTier_nodup hc hbut.once, insertByTier_sorted hc hbut.order, fun e => absurd e hmode⟩
    (fun e => absurd e h0) (fun e => absurd e h1) ⟨fun _ => congrArg ChannelRecord.state hchan, fun _ => mem_insertByTier.2 (.inl rfl)⟩
  refine (mem_insertByTier.trans ?_).trans (hbut.waiting d e)
  simp [e]

/-- R66, R115: an admission outside CONFIGURING; over a hot switch the channel leaves SLOTWAIT before it joins. -/
theorem State.slots_grantAdmission (hs : (s.chan c).state ≠ .slotwait) (hm : s.mode ≠ .configuring) :
    s.KeepsSlots (s.grantAdmission c) := by
  intro h
  unfold State.grantAdmission
  dsimp only
  split
  · have hbut : (s.enter c (·.toSlotwait)).SlotsHeldBut c := (h.but c).enterBut rfl
    rw [State.takeFault_slotwait (by rw [State.enter_chan_self]; rfl)]
    refine (State.sameSlots_requestStatus c _).held (hbut.enter ?_ (ChannelRecord.retryStop_cfg _ _))
    rw [ChannelRecord.retryStop_state]
    split <;> exact ChannelState.noConfusion
  · exact (h.join hs hm).handSlots.held

end Sys2Proof.Machine
end

-- ==== Proofs: slots2 ====
section
/-! SUPPORT. The operations that the families share keep the slots held (R79 to R82). -/

/-! As in the model's tests, elaboration is synchronous: the many small proofs otherwise start more threads than the memory
limit of the check allows. -/

set_option Elab.async false

namespace Sys2Proof.Machine

variable {s t u : State} {c d : Channel} {f : ChannelRecord → ChannelRecord}

/-! ### Requests (R5, R10 to R22) -/

theorem State.slots_announce (c : Channel) (s : State) : s.KeepsSlots (s.announce c) := by
  have h1 : s.KeepsSlots (s.enter c (·.idle .pending)) := State.slots_enter
  unfold State.announce
  dsimp only
  split
  · next ho =>
    obtain ⟨_, q, _, rfl⟩ := State.offer_eq_some ho
    exact h1.trans State.slots_quiet
  · exact h1.trans State.slots_enter

theorem State.sameSlots_undoAnnouncement (c : Channel) (s : State) : s.SameSlots (s.undoAnnouncement c) :=
  .of_chan (State.undoAnnouncement_sequencer c s) (State.acts_undoAnnouncement c s).mode
    fun d => State.undoAnnouncement_chan c d s

theorem State.slots_beginRequest (c : Channel) (s : State) : s.KeepsSlots (s.beginRequest c) := by
  unfold State.beginRequest
  split
  · exact .refl s
  · split
    · exact State.slots_startChannel c s
    · exact .refl s
  · split
    · exact State.slots_startChannel c s
    · exact State.slots_announce c s
  all_goals
    split
    · exact State.slots_startChannel c s
    · exact State.slots_enter

theorem State.slots_requestFall (c : Channel) (s : State) : s.KeepsSlots (s.requestFall c) := by
  have hoff : ∀ u : State, u.KeepsSlots (u.enter c (·.idle .off)) := fun u => State.slots_enter
  unfold State.requestFall
  split
  · exact (State.sameSlots_undoAnnouncement c s).keeps.trans (hoff _)
  · exact (State.slots_freeSlot c s).trans (hoff _)
  iterate 5 exact hoff s
  all_goals exact .refl s

theorem State.slots_applyRequest (c : Channel) (s : State) : s.KeepsSlots (s.applyRequest c) := by
  have h1 : ∀ v, s.KeepsSlots (s.modChan c (·.withRequest v)) := fun v => State.slots_modChan
  unfold State.applyRequest State.requestRise
  dsimp only
  split
  · exact .refl s
  · split
    · split
      · exact (h1 _).trans (State.slots_beginRequest c _)
      · exact h1 _
    · split
      · exact (h1 _).trans (State.slots_requestFall c _)
      · exact h1 _

theorem State.slots_setRaw (c : Channel) (v : Byte) (s : State) : s.KeepsSlots (s.setRaw c v) := by
  unfold State.setRaw
  split
  · exact .refl s
  · exact (State.slots_modChan (c := c)).trans (State.slots_applyRequest c _)

theorem State.slots_freshStart (c : Channel) (s : State) : s.KeepsSlots (s.freshStart c) := by
  have hoff : s.KeepsSlots (s.enter c (·.idle .off)) := State.slots_enter
  unfold State.freshStart
  dsimp only
  split
  · exact hoff
  · exact hoff.trans (State.slots_beginRequest c _)

theorem State.slots_release (c : Channel) (s : State) : s.KeepsSlots (s.release c) := by
  unfold State.release
  split
  · exact State.slots_enter
  · exact State.slots_freshStart c s

theorem State.slots_tryCooldownExit (c : Channel) (s : State) : s.KeepsSlots (s.tryCooldownExit c) := by
  unfold State.tryCooldownExit
  split
  · exact State.slots_release c s
  · exact .refl s

/-! ### Bindings and echoes (R34 to R38): a re-evaluation hands its freed slot on -/

theorem State.SlotsHeld.reevaluate (h : s.SlotsHeld) (c : Channel) : (s.reevaluate c).SlotsSound := by
  have hset : ∀ bs, s.SameSlots (s.setBindings bs) := fun _ => .of_chan rfl rfl fun _ => rfl
  exact (State.slots_setRaw c _ _ ((hset _).held h)).handSlots

theorem State.slots_reevaluate (c : Channel) (s : State) : s.KeepsSlots (s.reevaluate c) := fun h => (h.reevaluate c).held

theorem State.SlotsSound.reevaluateAll (l : List Channel) : ∀ s : State, s.SlotsSound →
    (l.foldl (fun s c => s.reevaluate c) s).SlotsSound := by
  induction l with
  | nil => exact fun s h => h
  | cons c l ih => exact fun s h => ih _ (h.held.reevaluate c)

theorem State.sameSlots_notice (c : Channel) (s : State) : s.SameSlots (s.notice c) :=
  State.sameSlots_keeps (ChannelRecord.keeps_reloadAutoOff _)

theorem State.SameSlots.trans (h : s.SameSlots t) (k : t.SameSlots u) : s.SameSlots u :=
  ⟨k.sequencer.trans h.sequencer, fun hm => h.mode (k.mode hm),
    fun c => ⟨(k.chan c).1.trans (h.chan c).1, (k.chan c).2.trans (h.chan c).2⟩⟩

theorem State.SameSlots.foldl {α : Type} {g : State → α → State} (h : ∀ (s : State) a, s.SameSlots (g s a)) (l : List α) :
    ∀ s : State, s.SameSlots (l.foldl g s) := by
  induction l with
  | nil => exact fun s => .of_chan rfl rfl fun _ => rfl
  | cons a l ih => exact fun s => (h s a).trans (ih _)

theorem State.sameSlots_notices (l : List Channel) (s : State) : s.SameSlots (l.foldl (fun s c => s.notice c) s) :=
  State.SameSlots.foldl (fun s c => State.sameSlots_notice c s) l s

theorem State.SlotsSound.sourceChanged (h : s.SlotsSound) (n : Byte) : (s.sourceChanged n).SlotsSound :=
  State.SlotsSound.reevaluateAll _ _ ((State.sameSlots_notices _ s).sound h)

theorem State.slots_sourceChanged (n : Byte) (s : State) : s.KeepsSlots (s.sourceChanged n) :=
  (State.sameSlots_notices _ s).keeps.trans (State.KeepsSlots.foldl (fun s c => State.slots_reevaluate c s) _ _)

theorem State.sameSlots_echoed (s : State) : s.SameSlots s.echoed :=
  ⟨rfl, id, fun c => by rw [State.echoed_chan]; exact ⟨rfl, rfl⟩⟩

theorem settleFor_slots (n : Nat) : ∀ s : State, s.SlotsSound → (settleFor n s).SlotsSound := by
  induction n with
  | zero => exact fun s h => s.sameSlots_echoed.sound h
  | succ n ih =>
    intro s h
    unfold settleFor
    split
    · exact s.sameSlots_echoed.sound h
    · next c v rest _ =>
      have hrest : s.SameSlots { s with echoes := rest } := .of_chan rfl rfl fun _ => rfl
      refine ih _ (State.SlotsSound.sourceChanged ?_ _)
      exact (State.sameSlots_modChan rfl rfl).sound (hrest.sound h)

/-- R38, R81: what follows an event hands every free slot on. -/
theorem State.SlotsHeld.settle (h : s.SlotsHeld) : s.settle.SlotsSound := settleFor_slots _ _ h.handSlots

/-- An event whose work keeps the slots held ends with sound slots. -/
theorem State.KeepsSlots.settle (k : s.KeepsSlots t) (h : s.SlotsSound) : t.settle.SlotsSound := (k h.held).settle

theorem State.slots_limpFollow (i : WiredInput) (s : State) : s.KeepsSlots (s.limpFollow i) := by
  unfold State.limpFollow
  split
  · exact State.slots_setRaw _ _ s
  · exact .refl s

theorem State.slots_activityEdge (i : WiredInput) (s : State) : s.KeepsSlots (s.activityEdge i) := by
  refine State.KeepsSlots.foldl (fun s c => ?_) _ s
  split
  · exact (State.sameSlots_notice c s).keeps
  · exact .refl s

/-! ### Inhibition and recovery (R135, R136, R142, R143) -/

theorem State.slots_inhibit (c : Channel) (k : Causes → Causes) (s : State) : s.KeepsSlots (s.inhibit c k) := by
  unfold State.inhibit
  split
  · exact .refl s
  · exact .refl s
  · exact State.slots_modChan
  · exact (State.sameSlots_undoAnnouncement c s).keeps.trans State.slots_enter
  all_goals exact State.slots_enter

theorem State.slots_inhibitAll (cs : List Channel) (k : Causes → Causes) (s : State) : s.KeepsSlots (s.inhibitAll cs k) := by
  refine State.KeepsSlots.foldl (fun s c => ?_) _ s
  split
  · exact State.slots_inhibit c k s
  · exact .refl s

theorem State.slots_recoverAll (sel : Channel → Bool) (k : Causes → Causes) (s : State) :
    s.KeepsSlots (s.recoverAll sel k) := by
  refine State.KeepsSlots.foldl (fun s c => ?_) _ s
  have hcause : s.KeepsSlots (s.modChan c fun r => { r with causes := k r.causes }) := State.slots_modChan
  unfold State.recover
  dsimp only
  split
  · split
    · exact hcause.trans (State.slots_freshStart c _)
    · exact hcause
  · exact .refl s

/-! ### Admission and rounds (R62 to R76) -/

theorem State.slots_decide (c : Channel) (j : Nat) (y : IntentEntry) (s : State) : s.KeepsSlots (s.decide c j y) := by
  have hgo : s.KeepsSlots (s.setEntries (s.intents.entries.eraseIdx j)) := State.slots_quiet
  unfold State.decide
  dsimp only
  split
  · exact hgo
  · next hp =>
    have hp : (s.chan c).state = .pending := by simpa using hp
    split
    · next ha =>
      have hm : s.mode = .running := by
        simp only [State.admits, Bool.and_eq_true, beq_iff_eq] at ha
        exact ha.1.1.1.1
      refine hgo.trans (State.slots_grantAdmission (fun e => ?_) fun e => ?_)
      · exact ChannelState.noConfusion (hp.symm.trans e)
      · exact PartMode.noConfusion (hm.symm.trans e)
    · exact (hgo.trans State.slots_enter).trans (State.sameSlots_send _ _).keeps

theorem State.slots_foldl_pair {g : State × Nat → Channel → State × Nat}
    (h : ∀ (p : State × Nat) c, p.1.KeepsSlots (g p c).1) (l : List Channel) :
    ∀ p : State × Nat, p.1.KeepsSlots (l.foldl g p).1 := by
  induction l with
  | nil => exact fun p => .refl p.1
  | cons c l ih => exact fun p => (h p c).trans (ih _)

theorem State.slots_throttle (c : Channel) (s : State) : s.KeepsSlots (s.throttle c) := by
  unfold State.throttle
  split
  · exact State.slots_enter
  · exact State.slots_modChan

theorem State.slots_shed (c : Channel) (s : State) : s.KeepsSlots (s.shed c) := State.slots_enter

theorem State.slots_judgeOverbooked (s : State) : s.KeepsSlots s.judgeOverbooked := by
  unfold State.judgeOverbooked
  dsimp only
  split <;> exact State.slots_quiet

theorem State.slots_shedStage (s : State) : s.KeepsSlots s.shedStage := by
  have hone : ∀ (p : Prop) [Decidable p] (s : State) (c : Channel), s.KeepsSlots (if p then s.shed c else s) := by
    intro p _ s c
    split
    · exact State.slots_shed c s
    · exact .refl s
  have habove : ∀ (k : Tier) (s : State), s.KeepsSlots (s.shedAbove k) := fun k =>
    State.KeepsSlots.foldl (fun s c => hone _ s c) _
  have hthrottle : ∀ (k : Tier) (n : Nat) (s : State), s.KeepsSlots (s.throttleStep k n).1 := fun k n s => by
    refine State.slots_foldl_pair (fun p c => ?_) _ (s, 0)
    dsimp only
    split
    · exact State.slots_throttle c p.1
    · exact .refl p.1
  have hoff : ∀ (k : Tier) (n : Nat) (p : State × Nat), p.1.KeepsSlots (State.offStep k n p).1 := fun k n p => by
    refine State.slots_foldl_pair (fun p c => ?_) _ p
    dsimp only
    split
    · exact State.slots_shed c p.1
    · exact .refl p.1
  unfold State.shedStage
  split
  · exact s.slots_judgeOverbooked
  · dsimp only
    exact (((s.slots_judgeOverbooked.trans (habove _ _)).trans (hthrottle _ _ _)).trans (hoff _ _ _)).trans
      (State.slots_handSlots _)

theorem State.slots_restoreStages (b : Bool) (s : State) : s.KeepsSlots (s.restoreStages b) := by
  have hback : ∀ c, s.KeepsSlots (s.unthrottle c) := fun c => by
    unfold State.unthrottle
    split
    · exact State.slots_enter
    · exact State.slots_modChan
  unfold State.restoreStages
  dsimp only
  refine State.KeepsSlots.trans ?_ (State.KeepsSlots.foldl (fun s c => State.slots_announce c s) _ _)
  split
  · split
    · exact hback _
    · exact .refl s
  · exact .refl s

theorem State.slots_takeRound (s : State) : s.KeepsSlots s.takeRound := by
  have hreport : ∀ u : State, u.KeepsSlots u.reportStage := fun u => (State.sameSlots_send _ u).keeps
  unfold State.takeRound
  split
  · exact .refl s
  · exact s.slots_shedStage.trans (hreport _)
  · exact s.slots_shedStage.trans (hreport _)
  · exact (s.slots_shedStage.trans (State.slots_restoreStages _ _)).trans (hreport _)
  · exact s.slots_shedStage
  · exact hreport s

theorem State.slots_raise (e : PartEvent) (s : State) : s.KeepsSlots (s.raise e) := (State.beside_raise e s).sameSlots.keeps

theorem State.slots_setWorst (s : State) : s.KeepsSlots s.setWorst := by
  unfold State.setWorst
  split
  · exact State.slots_quiet
  · exact .refl s

theorem State.slots_bandNotice (s : State) : s.KeepsSlots s.bandNotice := by
  unfold State.bandNotice
  dsimp only
  split
  · exact (s.slots_setWorst.trans (State.slots_raise _ _)).trans (State.slots_takeRound _)
  · exact s.slots_setWorst

theorem State.slots_peerNotice (b : Option Band) (s : State) : s.KeepsSlots (s.peerNotice b) := by
  unfold State.peerNotice
  split
  · exact .refl s
  · exact State.slots_bandNotice s

/-! ### Starts, samples and updates (R90 to R115) -/

theorem State.slots_windowEnd (c : Channel) (x : StartRecord) (s : State) : s.KeepsSlots (s.windowEnd c x) := by
  have hclass : ∀ (k : LoadClass) (u : State), u.KeepsSlots (u.judgeClass c k) := fun k u => by
    unfold State.judgeClass
    dsimp only
    split
    · exact State.slots_handFault c _ u
    · split
      · exact State.slots_handFault c _ u
      · exact State.slots_modChan
  have hend : ∀ u : State, u.KeepsSlots (u.endStart c) := fun u => by
    unfold State.endStart
    dsimp only
    split
    · exact .refl u
    · split <;> exact State.slots_enter
  unfold State.windowEnd
  dsimp only
  split
  · exact (State.slots_freeSlot c s).trans (State.slots_handFault c _ _)
  · exact (((State.slots_freeSlot c s).trans State.slots_modChan).trans (hclass _ _)).trans (hend _)

theorem State.slots_sample (c : Channel) (i : Nat) (x : Int) (s : State) : s.KeepsSlots (s.sample c i x) := by
  have htake : ∀ v : Nat, s.KeepsSlots (s.modChan c fun r => (r.takeSample v).startSample v) := fun v =>
    State.slots_modChan (ChannelRecord.startSample_state _ v) (ChannelRecord.Keeps.startSample v).cfg_eq
  have hwait : ∀ u : State, u.KeepsSlots (u.endWaiting c) := fun u => by
    unfold State.endWaiting
    split
    · split
      · exact State.slots_windowEnd c _ u
      · exact .refl u
    · exact .refl u
  have hshort : ∀ (u : State) (v : Nat), u.KeepsSlots (u.detectShort c v) := fun u v => by
    have hsample : u.KeepsSlots (u.modChan c (·.shortSample v)) := (State.sameSlots_keeps (.shortSample v)).keeps
    unfold State.detectShort
    dsimp only
    split
    · exact hsample.trans (State.slots_handFault c _ _)
    · exact hsample
  have hread : ∀ u : State, u.KeepsSlots (u.readSwitch c x) := fun u => by
    unfold State.readSwitch
    dsimp only
    split
    · exact (State.slots_modChan (c := c)).trans (State.slots_handFault c _ _)
    · split
      · exact (State.slots_modChan (c := c)).trans (State.slots_tryCooldownExit c _)
      · exact State.slots_modChan
  exact (((htake _).trans (hwait _)).trans (hshort _ _)).trans (hread _)

theorem State.slots_updateChannel (c : Channel) (s : State) : s.KeepsSlots (s.updateChannel c) := by
  have hheat : s.KeepsSlots (s.modChan c (·.updateHeat)) := State.slots_modChan
  have hjudge : ∀ u : State, u.KeepsSlots (u.modChan c (·.judge)) := fun u =>
    (State.sameSlots_keeps (ChannelRecord.keeps_judge _)).keeps
  unfold State.updateChannel
  dsimp only
  split
  · exact ((hheat.trans (State.slots_handFault c _ _)).trans (hjudge _)).trans (State.slots_tryCooldownExit c _)
  · exact (hheat.trans (hjudge _)).trans (State.slots_tryCooldownExit c _)

/-! ### Clears (R129, R130) -/

theorem State.slots_clearChannel (c : Channel) (s : State) : s.KeepsSlots (s.clearChannel c) := by
  have hclear : s.KeepsSlots (s.modChan c (·.cleared)) := State.slots_modChan
  unfold State.clearChannel
  dsimp only
  split
  · exact .refl s
  · split
    · exact hclear.trans (State.slots_release c _)
    · split
      · exact hclear
      · exact hclear.trans (State.sameSlots_requestStatus c _).keeps

/-! ### Announcements lost (R12, R157) -/

theorem State.slots_deferPending (c : Channel) (s : State) : s.KeepsSlots (s.deferPending c) := by
  unfold State.deferPending
  split
  · exact State.slots_enter
  · exact .refl s

theorem State.slots_setQueue (q : List TxEntry) (s : State) : s.KeepsSlots (s.setQueue q) :=
  State.slots_quiet

theorem State.slots_discardIntents (s : State) : s.KeepsSlots s.discardIntents := by
  refine (State.slots_setQueue _ s).trans (State.KeepsSlots.foldl (fun s e => ?_) _ _)
  cases e.frame with
  | intent c => exact State.slots_deferPending c s
  | _ => exact .refl s

end Sys2Proof.Machine
end

-- ==== Proofs: slots3 ====
section
/-! SUPPORT. What the commands that settle do beside their settling keeps the slots held (R79 to R82). -/

/-! As in the model's tests, elaboration is synchronous: the many small proofs otherwise start more threads than the memory
limit of the check allows. -/

set_option Elab.async false

namespace Sys2Proof.Machine

variable {s t u : State} {c d : Channel} {st : Station} {take : State → State} {e : TxEntry}

/-! ### Measurements and inputs -/

theorem State.slots_changeBand (b : Band) (s : State) : s.KeepsSlots (s.changeBand b) :=
  State.KeepsSlots.trans State.slots_quiet (State.slots_bandNotice _)

theorem State.slots_periodicRound (s : State) : s.KeepsSlots s.periodicRound :=
  State.KeepsSlots.trans State.slots_quiet (State.slots_takeRound _)

theorem State.slots_feedLoss (b : Bank) (s : State) : s.KeepsSlots (s.feedLoss b) :=
  (State.slots_inhibitAll _ _ s).trans (State.slots_raise _ _)

theorem State.slots_measureFeed (b : Bank) (v : Nat) (s : State) : s.KeepsSlots (s.measureFeed b v) := by
  have hset : ∀ (u : State) f, u.KeepsSlots (u.setFeed b f) := fun u f => State.slots_quiet
  unfold State.measureFeed
  split
  · have hkind : s.KeepsSlots { s with
        loader := { s.loader with resetKind := some (decideKind s.loader.resetKind v) } } := State.slots_quiet
    dsimp only
    split
    · exact hkind.trans (hset _ _)
    · exact (hkind.trans (hset _ _)).trans (State.slots_feedLoss b _)
  · dsimp only
    split
    · exact (hset s _).trans (State.slots_feedLoss b _)
    · split
      · exact (hset s _).trans (State.slots_recoverAll _ _ _)
      · exact hset s _

theorem State.slots_measureDie (x : Int) (s : State) : s.KeepsSlots (s.measureDie x) := by
  have hhot : ∀ p : PartTemp, s.KeepsSlots (if s.feed.temp = .normal ∧ p ≠ .normal
      then State.raise .dieHot { s with feed := { s.feed with temp := p } }
      else { s with feed := { s.feed with temp := p } }) := by
    intro p
    split <;> exact State.slots_quiet
  unfold State.measureDie
  dsimp only
  split
  · exact ((hhot _).trans (State.slots_raise _ _)).trans (State.slots_inhibitAll _ _ _)
  · split
    · exact (hhot _).trans (State.slots_recoverAll _ _ _)
    · exact hhot _

theorem State.slots_debouncedChange (i : WiredInput) (s : State) : s.KeepsSlots (s.debouncedChange i) := by
  have hedge : s.KeepsSlots
      ((s.setWired i { s.wired[i] with debounced := (s.wired[i]).pin, timer := none }).activityEdge i) :=
    State.KeepsSlots.trans State.slots_quiet (State.slots_activityEdge i _)
  unfold State.debouncedChange
  dsimp only
  split
  · exact hedge.trans (State.slots_limpFollow i _)
  · exact hedge.trans (State.slots_sourceChanged _ _)

/-! ### Signals and peers (R27 to R29, R43 to R47) -/

theorem State.slots_reevaluateAll (l : List Channel) (s : State) :
    s.KeepsSlots (l.foldl (fun s c => s.reevaluate c) s) :=
  State.KeepsSlots.foldl (fun s c => State.slots_reevaluate c s) l s

theorem State.slots_ageTable (s : State) : s.KeepsSlots s.ageTable :=
  State.KeepsSlots.trans State.slots_quiet (State.slots_reevaluateAll _ _)

theorem State.slots_takeSignal (st : Station) (n v : Byte) (s : State) : s.KeepsSlots (s.takeSignal st n v) := by
  unfold State.takeSignal
  dsimp only
  refine State.KeepsSlots.trans ?_ (State.slots_reevaluateAll _ _)
  split
  · exact State.slots_quiet
  · exact State.KeepsSlots.trans State.slots_quiet (State.sameSlots_notices _ _).keeps

theorem State.slots_foreignOnset (st : Station) (n : Byte) (s : State) : s.KeepsSlots (s.foreignOnset st n) := by
  unfold State.foreignOnset
  dsimp only
  split <;> exact State.slots_quiet

theorem State.slots_takeSignals (st : Station) (l : List (Byte × Byte)) (s : State) :
    s.KeepsSlots (s.takeSignals st l) := by
  unfold State.takeSignals
  split
  · exact .refl s
  · refine State.KeepsSlots.foldl (fun s p => ?_) l s
    unfold State.signalEntry
    split
    · exact .refl s
    · split
      · exact State.slots_takeSignal st _ _ s
      · exact State.slots_foreignOnset st _ s

theorem State.slots_takeDraw (st : Station) (b : Band) (v : TierValues) (s : State) : s.KeepsSlots (s.takeDraw st b v) :=
  State.KeepsSlots.trans State.slots_quiet (State.slots_peerNotice _ _)

theorem State.slots_storeIntent (x : IntentEntry) (s : State) : s.KeepsSlots (s.storeIntent x) := by
  unfold State.storeIntent State.overflowOnset
  dsimp only
  split
  · exact State.slots_quiet
  · split <;> exact State.slots_quiet

/-! ### Frames received and sent (R156 to R162) -/

theorem State.slots_setMode {m : PartMode} (hm : m ≠ .configuring) (l : LineInterface) (s : State) :
    s.KeepsSlots { s.setMode m with line := l } :=
  State.SameSlots.keeps ⟨rfl, fun e => absurd e hm, fun _ => ⟨rfl, rfl⟩⟩

theorem State.slots_enterClashed (s : State) : s.KeepsSlots s.enterClashed := by
  have hmove : ∀ u : State,
      u.KeepsSlots ({ u.setMode .clashed with line := { u.line with listen := none } } : State).holdBack.discardIntents :=
    fun u => ((State.slots_setMode PartMode.noConfusion _ u).trans (State.slots_setQueue _ _)).trans
      (State.slots_discardIntents _)
  unfold State.enterClashed
  dsimp only
  split
  · exact State.KeepsSlots.trans State.slots_quiet (hmove s.dropHeldPeers)
  · exact hmove s

theorem State.slots_clashFrame (s : State) : s.KeepsSlots s.clashFrame := by
  have hclash : s.KeepsSlots (State.raise .clash { s with line := { s.line with clashMark := true } }) :=
    State.slots_quiet
  unfold State.clashFrame
  split
  · exact .refl s
  · dsimp only
    split
    iterate 3 exact hclash.trans (State.slots_enterClashed _)
    iterate 3 exact hclash

theorem State.slots_endIsolation (s : State) : s.KeepsSlots s.endIsolation := by
  unfold State.endIsolation
  split
  · exact (State.KeepsSlots.trans State.slots_quiet (State.slots_setMode (s := s.dropHeldPeers) PartMode.noConfusion _)).trans
      (State.slots_setQueue _ _)
  · exact .refl s

/-- R156: a received frame, whatever the block that owns it does with it. -/
theorem State.slots_receive (h : ∀ u : State, u.KeepsSlots (take u)) (s : State) : s.KeepsSlots (s.receive st take) := by
  have hheard : s.KeepsSlots s.heard := State.slots_quiet
  unfold State.receive
  split
  · exact .refl s
  · split
    · exact hheard.trans (State.slots_clashFrame _)
    · exact (hheard.trans (State.slots_endIsolation _)).trans (h _)

theorem State.slots_ownCompleted (c : Channel) (tr : Tier) (b w : Nat) (s : State) :
    s.KeepsSlots (s.ownCompleted c tr b w) := by
  have hover : s.KeepsSlots s.overflowOnset := State.slots_quiet
  unfold State.ownCompleted
  split
  · exact State.slots_quiet
  · exact (hover.trans (State.slots_deferPending c _)).trans (State.sameSlots_send _ _).keeps

theorem State.slots_endRequest (s : State) : s.KeepsSlots s.endRequest := by
  unfold State.endRequest
  split
  · exact .refl s
  · split
    · split <;> exact State.slots_quiet
    · exact .refl s

theorem State.slots_completed (f : TxFrame) (s : State) : s.KeepsSlots (s.completed f) := by
  unfold State.completed
  split
  · exact State.slots_ownCompleted _ _ _ _ s
  · exact State.slots_endRequest s
  all_goals exact .refl s

theorem State.slots_expired (f : TxFrame) (s : State) : s.KeepsSlots (s.expired f) := by
  unfold State.expired
  split
  · exact State.slots_deferPending _ s
  · exact State.slots_endRequest s
  all_goals exact .refl s

/-! ### Service requests (R167 to R170) -/

theorem State.slots_serve {b : Byte} {inLimp rejected : Bool} {run : State → State} (h : s.KeepsSlots (run s)) :
    s.KeepsSlots (s.serve st b inLimp rejected run) := by
  unfold State.serve
  split
  · exact .refl s
  · split
    · exact (State.sameSlots_send _ s).keeps
    · split
      · exact (State.sameSlots_send _ s).keeps
      · exact h

theorem State.slots_clearFaults (st : Station) (cs : List Channel) (s : State) : s.KeepsSlots (s.clearFaults st cs) :=
  (State.KeepsSlots.foldl (fun s c => State.slots_clearChannel c s) cs s).trans State.slots_quiet

theorem State.slots_clearFlags (p : BitVec 11) (m : BitVec 20) (s : State) : s.KeepsSlots (s.clearFlags p m) := by
  refine State.KeepsSlots.trans State.slots_quiet (State.KeepsSlots.foldl (fun s c => ?_) _ _)
  split
  · exact State.slots_modChan
  · exact .refl s

theorem State.slots_setOverride (c : Channel) (l d : Byte) (s : State) : s.KeepsSlots (s.setOverride c l d) :=
  (State.slots_modChan (c := c)).trans (State.slots_applyRequest c _)

/-! ### The read's end (R174 to R178) -/

/-- R41: in CONFIGURING no channel waits, so the static fields may change. -/
theorem State.SlotsHeld.installFields (h : s.SlotsHeld) (hm : s.mode = .configuring) (f : Channel → ChannelConfig) :
    (s.installFields f).SlotsHeld := by
  have hq : (s.installFields f).sequencer = s.sequencer := (State.installFields_rest f s).1
  have hs : ∀ c, ((s.installFields f).chan c).state = (s.chan c).state := fun c => by
    rw [State.installFields_chan]
    rfl
  have hempty := h.configuring hm
  generalize s.installFields f = t at hq hs
  refine ⟨fun c hc => ?_, fun c hc => ?_, by rw [hq]; exact h.distinct, fun c => ?_, by rw [hq]; exact h.once, ?_,
    fun _ => by rw [hq]; exact hempty⟩
  · rw [hs]
    exact h.slot0 c (hq ▸ hc)
  · rw [hs]
    exact h.slot1 c (hq ▸ hc)
  · rw [hq, hs]
    exact h.waiting c
  · rw [hq, hempty]
    exact List.Pairwise.nil

theorem State.slots_beginHeat (s : State) : s.KeepsSlots s.beginHeat :=
  State.SameSlots.keeps ⟨rfl, id, fun c => by rw [State.beginHeat_chan]; exact ⟨rfl, rfl⟩⟩

theorem State.slots_leaveConfiguring {m : PartMode} (hm : m ≠ .configuring) (s : State) :
    s.KeepsSlots (s.leaveConfiguring m) :=
  State.SameSlots.keeps ⟨rfl, fun e => absurd e hm, fun _ => ⟨rfl, rfl⟩⟩

theorem State.slots_enterListening (s : State) : s.KeepsSlots s.enterListening := by
  have hleave : s.KeepsSlots { s.leaveConfiguring .listening with
      line := { (s.leaveConfiguring .listening).line with listen := some Config.listenMs } } :=
    (State.slots_leaveConfiguring PartMode.noConfusion s).trans State.slots_quiet
  exact (hleave.trans (State.slots_setWorst _)).trans (State.slots_takeRound _)

theorem State.slots_takeStored (s : State) : s.KeepsSlots s.takeStored := by
  refine State.KeepsSlots.foldl (fun s c => ?_) _ s
  split
  · exact State.slots_beginRequest c s
  · exact .refl s

/-- R176: the installation, once the static fields stand. -/
theorem State.slots_install (image : List Byte) (s : State) :
    (s.installFields (channelConfig image)).KeepsSlots (s.install image) := by
  have himage : (s.installFields (channelConfig image)).KeepsSlots (s.installImage image) := by
    unfold State.installImage
    dsimp only
    generalize s.installFields (channelConfig image) = u
    split <;> exact State.slots_quiet
  have htable : (s.installImage image).KeepsSlots (s.installImage image).buildTable :=
    State.KeepsSlots.trans State.slots_quiet (State.slots_reevaluateAll _ _)
  have hset : ∀ u : State, u.KeepsSlots (u.setThresholds (headerThresholds image)) := fun u => State.slots_quiet
  have hmasks : ∀ u : State, u.KeepsSlots (u.setMasks (headerPartMask image) (headerChannelMask image)) := fun u =>
    State.slots_quiet
  have hmarked : ∀ u : State, u.KeepsSlots u.inhibitMarked := fun u =>
    State.KeepsSlots.foldl (fun s c => State.slots_inhibit c _ s) _ u
  unfold State.install
  exact ((((((himage.trans htable).trans (hset _)).trans (State.slots_beginHeat _)).trans (hmasks _)).trans
    (hmarked _)).trans (State.slots_enterListening _)).trans (State.slots_takeStored _)

/-- R178: the entry to LIMP, once the static fields stand. -/
theorem State.slots_enterLimp (s : State) : ((s.raise .limp).installFields limpConfig).KeepsSlots s.enterLimp := by
  have hfree : ∀ u : State, u.KeepsSlots u.freeUnused := fun u =>
    State.KeepsSlots.foldl (fun s c => State.slots_enter) _ u
  have hmask : ∀ u : State, u.KeepsSlots { u with service := { u.service with mask := BitVec.allOnes 16 } } := fun u =>
    State.slots_quiet
  have hset : ∀ u : State, u.KeepsSlots (u.setThresholds ⟨270, 240, 200⟩) := fun u => State.slots_quiet
  have hmasks : ∀ u : State, u.KeepsSlots (u.setMasks (BitVec.allOnes 11) (BitVec.allOnes 20)) := fun u => State.slots_quiet
  have hfollow : ∀ u : State, u.KeepsSlots u.limpRequests := fun u =>
    State.KeepsSlots.foldl (fun s i => State.slots_limpFollow i s) _ u
  unfold State.enterLimp
  exact ((((((((hfree _).trans (hmask _)).trans (hset _)).trans (State.slots_beginHeat _)).trans (hmasks _)).trans
    (State.slots_leaveConfiguring PartMode.noConfusion _)).trans (State.slots_takeRound _)).trans (hfollow _))

/-- R174: the read's end. -/
theorem State.SlotsHeld.judgeImage (h : s.SlotsHeld) (hm : s.mode = .configuring) (image : List Byte) :
    (s.judgeImage image).SlotsHeld := by
  have hsource : s.KeepsSlots { s with loader := { s.loader with source := some (imageVerdict image) } } :=
    State.slots_quiet
  unfold State.judgeImage
  dsimp only
  split
  · exact State.slots_install image _ ((hsource h).installFields hm _)
  · exact State.slots_enterLimp _ ((State.slots_raise .limp _ (hsource h)).installFields hm _)

end Sys2Proof.Machine
end

-- ==== Proofs: slots4 ====
section
/-! PROOFS. The start slots and the slot queue over a step (R79 to R82): O6. -/

/-! As in the model's tests, elaboration is synchronous: the many small proofs otherwise start more threads than the memory
limit of the check allows. -/

set_option Elab.async false

namespace Sys2Proof.Machine

variable {s t u : State} {c : Channel} {st : Station} {take : State → State} {i : Instr}

/-! ### Commands that settle -/

/-- A command that always settles. -/
theorem State.KeepsSlots.next (k : s.KeepsSlots u) (h : s.SlotsSound)
    (e : (.next u.settle : Host.Outcome State Fault Refusal) = .next t) : t.SlotsSound :=
  next_inj e ▸ k.settle h

/-- A command that settles where a test holds, and otherwise leaves the state as it is. -/
theorem State.KeepsSlots.ite {p : Prop} [Decidable p] (k : p → s.KeepsSlots u) (h : s.SlotsSound)
    (e : (if p then (.next u.settle : Host.Outcome State Fault Refusal) else .next s) = .next t) : t.SlotsSound := by
  split at e
  · next hp => exact (k hp).next h e
  · exact next_inj e ▸ h

/-- A command that does nothing where a test holds, and otherwise settles. -/
theorem State.KeepsSlots.ite_not {p : Prop} [Decidable p] (k : s.KeepsSlots u) (h : s.SlotsSound)
    (e : (if p then (.next s : Host.Outcome State Fault Refusal) else .next u.settle) = .next t) : t.SlotsSound := by
  split at e
  · exact next_inj e ▸ h
  · exact k.next h e

/-- A received frame. -/
theorem State.SlotsSound.frame (h : s.SlotsSound) (k : ∀ u : State, u.KeepsSlots (take u))
    (e : (.next (s.receive st take).settle : Host.Outcome State Fault Refusal) = .next t) : t.SlotsSound :=
  (State.slots_receive k s).next h e

theorem State.SlotsSound.execBandFall (h : s.SlotsSound) (e : execBandFall s = .next t) : t.SlotsSound := by
  unfold Machine.execBandFall at e
  split at e
  · exact next_inj e ▸ h
  · exact State.KeepsSlots.ite_not (State.slots_changeBand _ s) h e

theorem State.SlotsSound.execBandRise (h : s.SlotsSound) (e : execBandRise s = .next t) : t.SlotsSound := by
  unfold Machine.execBandRise at e
  split at e
  · exact next_inj e ▸ h
  · exact State.KeepsSlots.ite_not (State.slots_changeBand _ s) h e

theorem State.SlotsSound.execHoldExpiry (h : s.SlotsSound) (e : execHoldExpiry c s = .next t) : t.SlotsSound := by
  unfold Machine.execHoldExpiry at e
  split at e
  · exact next_inj e ▸ h
  · next j _ =>
    split at e
    · exact next_inj e ▸ h
    · exact State.KeepsSlots.ite (fun _ => State.slots_decide c j _ s) h e

theorem State.SlotsSound.execWindowEnd (h : s.SlotsSound) (e : execWindowEnd c s = .next t) : t.SlotsSound := by
  unfold Machine.execWindowEnd at e
  split at e
  · next x hs _ =>
    split at e
    · exact next_inj e ▸ h
    · split at e
      · exact next_inj e ▸ (State.sameSlots_modChan rfl rfl).sound h
      · exact (State.slots_windowEnd c x s).next h e
  · exact next_inj e ▸ h

theorem State.SlotsSound.execPhaseTimerExpiry (h : s.SlotsSound) (e : execPhaseTimerExpiry c s = .next t) :
    t.SlotsSound := by
  unfold Machine.execPhaseTimerExpiry at e
  split at e
  · next p hs _ => exact State.KeepsSlots.ite (fun _ => (State.sameSlots_keeps (.phase p hs)).keeps) h e
  · exact next_inj e ▸ h

theorem State.SlotsSound.execOverrideExpiry (h : s.SlotsSound) (e : execOverrideExpiry c s = .next t) : t.SlotsSound := by
  unfold Machine.execOverrideExpiry at e
  split at e
  · exact State.KeepsSlots.ite (fun _ => State.KeepsSlots.trans State.slots_modChan (State.slots_applyRequest c _)) h e
  · exact next_inj e ▸ h

theorem State.SlotsSound.execTransmissionCompletion (h : s.SlotsSound) (e : execTransmissionCompletion s = .next t) :
    t.SlotsSound := by
  unfold Machine.execTransmissionCompletion at e
  split at e
  · exact next_inj e ▸ h
  · exact ((State.slots_setQueue _ s).trans (State.slots_completed _ _)).next h e

theorem State.SlotsSound.execQueueExpiry {k : Fin 6} (h : s.SlotsSound) (e : execQueueExpiry k s = .next t) :
    t.SlotsSound := by
  unfold Machine.execQueueExpiry at e
  split at e
  · exact next_inj e ▸ h
  · exact State.KeepsSlots.ite (fun _ => (State.slots_setQueue _ s).trans (State.slots_expired _ _)) h e

/-! ### Commands that touch no slot -/

/-- A command that writes neither a channel nor the Start Sequencer. -/
theorem State.sameSlots_exec (hi : leavesMode i = false) (h : exec i s = .next t)
    (hq : (s.writtenBy i t).sequencer = s.sequencer := by rfl)
    (hc : (s.writtenBy i t).channels = s.channels := by rfl) : s.SameSlots t := by
  rw [exec_frame i h] at hq hc
  exact ⟨hq, (exec_runs hi h).configuring.1, fun c => by rw [State.chan, hc, State.chan]; exact ⟨rfl, rfl⟩⟩

/-! ### Every command -/

theorem State.SlotsSound.execReadEnd {image : List Byte} (h : s.SlotsSound)
    (e : execConfigurationReadEnd image s = .next t) : t.SlotsSound := by
  unfold execConfigurationReadEnd at e
  split at e
  · cases e
  · split at e
    · next hm => exact next_inj e ▸ (h.held.judgeImage hm image).settle
    · exact next_inj e ▸ h

theorem exec_slotsSound (h : s.SlotsSound) (e : exec i s = .next t) : t.SlotsSound := by
  cases i with
  | resetRelease straps => exact next_inj e ▸ State.Fresh.slots (State.released_fresh straps s) rfl rfl
  | serviceRestart straps => exact next_inj e ▸ State.Fresh.slots (State.restarted_fresh straps s) rfl rfl
  | configurationReadEnd => exact h.execReadEnd e
  | feedMeasurement b v => exact (State.slots_measureFeed b v s).next h e
  | bandFall => exact h.execBandFall e
  | bandRise => exact h.execBandRise e
  | dieTemperatureMeasurement x => exact (State.slots_measureDie x s).next h e
  | currentSample c v x => exact (State.slots_sample c v x s).next h e
  | pwmPeriodStart c =>
    replace e : execPwmPeriodStart c s = .next t := e
    unfold execPwmPeriodStart at e
    split at e
    · exact next_inj e ▸ (State.sameSlots_keeps .period).sound h
    · exact next_inj e ▸ h
  | cleanRunTimerExpiry c =>
    replace e : execCleanRunTimerExpiry c s = .next t := e
    unfold execCleanRunTimerExpiry at e
    split at e
    · exact next_inj e ▸ h
    · exact next_inj e ▸ (State.sameSlots_modChan rfl rfl).sound h
  | update c => exact State.KeepsSlots.ite_not (State.slots_updateChannel c s) h e
  | stall c => exact State.KeepsSlots.ite (fun _ => State.KeepsSlots.trans State.slots_modChan (State.slots_handFault c _ _)) h e
  | openLoad c => exact State.KeepsSlots.ite (fun _ => State.KeepsSlots.trans State.slots_modChan (State.slots_handFault c _ _)) h e
  | retryTimerExpiry c => exact State.KeepsSlots.ite (fun _ => State.slots_tryCooldownExit c s) h e
  | debounceExpiry i => exact State.KeepsSlots.ite (fun _ => State.slots_debouncedChange i s) h e
  | ageingStep => exact State.KeepsSlots.ite_not s.slots_ageTable h e
  | holdExpiry => exact h.execHoldExpiry e
  | budgetRound => exact State.KeepsSlots.ite_not s.slots_periodicRound h e
  | windowEnd => exact h.execWindowEnd e
  | phaseTimerExpiry => exact h.execPhaseTimerExpiry e
  | autoOffExpiry c => exact State.KeepsSlots.ite (fun _ => State.KeepsSlots.trans State.slots_modChan (State.slots_applyRequest c _)) h e
  | overrideExpiry => exact h.execOverrideExpiry e
  | transmissionCompletion => exact h.execTransmissionCompletion e
  | queueExpiry => exact h.execQueueExpiry e
  | peerEntryStale => exact State.KeepsSlots.next (State.KeepsSlots.trans State.slots_quiet (State.slots_peerNotice _ _)) h e
  | signal st l => exact h.frame (State.slots_takeSignals st l) e
  | draw =>
    refine h.frame (fun u => ?_) e
    split
    · exact .refl u
    · exact State.slots_takeDraw _ _ _ u
  | intent =>
    refine h.frame (fun u => ?_) e
    split
    · exact .refl u
    · split
      · exact State.slots_storeIntent _ u
      · exact .refl u
  | withdraw =>
    refine h.frame (fun u => ?_) e
    split <;> exact State.slots_quiet
  | otherFrameReceived => exact h.frame .refl e
  | clearFault => exact h.frame (fun u => State.slots_serve (State.slots_clearFaults _ _ u)) e
  | clearEvents =>
    exact h.frame (fun u => State.slots_serve ((State.slots_clearFlags _ _ u).trans State.slots_quiet)) e
  | readChannel =>
    refine h.frame (fun u => ?_) e
    split <;> exact State.slots_serve State.slots_quiet
  | readPeers => exact h.frame (fun u => State.slots_serve State.slots_quiet) e
  | readEvents => exact h.frame (fun u => State.slots_serve State.slots_quiet) e
  | override =>
    refine h.frame (fun u => ?_) e
    split
    · exact State.slots_serve (.refl u)
    · exact State.slots_serve ((State.slots_setOverride _ _ _ u).trans State.slots_quiet)
  | restart => exact h.frame (fun u => State.slots_serve State.slots_quiet) e
  | unknownCommand => exact h.frame (fun u => State.slots_serve (.refl u)) e
  | _ => exact (State.sameSlots_exec rfl e).sound h

/-! ### A step -/

theorem State.sameSlots_pending (p : List Instr) (s : State) : s.SameSlots { s with pending := p } :=
  .of_chan rfl rfl fun _ => rfl

/-- R79: a millisecond changes no state of a channel. -/
theorem State.sameSlots_passMs (s : State) : s.SameSlots s.passMs :=
  ⟨rfl, id, fun c => by
    rw [State.passMs_chan]
    exact ⟨(ChannelRecord.keeps_passMs _).state_eq, (ChannelRecord.keeps_passMs _).cfg_eq⟩⟩

end Sys2Proof.Machine

/-- Settles O6: an event keeps the slots held, and what follows every event hands the free ones on. -/
theorem everyStepKeepsSlotsSound : Obligations.EveryStepKeepsSlotsSound := by
  open Sys2Proof.Machine in
  intro s t h e
  unfold step at e
  split at e
  · rw [← next_inj e]
    unfold State.idleStep
    split
    · exact (s.sameSlots_passMs.trans (State.sameSlots_pending _ _)).sound h
    · exact (s.sameSlots_pending _).sound h
  · exact exec_slotsSound ((s.sameSlots_pending _).sound h) e
end

-- ==== Proofs: periods ====
section
/-! PROOFS. PWM periods (R86, R87, R145): O34. -/

/-! As in the model's tests, elaboration is synchronous: the many small proofs otherwise start more threads than the memory
limit of the check allows. -/

set_option Elab.async false

namespace Sys2Proof.Machine

variable {s : State} {c : Channel} {r : ChannelRecord} {u : StartRecord}

theorem ChannelRecord.periodStart_starting (hs : r.state = .starting) (hu : r.start = some u) :
    r.periodStart = r.nextStartPeriod u := by
  unfold ChannelRecord.periodStart
  rw [hs, hu]

theorem ChannelRecord.periodStart_on (hs : r.state = .on) : r.periodStart = { r with span := r.onSpan, pwmPos := 0 } := by
  unfold ChannelRecord.periodStart
  rw [hs]

theorem ChannelRecord.periodStart_of_neither (h : r.state ≠ .starting ∧ r.state ≠ .on) : r.periodStart = r := by
  unfold ChannelRecord.periodStart
  split
  · next hs _ => exact absurd hs h.1
  · next hs => exact absurd hs h.2
  · rfl

theorem ChannelRecord.onSpan_eq (r : ChannelRecord) : r.onSpan = if r.cfg.dutyMode = .pwm then r.duty.toNat else 255 := by
  unfold ChannelRecord.onSpan
  cases r.cfg.dutyMode <;> rfl

theorem ChannelConfig.profileDuty_eq (k : ChannelConfig) (w : Nat) (duty : Byte) (n : Nat) :
    k.profileDuty w duty n = if k.accepted.filament = true ∧ 64 < duty.toNat
      then BitVec.ofNat 8 (64 + (duty.toNat - 64) * n / (2 * w - 1)) else duty := by
  unfold ChannelConfig.profileDuty
  simp only [Bool.and_eq_true, decide_eq_true_eq]

/-- R87, R145: a period that has run its 5 ms ends. -/
theorem exec_pwmPeriodStart (h : 5 ≤ (s.chan c).pwmPos) {q : ChannelRecord} (hq : (s.chan c).periodStart = q) :
    exec (.pwmPeriodStart c) s = .next (s.setChan c q) := by
  rw [← hq]
  exact if_pos h

end Sys2Proof.Machine

/-- Settles O34. -/
theorem periodStartSetsTheSpan : Obligations.PeriodStartSetsTheSpan := by
  open Sys2Proof.Machine in
  intro c u s r p k d
  refine ⟨fun h5 hs hu => exec_pwmPeriodStart h5 ?_, fun h5 hs => exec_pwmPeriodStart h5 ?_, fun h => ?_⟩
  · have hd : r.cfg.profileDuty u.window r.duty k = d := ChannelConfig.profileDuty_eq _ _ _ _
    rw [ChannelRecord.periodStart_starting hs hu, ← hd]
    rfl
  · rw [ChannelRecord.periodStart_on hs, ChannelRecord.onSpan_eq]
  · by_cases h5 : r.pwmPos < 5
    · exact if_neg (Nat.not_le.2 h5)
    · refine (exec_pwmPeriodStart (Nat.not_lt.1 h5) rfl).trans (congrArg _ (State.modChan_of_same ?_))
      exact ChannelRecord.periodStart_of_neither (h.resolve_right h5)
end

-- ==== Proofs: handed ====
section
/-! PROOFS. STALL and OPEN handed at their counts (R110, R112, R113, R120 to R122): O40. -/

/-! As in the model's tests, elaboration is synchronous: the many small proofs otherwise start more threads than the memory
limit of the check allows. -/

set_option Elab.async false

namespace Sys2Proof.Machine

variable {s t : State} {c : Channel} {r : ChannelRecord} {k : FaultKind} {f : ChannelRecord → ChannelRecord}

/-! ### The record that a fault taken leaves (R118 to R122) -/

/-- R118: what the action of a fault kind makes of a record. -/
def ChannelRecord.acted (k : FaultKind) (r : ChannelRecord) : ChannelRecord :=
  match r.cfg.actionFor k with
  | .latch => r.latch k
  | .retry => r.retryStop k
  | .report => r.recordFault k
  | .ignore => r

theorem ChannelRecord.acted_latch (h : r.cfg.actionFor k = .latch) : r.acted k = r.latch k := by
  rw [ChannelRecord.acted, h]

theorem ChannelRecord.acted_retry (h : r.cfg.actionFor k = .retry) : r.acted k = r.retryStop k := by
  rw [ChannelRecord.acted, h]

theorem ChannelRecord.acted_report (h : r.cfg.actionFor k = .report) : r.acted k = r.recordFault k := by
  rw [ChannelRecord.acted, h]

theorem ChannelRecord.acted_ignore (h : r.cfg.actionFor k = .ignore) : r.acted k = r := by
  rw [ChannelRecord.acted, h]

/-- R121: a retry within the limit. -/
theorem ChannelRecord.retryStop_within (h : r.retryCount < r.cfg.retryLimit) : r.retryStop k
    = { (r.recordFault k).idle .cooldown with
        active := some k, retryCount := r.retryCount + 1, retry := some (r.cfg.retryTime * 100) } :=
  if_neg (Nat.not_lt.2 h)

/-- R121, R124: a retry past the limit. -/
theorem ChannelRecord.retryStop_past (h : r.cfg.retryLimit ≤ r.retryCount) :
    r.retryStop k = { r.latch k with retryCount := r.retryCount + 1 } :=
  if_pos (Nat.lt_succ_of_le h)

/-- R119: a fault kind that the channel takes does what its action says. -/
theorem State.takeFault_acted (hs : (s.chan c).state ≠ .cooldown) (ht : (s.chan c).takesFault k = true) :
    (s.takeFault c k).chan c = (s.chan c).acted k := by
  unfold State.takeFault ChannelRecord.acted
  dsimp only
  rw [if_neg (by simp [hs]), if_pos ht]
  cases (s.chan c).cfg.actionFor k with
  | latch | retry => rw [State.requestStatus_chan, State.enter_chan_self]
  | report => rw [State.requestStatus_chan, State.modChan_chan_self]
  | ignore => rfl

/-- R119: a fault handed in a state in which no channel waits for a slot. -/
theorem State.handFault_acted (hq : s.sequencer.queue = []) (hs : (s.chan c).state ≠ .cooldown)
    (ht : (s.chan c).takesFault k = true) : (s.handFault c k).chan c = (s.chan c).acted k := by
  obtain ⟨q, hq⟩ := State.handFault_eq hq c k
  rw [hq]
  exact State.takeFault_acted hs ht

/-- An event at one channel that ends with a fault handed. -/
theorem State.Touches.handed (h : State.Touches c s t) (p : s.Plain) (hs : (t.chan c).state ≠ .cooldown)
    (ht : (t.chan c).takesFault k = true) : (t.handFault c k).settle.chan c = ((t.chan c).acted k).followed
      ∧ ∀ d, d ≠ c → (t.handFault c k).settle.chan d = (s.chan d).followed := by
  have htouch : State.Touches c s (t.handFault c k) := h.trans (State.touches_handFault h.noQueue)
  rw [htouch.settle p, State.echoed_chan, State.handFault_acted h.noQueue hs ht]
  exact ⟨rfl, fun d hd => htouch.echoed_others hd⟩

/-- An event that changes a channel's record and hands a fault of it. -/
theorem State.Plain.handed (p : s.Plain) (hs : (f (s.chan c)).state ≠ .cooldown)
    (ht : (f (s.chan c)).takesFault k = true) :
    (((s.modChan c f).handFault c k).settle.chan c = ((f (s.chan c)).acted k).followed)
      ∧ ∀ d, d ≠ c → ((s.modChan c f).handFault c k).settle.chan d = (s.chan d).followed := by
  have h := (State.touches_modChan (c := c) (f := f) p.noQueue).handed (k := k) p
  rw [State.modChan_chan_self] at h
  exact h hs ht

/-! ### Counts (R110, R112) -/

theorem ChannelRecord.stallDue_iff (h : r.running = true) : r.stallDue = true
    ↔ r.cfg.stallThreshold ≠ 0 ∧ r.prot.stallMark = false ∧ r.cfg.stallTime * 10 ≤ r.prot.stallTimer := by
  simp [ChannelRecord.stallDue, h, and_assoc]

theorem ChannelRecord.openDue_iff (h : r.running = true) :
    r.openDue = true ↔ r.prot.openMark = false ∧ 50 ≤ r.prot.openTimer := by
  rw [ChannelRecord.openDue, h, Bool.true_and, Bool.and_eq_true, Bool.not_eq_true', decide_eq_true_eq]
  rfl

/-- R110, R113: STALL handed. -/
theorem exec_stall (h : (s.chan c).stallDue = true) : exec (.stall c) s
    = .next ((s.modChan c fun r => r.modProt fun p => { p with stallMark := true }).handFault c .stall).settle := if_pos h

/-- R112, R113: OPEN handed. -/
theorem exec_openLoad (h : (s.chan c).openDue = true) : exec (.openLoad c) s
    = .next ((s.modChan c fun r => r.modProt fun p => { p with openMark := true }).handFault c .openLoad).settle := if_pos h

end Sys2Proof.Machine

/-- Settles O40. -/
theorem stallAndOpenAreHanded : Obligations.StallAndOpenAreHanded := by
  open Sys2Proof.Machine in
  intro c s p hon r latched runs stallDue openDue
  have hrun : r.running = true := ChannelRecord.running_of hon
  have hcool : r.state ≠ .cooldown := fun e => Bool.noConfusion (hrun.symm.trans (ChannelRecord.running_cooldown e))
  have hstall : r.stallDue = true ↔ stallDue := ChannelRecord.stallDue_iff hrun
  have hopen : r.openDue = true ↔ openDue := ChannelRecord.openDue_iff hrun
  refine ⟨fun h => if_neg (mt hstall.1 h), fun h => ⟨_, exec_stall (hstall.2 h), ?_⟩, fun h => if_neg (mt hopen.1 h),
    fun h => ⟨_, exec_openLoad (hopen.2 h), ?_⟩⟩
  · obtain ⟨hq, hothers⟩ := p.handed (k := .stall) (f := fun r => r.modProt fun p => { p with stallMark := true }) hcool hrun
    rw [hq]
    refine ⟨fun hm => ?_, fun hm hlt => ?_, fun hm => ?_, hothers⟩
    · dsimp only [latched]
      rw [hq, ChannelRecord.acted_latch (by exact hm)]
      exact ⟨rfl, rfl, rfl, rfl, rfl, rfl, rfl⟩
    · rw [ChannelRecord.acted_retry (by exact hm), ChannelRecord.retryStop_within (by exact hlt)]
      exact ⟨rfl, rfl, rfl, rfl, rfl⟩
    · dsimp only [runs]
      rw [hq, ChannelRecord.acted_report (by exact hm)]
      exact ⟨⟨rfl, rfl, rfl, rfl, rfl, rfl, rfl, rfl⟩, rfl, rfl⟩
  · obtain ⟨hq, hothers⟩ := p.handed (k := .openLoad) (f := fun r => r.modProt fun p => { p with openMark := true }) hcool
      (by rw [ChannelRecord.takesFault, Bool.or_eq_true]; exact .inl hrun)
    have hdue : ∀ q : ChannelRecord, (q.recordFault .openLoad).idDue = true := fun q => Bool.or_true _
    rw [hq]
    refine ⟨fun hm => ?_, fun hm => ?_, fun hm => ?_, hothers⟩
    · dsimp only [latched]
      rw [hq, ChannelRecord.acted_latch (by exact hm)]
      exact ⟨⟨rfl, rfl, rfl, rfl, rfl, rfl, rfl⟩, hdue _⟩
    · dsimp only [runs]
      rw [hq, ChannelRecord.acted_report (by exact hm)]
      exact ⟨⟨rfl, rfl, rfl, rfl, rfl, rfl, rfl, rfl⟩, rfl, hdue _, rfl⟩
    · dsimp only [runs]
      rw [hq, ChannelRecord.acted_ignore (by exact hm)]
      exact ⟨⟨rfl, rfl, rfl, rfl, rfl, rfl, rfl, rfl⟩, rfl, rfl, rfl⟩
end

-- ==== Proofs: samples ====
section
/-! PROOFS. A current sample (R84, R85, R88, R101, R108): O36. -/

/-! As in the model's tests, elaboration is synchronous: the many small proofs otherwise start more threads than the memory
limit of the check allows. -/

set_option Elab.async false

namespace Sys2Proof.Machine

variable {s : State} {c : Channel} {r : ChannelRecord} {u : StartRecord} {i v : Nat} {x : Int}

/-! ### The record that a sample leaves -/

/-- R101, R108: a sample read as `v` taken by the record, the start and the short detector. -/
def ChannelRecord.sampleTaken (v : Nat) (r : ChannelRecord) : ChannelRecord :=
  ((r.takeSample v).startSample v).shortSample v

theorem ChannelRecord.conducting_of_starting (hs : r.state = .starting) : r.conducting = true := by
  rw [ChannelRecord.conducting, hs]
  rfl

theorem ChannelRecord.conducting_of_running (h : r.running = true) : r.conducting = true := by
  rw [ChannelRecord.conducting, h, Bool.or_true]

theorem ChannelRecord.not_starting_of_open (h : r.conducting = false) : r.state ≠ .starting := fun hs => by
  rw [ChannelRecord.conducting_of_starting hs] at h
  cases h

theorem ChannelRecord.not_running_of_open (h : r.conducting = false) : r.running = false := by
  rw [ChannelRecord.conducting, Bool.or_eq_false_iff] at h
  exact h.2

theorem ChannelRecord.awaits_of_not_starting (h : r.state ≠ .starting) : r.awaits = false := by
  unfold ChannelRecord.awaits
  split
  · rw [beq_false_of_ne h, Bool.false_and]
  · rfl

/-- R98: a window end that has not come does not wait. -/
theorem ChannelRecord.awaits_of_not_ending (h : ∀ u, r.start = some u → u.ending = false) : r.awaits = false := by
  unfold ChannelRecord.awaits
  split
  · next u hu => rw [h u hu, Bool.and_false]
  · rfl

/-- R101: what a sample reads. -/
theorem ChannelRecord.reading_eq (i : Nat) (r : ChannelRecord) : r.reading i
    = if r.conducting = false ∨ r.span * 5 ≤ r.samplePos * 255 then 0 else min i 1023 := by
  have hopen : r.isOpen = true ↔ r.conducting = false ∨ r.span * 5 ≤ r.samplePos * 255 := by
    rw [ChannelRecord.isOpen, Bool.or_eq_true, Bool.not_eq_true', decide_eq_true_eq]
    rfl
  exact if_congr hopen rfl rfl

theorem ChannelRecord.reading_now (h : r.awaits = false) (i : Nat) : r.reading i
    = if r.conducting = false ∨ r.span * 5 ≤ r.pwmPos * 255 then 0 else min i 1023 := by
  rw [ChannelRecord.reading_eq, ChannelRecord.samplePos, h]
  rfl

theorem keepTen_append (l : List Nat) (v : Nat) : keepTen (l ++ [v]) = (l ++ [v]).drop (l.length + 1 - 10) := by
  rw [keepTen, List.length_append]
  rfl

theorem keepTen_of_ten {l : List Nat} (h : l.length = 10) (v : Nat) : keepTen (l ++ [v]) = l.tail ++ [v] := by
  rw [keepTen_append, h, ← List.drop_one]
  exact List.drop_append_of_le_length (by omega)

/-- R101, R110: a sample joins the last ten. -/
theorem ChannelRecord.takeSample_of_ten (h : r.prot.lastTen.length = 10) (v : Nat) : r.takeSample v
    = { r with prot := { r.prot with
        lastTen := r.prot.lastTen.tail ++ [v]
        sinceOn := if r.running then min (r.prot.sinceOn + 1) 10 else r.prot.sinceOn
        sampled := !r.awaits } } := by
  unfold ChannelRecord.takeSample ChannelRecord.modProt
  dsimp only
  rw [keepTen_of_ten h]

theorem ChannelRecord.startSample_of_not_starting (h : r.state ≠ .starting) (v : Nat) : r.startSample v = r := by
  unfold ChannelRecord.startSample
  split
  · next hs _ => exact absurd hs h
  · rfl

/-- R85, R88: a sample that joins a start. -/
theorem ChannelRecord.startSample_starting (hs : r.state = .starting) (hu : r.start = some u) (v : Nat) : r.startSample v
    = { r with
        start := some (u.takeSample v r.cfg.currentLimit)
        span := if u.opens v r.cfg.currentLimit then 0 else r.span } := by
  unfold ChannelRecord.startSample
  rw [hs, hu]

theorem ChannelRecord.shortSample_open (h : r.conducting = false) (v : Nat) : r.shortSample v = r := by
  rw [ChannelRecord.shortSample, h]
  rfl

/-- R108: a sample that is no second one in a row at the threshold sets or clears the mark. -/
theorem ChannelRecord.shortSample_judged (h : r.conducting = true) (hf : r.shortFound v = false) :
    r.shortSample v = r.modProt fun p => { p with shortMark := decide (r.cfg.shortThreshold ≤ v) } := by
  rw [ChannelRecord.shortSample, h, hf]
  rfl

/-- R85: a sample of a start changes the start record and the span alone. -/
theorem ChannelRecord.startSample_cases (v : Nat) (r : ChannelRecord) :
    ∃ y n, r.startSample v = { r with start := y, span := n } := by
  unfold ChannelRecord.startSample
  split
  · exact ⟨_, _, rfl⟩
  · exact ⟨_, _, rfl⟩

/-- R108: the short detector changes the mark and the span alone. -/
theorem ChannelRecord.shortSample_cases (v : Nat) (r : ChannelRecord) :
    ∃ m n, r.shortSample v = { r with prot := { r.prot with shortMark := m }, span := n } := by
  unfold ChannelRecord.shortSample
  split
  · split
    · exact ⟨_, _, rfl⟩
    · exact ⟨_, _, rfl⟩
  · exact ⟨_, _, rfl⟩

/-- What a sample leaves of a record. -/
theorem ChannelRecord.sampleTaken_cases (v : Nat) (r : ChannelRecord) :
    ∃ p y n, r.sampleTaken v = { r with prot := p, start := y, span := n } ∧ p.hot = r.prot.hot := by
  obtain ⟨y, n, h1⟩ := (r.takeSample v).startSample_cases v
  obtain ⟨m, n', h2⟩ := ChannelRecord.shortSample_cases v { r.takeSample v with start := y, span := n }
  refine ⟨{ (r.takeSample v).prot with shortMark := m }, y, n', ?_, rfl⟩
  rw [ChannelRecord.sampleTaken, h1]
  exact h2

/-- R108: whether a sample is a SHORT does not depend on what it does to the record and the start. -/
theorem ChannelRecord.shortFound_sampled (v : Nat) (r : ChannelRecord) :
    ((r.takeSample v).startSample v).shortFound v = r.shortFound v := by
  obtain ⟨y, n, h⟩ := (r.takeSample v).startSample_cases v
  rw [h]
  rfl

theorem ChannelRecord.awaits_sampled (h : r.awaits = false) (v : Nat) :
    ((r.takeSample v).startSample v).awaits = false := by
  by_cases hs : r.state = .starting
  · cases hu : r.start with
    | none =>
      rw [ChannelRecord.startSample]
      split
      · next hy => exact absurd (hu.symm.trans hy) nofun
      · exact h
    | some u =>
      have hend : (u.takeSample v r.cfg.currentLimit).ending = u.ending := by
        unfold StartRecord.takeSample
        split <;> rfl
      rw [ChannelRecord.awaits, hu] at h
      rw [ChannelRecord.startSample_starting (r := r.takeSample v) hs hu]
      exact (congrArg (_ && ·) hend).trans h
  · rw [ChannelRecord.startSample_of_not_starting (r := r.takeSample v) hs]
    exact h

/-! ### The state that a sample leaves -/

/-- Two changes of one record, once the echoes are taken. -/
theorem State.echoed_modChan (s : State) (c : Channel) (f g : ChannelRecord → ChannelRecord) :
    ((s.modChan c f).modChan c g).echoed = (s.setChan c (g (f (s.chan c)))).echoed := by
  refine State.ext_chan (fun d => ?_) rfl
  rw [State.echoed_chan, State.echoed_chan]
  by_cases hd : d = c
  · rw [hd, State.modChan_chan_self, State.modChan_chan_self, State.setChan_chan_self]
  · rw [State.modChan_chan_ne _ hd, State.modChan_chan_ne _ hd, State.setChan_chan_ne _ hd]

/-- The state once a sample read as `v` has been taken, but for a SHORT and the switch reading. -/
def State.sampleTaken (c : Channel) (v : Nat) (s : State) : State :=
  (s.modChan c fun r => (r.takeSample v).startSample v).modChan c (·.shortSample v)

@[simp] theorem State.sampleTaken_chan_self (c : Channel) (v : Nat) (s : State) :
    (s.sampleTaken c v).chan c = (s.chan c).sampleTaken v := by
  rw [State.sampleTaken, State.modChan_chan_self, State.modChan_chan_self]
  rfl

theorem State.touches_sampleTaken (h : s.sequencer.queue = []) : State.Touches c s (s.sampleTaken c v) :=
  (State.touches_modChan h).trans (State.touches_modChan h)

/-- R108, R114: a sample that no window end waits for. -/
theorem State.sample_eq (h : (s.chan c).awaits = false) : s.sample c i x
    = State.readSwitch c x (if (s.chan c).shortFound ((s.chan c).reading i)
        then (s.sampleTaken c ((s.chan c).reading i)).handFault c .short else s.sampleTaken c ((s.chan c).reading i)) := by
  obtain ⟨v, hv⟩ : ∃ v, (s.chan c).reading i = v := ⟨_, rfl⟩
  have hchan : (s.modChan c fun r => (r.takeSample v).startSample v).chan c = ((s.chan c).takeSample v).startSample v :=
    State.modChan_chan_self s c _
  have hwait : (s.modChan c fun r => (r.takeSample v).startSample v).endWaiting c
      = s.modChan c fun r => (r.takeSample v).startSample v := by
    unfold State.endWaiting
    rw [hchan, ChannelRecord.awaits_sampled h]
    split <;> rfl
  have hsample : s.sample c i x
      = (((s.modChan c fun r => (r.takeSample v).startSample v).endWaiting c).detectShort c v).readSwitch c x := by
    rw [← hv]
    rfl
  rw [hsample, hwait, hv, State.detectShort, hchan, ChannelRecord.shortFound_sampled]
  rfl

/-- R114: a reading below 170 °C over a switch that is not hot. -/
theorem State.readSwitch_normal (hh : (s.chan c).prot.hot = false) (hx : x < 170) : s.readSwitch c x = s := by
  have hnext : nextHot (s.chan c).prot.hot x = false := by
    rw [hh]
    exact decide_eq_false (Int.not_le.2 hx)
  have hsame : (s.chan c).readHot false = s.chan c := by
    unfold ChannelRecord.readHot ChannelRecord.modProt
    rw [← hh]
  unfold State.readSwitch
  dsimp only
  rw [hnext, hh]
  exact State.modChan_of_same (f := (·.readHot false)) hsame

/-- R114, R115: a reading of 170 °C over a switch that is not hot. -/
theorem State.readSwitch_onset (hh : (s.chan c).prot.hot = false) (hx : 170 ≤ x) :
    s.readSwitch c x = (s.modChan c (·.readHot true)).handFault c .thermal := by
  have hnext : nextHot (s.chan c).prot.hot x = true := by
    rw [hh]
    exact decide_eq_true hx
  unfold State.readSwitch
  dsimp only
  rw [hnext, hh]
  rfl

theorem State.sampleTaken_hot (hh : (s.chan c).prot.hot = false) : ((s.sampleTaken c v).chan c).prot.hot = false := by
  obtain ⟨p, y, n, h, hp⟩ := (s.chan c).sampleTaken_cases v
  rw [State.sampleTaken_chan_self, h]
  exact hp.trans hh

/-- R101: a sample that ends nothing, stops nothing and reads no hot switch. -/
theorem exec_sampleTaken (p : s.Plain) (hw : (s.chan c).awaits = false)
    (hf : (s.chan c).shortFound ((s.chan c).reading i) = false) (hh : (s.chan c).prot.hot = false) (hx : x < 170)
    {q : ChannelRecord} (hq : (s.chan c).sampleTaken ((s.chan c).reading i) = q) :
    exec (.currentSample c i x) s = .next (s.setChan c q).echoed := by
  have htaken : (s.sampleTaken c ((s.chan c).reading i)).Plain := ⟨p.noFollower, p.noQueue⟩
  show Host.Outcome.next (s.sample c i x).settle = _
  rw [State.sample_eq hw, hf, if_neg Bool.false_ne_true, State.readSwitch_normal (State.sampleTaken_hot hh) hx,
    htaken.settle, State.sampleTaken, State.echoed_modChan, ← hq]
  rfl

/-- R108: no SHORT is found below the threshold or without the mark. -/
theorem ChannelRecord.shortFound_of_none (h : v < r.cfg.shortThreshold ∨ r.prot.shortMark = false) :
    r.shortFound v = false := by
  rw [ChannelRecord.shortFound, Bool.and_eq_false_iff, Bool.and_eq_false_iff]
  exact h.imp (fun h => .inr (decide_eq_false (Nat.not_le.2 h))) id

theorem ChannelRecord.shortFound_open (h : r.conducting = false) : r.shortFound v = false := by
  rw [ChannelRecord.shortFound, h]
  rfl

/-- R101: a sample over an open output. -/
theorem ChannelRecord.sampleTaken_open (h : r.conducting = false) (hl : r.prot.lastTen.length = 10) : r.sampleTaken v
    = { r with prot := { r.prot with lastTen := r.prot.lastTen.tail ++ [v], sampled := true } } := by
  have hs := ChannelRecord.not_starting_of_open h
  rw [ChannelRecord.sampleTaken, ChannelRecord.startSample_of_not_starting (r := r.takeSample v) hs,
    ChannelRecord.shortSample_open (r := r.takeSample v) h, ChannelRecord.takeSample_of_ten hl,
    ChannelRecord.not_running_of_open h, ChannelRecord.awaits_of_not_starting hs]
  rfl

/-- R101, R108, R110: a sample in ON or in the on-phase of CYCLING. -/
theorem ChannelRecord.sampleTaken_running (h : r.running = true) (hs : r.state ≠ .starting) (hf : r.shortFound v = false)
    (hl : r.prot.lastTen.length = 10) : r.sampleTaken v
    = { r with prot := { r.prot with
        lastTen := r.prot.lastTen.tail ++ [v], sinceOn := min (r.prot.sinceOn + 1) 10, sampled := true
        shortMark := decide (r.cfg.shortThreshold ≤ v) } } := by
  have hc := ChannelRecord.conducting_of_running h
  rw [ChannelRecord.sampleTaken, ChannelRecord.startSample_of_not_starting (r := r.takeSample v) hs,
    ChannelRecord.shortSample_judged (r := r.takeSample v) hc hf, ChannelRecord.takeSample_of_ten hl,
    h, ChannelRecord.awaits_of_not_starting hs]
  rfl

/-- R85: a sample within the window. -/
theorem StartRecord.takeSample_within (h : u.samples < u.window * 10) (v limit : Nat) : u.takeSample v limit
    = { u with
        samples := u.samples + 1
        early := if u.samples < 2 then u.early ++ [v] else u.early
        late := (u.late ++ [v]).drop (u.late.length + 1 - 10)
        limited := if limit < v ∧ u.samples / 5 ∉ u.limited then u.limited ++ [u.samples / 5] else u.limited } := by
  unfold StartRecord.takeSample
  rw [if_pos h, keepTen_append]
  simp

theorem StartRecord.opens_iff (u : StartRecord) (v limit : Nat) :
    u.opens v limit = true ↔ limit < v ∧ u.period ≤ u.samples / 5 ∧ u.samples % 5 ≠ 4 := by
  simp [StartRecord.opens, and_assoc]

/-- R85, R88, R101, R108: a sample in STARTING. -/
theorem ChannelRecord.sampleTaken_starting (hs : r.state = .starting) (hu : r.start = some u)
    (hn : u.samples < u.window * 10) (hf : r.shortFound v = false) (hl : r.prot.lastTen.length = 10) : r.sampleTaken v
    = { r with
        prot := { r.prot with
          lastTen := r.prot.lastTen.tail ++ [v]
          sampled := !r.awaits
          shortMark := decide (r.cfg.shortThreshold ≤ v) }
        span := if r.cfg.currentLimit < v ∧ u.period ≤ u.samples / 5 ∧ u.samples % 5 ≠ 4 then 0 else r.span
        start := some { u with
          samples := u.samples + 1
          early := if u.samples < 2 then u.early ++ [v] else u.early
          late := (u.late ++ [v]).drop (u.late.length + 1 - 10)
          limited := if r.cfg.currentLimit < v ∧ u.samples / 5 ∉ u.limited then u.limited ++ [u.samples / 5]
            else u.limited } } := by
  have hrun : r.running = false := by
    unfold ChannelRecord.running ChannelRecord.inOnPhase
    rw [hs]
    cases r.phase <;> rfl
  have hspan : (if u.opens v r.cfg.currentLimit then 0 else r.span)
      = if r.cfg.currentLimit < v ∧ u.period ≤ u.samples / 5 ∧ u.samples % 5 ≠ 4 then 0 else r.span :=
    if_congr (u.opens_iff v _) rfl rfl
  have hjudged := ChannelRecord.shortSample_judged (r := (r.takeSample v).startSample v) (v := v)
    (ChannelRecord.conducting_of_starting ((ChannelRecord.startSample_state _ v).trans hs))
    ((r.shortFound_sampled v).trans hf)
  rw [ChannelRecord.sampleTaken, hjudged, ChannelRecord.startSample_starting (r := r.takeSample v) hs hu v,
    ChannelRecord.takeSample_of_ten hl, hrun]
  dsimp only
  rw [hspan, StartRecord.takeSample_within hn]
  rfl

end Sys2Proof.Machine

/-- Settles O36. -/
theorem samplesAreTaken : Obligations.SamplesAreTaken := by
  open Sys2Proof.Machine in
  intro c i degrees u s p hh hx hl r v ten limit marked noShort
  have hread : r.awaits = false → r.reading i = v := fun h => ChannelRecord.reading_now h i
  refine ⟨fun hc => ?_, fun hrun hn hf => ?_, fun hs hu he hn hf => ?_⟩
  · have hw := ChannelRecord.awaits_of_not_starting (ChannelRecord.not_starting_of_open hc)
    refine exec_sampleTaken p hw (ChannelRecord.shortFound_open hc) hh hx ?_
    rw [hread hw]
    exact ChannelRecord.sampleTaken_open hc hl
  · have hs : r.state ≠ .starting := by
      rcases hrun with h | ⟨_, h, _⟩ <;> exact fun e => ChannelState.noConfusion (h.symm.trans e)
    have hw := ChannelRecord.awaits_of_not_starting hs
    have hfound : r.shortFound v = false := ChannelRecord.shortFound_of_none hf
    refine exec_sampleTaken p hw (by rw [hread hw]; exact hfound) hh hx ?_
    rw [hread hw]
    exact ChannelRecord.sampleTaken_running (ChannelRecord.running_of hrun) hs hfound hl
  · have hw : r.awaits = false := ChannelRecord.awaits_of_not_ending fun y hy => Option.some.inj (hu.symm.trans hy) ▸ he
    have hfound : r.shortFound v = false := ChannelRecord.shortFound_of_none hf
    refine exec_sampleTaken p hw (by rw [hread hw]; exact hfound) hh hx ?_
    rw [hread hw, ChannelRecord.sampleTaken_starting hs hu hn hfound hl, hw]
    rfl
end

-- ==== Proofs: handing ====
section
/-! SUPPORT. The slot of a start that ends, handed to the first channel that waits (R81, R90, R97), and the record of a
channel that a fault stops (R120, R121). -/

/-! As in the model's tests, elaboration is synchronous: the many small proofs otherwise start more threads than the memory
limit of the check allows. -/

set_option Elab.async false

namespace Sys2Proof.Machine

variable {s t u : State} {c d : Channel} {r q : ChannelRecord} {k : FaultKind} {f : ChannelRecord → ChannelRecord}
  {rest : List Channel}

/-! ### A channel that a fault stops -/

/-- R120 to R123: `q` is the record `r` of a channel that fault kind `k` has stopped. -/
structure ChannelRecord.Halts (k : FaultKind) (r q : ChannelRecord) : Prop where
  booking : q.booking = 0
  span : q.span = 0
  throttled : q.throttled = false
  cleanRun : q.cleanRun = none
  start : q.start = none
  phase : q.phase = none
  idClass : q.idClass = r.idClass
  idDue : q.idDue = (r.idDue || k == .openLoad)
  fault : q.events.fault = true
  eff : q.eff = r.eff
  duty : q.duty = r.duty
  active : q.active = some k
  faults : q.faults = r.faults.add k

theorem ChannelRecord.halts_latch (k : FaultKind) (r : ChannelRecord) : r.Halts k (r.latch k) := by
  constructor <;> rfl

theorem ChannelRecord.halts_retryStop (k : FaultKind) (r : ChannelRecord) : r.Halts k (r.retryStop k) := by
  unfold ChannelRecord.retryStop
  dsimp only
  split <;> constructor <;> rfl

theorem ChannelRecord.halts_acted (h : r.cfg.actionFor k = .latch ∨ r.cfg.actionFor k = .retry) : r.Halts k (r.acted k) := by
  rcases h with h | h
  · rw [ChannelRecord.acted_latch h]
    exact r.halts_latch k
  · rw [ChannelRecord.acted_retry h]
    exact r.halts_retryStop k

theorem ChannelRecord.Halts.followed (h : r.Halts k q) : r.Halts k q.followed := by
  obtain ⟨h1, h2, h3, h4, h5, h6, h7, h8, h9, h10, h11, h12, h13⟩ := h
  exact ⟨h1, h2, h3, h4, h5, h6, h7, h8, h9, h10, h11, h12, h13⟩

/-- A fault action changes no switch reading. -/
theorem ChannelRecord.acted_hot (k : FaultKind) (r : ChannelRecord) : (r.acted k).prot.hot = r.prot.hot := by
  unfold ChannelRecord.acted
  split
  · rfl
  · unfold ChannelRecord.retryStop
    dsimp only
    split <;> rfl
  · rfl
  · rfl

/-- R82: a channel that a fault stops holds no slot. -/
theorem State.takeFault_noSlot (hs : (s.chan c).state ≠ .cooldown) (ht : (s.chan c).takesFault k = true)
    (hm : (s.chan c).cfg.actionFor k = .latch ∨ (s.chan c).cfg.actionFor k = .retry) :
    (s.takeFault c k).sequencer.slot0 ≠ some c ∧ (s.takeFault c k).sequencer.slot1 ≠ some c := by
  have hretry : ((s.chan c).retryStop k).state ≠ .starting := by
    rw [ChannelRecord.retryStop_state]
    split <;> exact ChannelState.noConfusion
  unfold State.takeFault
  dsimp only
  rw [if_neg (by simp [hs]), if_pos ht]
  rcases hm with hm | hm
  · rw [hm, State.requestStatus_sequencer]
    exact State.enter_noSlot ChannelState.noConfusion
  · rw [hm, State.requestStatus_sequencer]
    exact State.enter_noSlot hretry

theorem State.handFault_noSlot (hq : s.sequencer.queue = []) (hs : (s.chan c).state ≠ .cooldown)
    (ht : (s.chan c).takesFault k = true)
    (hm : (s.chan c).cfg.actionFor k = .latch ∨ (s.chan c).cfg.actionFor k = .retry) :
    (s.handFault c k).sequencer.slot0 ≠ some c ∧ (s.handFault c k).sequencer.slot1 ≠ some c := by
  obtain ⟨q, hq⟩ := State.handFault_eq hq c k
  rw [hq]
  exact State.takeFault_noSlot (s := { s with sequencer := q }) hs ht hm

/-! ### A channel beside the slots -/

/-- R79, R81: the channel neither holds a slot nor waits for one, and no slot is free for another that waits. -/
structure State.Unslotted (c : Channel) (s : State) : Prop where
  handed : s.Handed
  not0 : s.sequencer.slot0 ≠ some c
  not1 : s.sequencer.slot1 ≠ some c
  notQueued : c ∉ s.sequencer.queue

/-- Activity at one channel that leaves the slots and the slot queue. -/
structure State.StaysAt (c : Channel) (s t : State) : Prop where
  sequencer : t.sequencer = s.sequencer
  bind : t.bind = s.bind
  others : ∀ d, d ≠ c → t.chan d = s.chan d

theorem State.StaysAt.refl (s : State) : State.StaysAt c s s := ⟨rfl, rfl, fun _ _ => rfl⟩

theorem State.StaysAt.trans (h : State.StaysAt c s t) (k : State.StaysAt c t u) : State.StaysAt c s u :=
  ⟨k.sequencer.trans h.sequencer, k.bind.trans h.bind, fun d hd => (k.others d hd).trans (h.others d hd)⟩

theorem State.Unslotted.of_sequencer (h : s.Unslotted c) (hq : t.sequencer = s.sequencer) : t.Unslotted c := by
  obtain ⟨h1, h2, h3, h4⟩ := h
  unfold State.Handed at h1
  rw [← hq] at h1 h2 h3 h4
  exact ⟨h1, h2, h3, h4⟩

theorem State.StaysAt.unslotted (h : State.StaysAt c s t) (hs : s.Unslotted c) : t.Unslotted c := hs.of_sequencer h.sequencer

/-- R81: with no slot free, or no channel waiting, there is none to hand on. -/
theorem handSlotsFor_of_handed (n : Nat) (h : s.Handed) : handSlotsFor n s = s := by
  cases n with
  | zero => rfl
  | succ n =>
    unfold handSlotsFor
    split
    · rfl
    · next c rest hq =>
      obtain ⟨h0, h1⟩ := h (by simp [hq])
      have hnone : { s.sequencer with queue := rest }.take c = none := by
        obtain ⟨x, hx⟩ := Option.isSome_iff_exists.1 h0
        obtain ⟨y, hy⟩ := Option.isSome_iff_exists.1 h1
        simp [StartSequencer.take, hx, hy]
      rw [hnone]

theorem State.Unslotted.handSlots (h : s.Unslotted c) : s.handSlots = s := handSlotsFor_of_handed _ h.handed

/-- A channel that holds no slot has none to free. -/
theorem State.Unslotted.freeSlot (h : s.Unslotted c) : s.freeSlot c = s := by
  have hfreed : s.freed c = s := by
    unfold State.freed
    rw [if_neg h.not0, if_neg h.not1]
  rw [State.freeSlot_eq, hfreed, h.handSlots]

/-- An event that ends with no slot to hand on, in a state in which nothing follows an echo. -/
theorem State.Unslotted.settle (h : s.Unslotted c) (hb : ∀ b ∈ s.bind.bindings, b.source.toNat < 232) :
    s.settle = s.echoed := by
  rw [State.settle, h.handSlots]
  exact settleFor_of_noFollower _ _ hb

theorem State.staysAt_modChan (s : State) : State.StaysAt c s (s.modChan c f) :=
  ⟨rfl, rfl, fun _ hd => State.modChan_chan_ne _ hd _⟩

theorem State.staysAt_requestStatus (s : State) : State.StaysAt c s (s.requestStatus c) :=
  ⟨State.requestStatus_sequencer c s, State.requestStatus_bind c s, fun _ _ => State.requestStatus_chan c _ s⟩

theorem filter_bne_of_not_mem {l : List Channel} (h : c ∉ l) : l.filter (· != c) = l :=
  List.filter_eq_self.2 fun _ hd => bne_iff_ne.2 fun e => h (e ▸ hd)

theorem State.Unslotted.enter (h : s.Unslotted c) : State.StaysAt c s (s.enter c f) := by
  refine ⟨?_, State.enter_bind c f s, fun d hd => State.enter_chan_ne hd f s⟩
  rw [State.enter_sequencer]
  unfold State.dropClaims
  simp only [State.modChan_sequencer, beq_false_of_ne h.not0, beq_false_of_ne h.not1, Bool.and_false, Bool.false_eq_true,
    if_false, filter_bne_of_not_mem h.notQueued, ite_self]

theorem State.Unslotted.takeFault (h : s.Unslotted c) : State.StaysAt c s (s.takeFault c k) := by
  have hnote : ∀ f, State.StaysAt c s ((s.modChan c f).requestStatus c) := fun f =>
    s.staysAt_modChan.trans (State.staysAt_requestStatus _)
  have henter : ∀ f, State.StaysAt c s ((s.enter c f).requestStatus c) := fun f =>
    h.enter.trans (State.staysAt_requestStatus _)
  unfold State.takeFault
  dsimp only
  split
  · exact hnote _
  · split
    · cases (s.chan c).cfg.actionFor k with
      | latch => exact henter _
      | retry => exact henter _
      | report => exact hnote _
      | ignore => exact .refl s
    · exact .refl s

theorem State.Unslotted.handFault_eq (h : s.Unslotted c) : s.handFault c k = s.takeFault c k := by
  unfold State.handFault
  rw [h.freeSlot, ite_self]

theorem State.Unslotted.handFault (h : s.Unslotted c) : State.StaysAt c s (s.handFault c k) := by
  rw [h.handFault_eq]
  exact h.takeFault

/-! ### A slot handed on (R81) -/

/-- The Start Sequencer in which the slot of `c` has gone to `d`. -/
def StartSequencer.passed (c d : Channel) (rest : List Channel) (q : StartSequencer) : StartSequencer :=
  ⟨if q.slot0 = some c then some d else q.slot0, if q.slot0 = some c then q.slot1 else some d, rest⟩

/-- The state in which `d` has taken the slot of `c` and entered STARTING. -/
def State.passed (c d : Channel) (rest : List Channel) (s : State) : State :=
  ({ s with sequencer := s.sequencer.passed c d rest } : State).enter d (·.toStarting)

/-- R79 to R81: of a channel that holds a slot and one that waits: which they are not, and what the slot's passing leaves. -/
theorem State.SlotsSound.passed (h : s.SlotsSound) (hq : s.sequencer.queue = d :: rest)
    (hc : s.sequencer.slot0 = some c ∨ s.sequencer.slot1 = some c) :
    d ≠ c ∧ d ∉ rest ∧ c ∉ rest ∧ { (s.freed c).sequencer with queue := rest }.take d = some (s.sequencer.passed c d rest)
      ∧ (s.sequencer.passed c d rest).slot0.isSome ∧ (s.sequencer.passed c d rest).slot1.isSome
      ∧ (s.sequencer.passed c d rest).slot0 ≠ some c ∧ (s.sequencer.passed c d rest).slot1 ≠ some c := by
  have hstart : (s.chan c).state = .starting := hc.elim (h.slot0 c) (h.slot1 c)
  have hwait : ∀ x ∈ d :: rest, (s.chan x).state = .slotwait := fun x hx => (h.waiting x).1 (hq ▸ hx)
  have hne : ∀ x ∈ d :: rest, x ≠ c := fun x hx e => by
    have := hwait x hx
    rw [e, hstart] at this
    cases this
  have hdc : d ≠ c := hne d List.mem_cons_self
  have hsome : some d ≠ some c := fun e => hdc (Option.some.inj e)
  obtain ⟨hfull0, hfull1⟩ := h.handed (by simp [hq])
  have hn := h.once
  rw [hq] at hn
  refine ⟨hdc, (List.nodup_cons.1 hn).1, fun hm => hne c (List.mem_cons_of_mem _ hm) rfl, ?_⟩
  unfold StartSequencer.take StartSequencer.passed State.freed
  by_cases h0 : s.sequencer.slot0 = some c
  · have h1 := h.distinct c h0
    simp [h0, h1, hfull1, hdc]
  · have h1 := hc.resolve_left h0
    have hnone : s.sequencer.slot0.isNone = false := by simpa [Option.isSome_iff_ne_none] using hfull0
    simp [h0, h1, hfull0, hdc, hnone]

theorem State.passed_sequencer (hd : d ∉ rest) : (s.passed c d rest).sequencer = s.sequencer.passed c d rest := by
  unfold State.passed
  rw [State.enter_sequencer]
  unfold State.dropClaims
  dsimp only
  rw [State.modChan_chan_self]
  show (⟨_, _, (s.sequencer.passed c d rest).queue.filter (· != d)⟩ : StartSequencer) = _
  rw [show (s.sequencer.passed c d rest).queue = rest from rfl, filter_bne_of_not_mem hd]
  rfl

theorem State.passed_chan_self : (s.passed c d rest).chan d = (s.chan d).toStarting := State.enter_chan_self d _ _

theorem State.passed_chan_ne {e : Channel} (he : e ≠ d) : (s.passed c d rest).chan e = s.chan e := State.enter_chan_ne he _ _

theorem State.passed_bind : (s.passed c d rest).bind = s.bind := State.enter_bind d _ _

/-- R81, R90, R97: the slot that a channel frees goes to the first channel of the slot queue, which starts; the rest waits. -/
theorem State.SlotsSound.freeSlot (h : s.SlotsSound) (hq : s.sequencer.queue = d :: rest)
    (hc : s.sequencer.slot0 = some c ∨ s.sequencer.slot1 = some c) (hh : (s.chan d).prot.hot = false) :
    s.freeSlot c = s.passed c d rest ∧ (s.passed c d rest).Unslotted c := by
  obtain ⟨hdc, hd, hcr, htake, h0, h1, hn0, hn1⟩ := h.passed hq hc
  have hseq := State.passed_sequencer (s := s) (c := c) hd
  have hun : (s.passed c d rest).Unslotted c := by
    rw [← hseq] at h0 h1 hn0 hn1
    refine ⟨fun _ => ⟨h0, h1⟩, hn0, hn1, ?_⟩
    rw [hseq]
    exact hcr
  refine ⟨?_, hun⟩
  have hstart : State.startChannel d { s.freed c with sequencer := s.sequencer.passed c d rest } = s.passed c d rest := by
    have hcold : ((s.passed c d rest).chan d).prot.hot = false := by
      rw [State.passed_chan_self]
      exact hh
    exact if_neg (by rw [Bool.not_eq_true]; exact hcold)
  have hfirst : (s.freed c).sequencer.queue = d :: rest := hq
  rw [State.freeSlot_eq, State.handSlots, handSlotsFor, hfirst]
  dsimp only
  rw [htake]
  dsimp only
  rw [hstart]
  exact handSlotsFor_of_handed _ hun.handed

end Sys2Proof.Machine
end

-- ==== Proofs: stops ====
section
/-! PROOFS. SHORT and THERMAL (R97, R108, R114, R115, R120, R121, R127): O37. -/

/-! As in the model's tests, elaboration is synchronous: the many small proofs otherwise start more threads than the memory
limit of the check allows. -/

set_option Elab.async false

namespace Sys2Proof.Machine

variable {s t : State} {c d : Channel} {r q : ChannelRecord} {k : FaultKind} {i v : Nat} {x : Int} {rest : List Channel}

/-! ### The record that a sample leaves, for a fault -/

theorem ChannelRecord.sampleTaken_state (v : Nat) (r : ChannelRecord) : (r.sampleTaken v).state = r.state := by
  obtain ⟨p, y, n, h, -⟩ := r.sampleTaken_cases v
  rw [h]

theorem ChannelRecord.sampleTaken_cfg (v : Nat) (r : ChannelRecord) : (r.sampleTaken v).cfg = r.cfg := by
  obtain ⟨p, y, n, h, -⟩ := r.sampleTaken_cases v
  rw [h]

theorem ChannelRecord.sampleTaken_retryCount (v : Nat) (r : ChannelRecord) :
    (r.sampleTaken v).retryCount = r.retryCount := by
  obtain ⟨p, y, n, h, -⟩ := r.sampleTaken_cases v
  rw [h]

theorem ChannelRecord.sampleTaken_conducting (v : Nat) (r : ChannelRecord) :
    (r.sampleTaken v).conducting = r.conducting := by
  obtain ⟨p, y, n, h, -⟩ := r.sampleTaken_cases v
  rw [h]
  rfl

/-- What a fault stops is the record as it stood before the sample. -/
theorem ChannelRecord.Halts.of_sample (h : (r.sampleTaken v).Halts k q) : r.Halts k q := by
  obtain ⟨p, y, n, e, -⟩ := r.sampleTaken_cases v
  rw [e] at h
  obtain ⟨h1, h2, h3, h4, h5, h6, h7, h8, h9, h10, h11, h12, h13⟩ := h
  exact ⟨h1, h2, h3, h4, h5, h6, h7, h8, h9, h10, h11, h12, h13⟩

/-- R101: while the channel conducts, the reading is open only past the span. -/
theorem ChannelRecord.reading_conducting (hw : r.awaits = false) (hc : r.conducting = true) (i : Nat) :
    r.reading i = if r.span * 5 ≤ r.pwmPos * 255 then 0 else min i 1023 := by
  rw [ChannelRecord.reading_now hw, hc]
  simp

/-- R108: STARTING, ON and the on-phase of CYCLING. -/
theorem ChannelRecord.conducting_of
    (h : r.state = .starting ∨ r.state = .on ∨ ∃ left, r.state = .cycling ∧ r.phase = some ⟨true, left⟩) :
    r.conducting = true :=
  h.elim ChannelRecord.conducting_of_starting fun h => ChannelRecord.conducting_of_running (ChannelRecord.running_of h)

theorem ChannelRecord.of_conducting (h : r.conducting = true) :
    r.state = .starting ∨ r.state = .on ∨ ∃ left, r.state = .cycling ∧ r.phase = some ⟨true, left⟩ := by
  simp only [ChannelRecord.conducting, ChannelRecord.running, Bool.or_eq_true, beq_iff_eq] at h
  refine h.imp_right (Or.imp_right fun h => ?_)
  unfold ChannelRecord.inOnPhase at h
  split at h
  · next p hp =>
    obtain ⟨on, left⟩ := p
    simp only [Bool.and_eq_true, beq_iff_eq] at h
    exact ⟨left, h.1, h.2 ▸ hp⟩
  · cases h

/-! ### A sample that stops the channel -/

/-- R108: a second sample in a row at the threshold. -/
theorem State.sample_short (hw : (s.chan c).awaits = false) (hv : (s.chan c).reading i = v)
    (hf : (s.chan c).shortFound v = true)
    (hh : (((s.sampleTaken c v).handFault c .short).chan c).prot.hot = false) (hx : x < 170) :
    s.sample c i x = (s.sampleTaken c v).handFault c .short := by
  rw [State.sample_eq hw, hv, if_pos hf, State.readSwitch_normal hh hx]

/-- R114, R115: a reading of 170 °C after a sample that is no SHORT. -/
theorem State.sample_onset (hw : (s.chan c).awaits = false) (hv : (s.chan c).reading i = v)
    (hf : (s.chan c).shortFound v = false) (hh : (s.chan c).prot.hot = false) (hx : 170 ≤ x) :
    s.sample c i x = ((s.sampleTaken c v).modChan c (·.readHot true)).handFault c .thermal := by
  rw [State.sample_eq hw, hv, hf, if_neg Bool.false_ne_true, State.readSwitch_onset (State.sampleTaken_hot hh) hx]

theorem ChannelRecord.shortFound_iff : r.shortFound v = true
    ↔ r.conducting = true ∧ r.cfg.shortThreshold ≤ v ∧ r.prot.shortMark = true := by
  simp [ChannelRecord.shortFound, and_assoc]

theorem ChannelRecord.not_cooldown_of_conducting (h : r.conducting = true) : r.state ≠ .cooldown := fun e =>
  Bool.noConfusion (h.symm.trans (ChannelRecord.conducting_cooldown e))

/-- R108, R120, R121: what a SHORT leaves, where no channel waits for a slot. -/
theorem State.Plain.short (p : s.Plain) (hw : (s.chan c).awaits = false) (hv : (s.chan c).reading i = v)
    (hf : (s.chan c).shortFound v = true) (hh : (s.chan c).prot.hot = false) (hx : x < 170)
    (hm : (s.chan c).cfg.shortMode = .latch ∨ (s.chan c).cfg.shortMode = .retry) :
    Answers (exec (.currentSample c i x) s) fun t =>
      t.chan c = (((s.chan c).sampleTaken v).acted .short).followed ∧ (s.chan c).Halts .short (t.chan c)
        ∧ (t.sequencer.slot0 ≠ some c ∧ t.sequencer.slot1 ≠ some c) ∧ ∀ d, d ≠ c → t.chan d = (s.chan d).followed := by
  have htouch : State.Touches c s (s.sampleTaken c v) := State.touches_sampleTaken p.noQueue
  have hu := State.sampleTaken_chan_self c v s
  have hc : ((s.sampleTaken c v).chan c).conducting = true := by
    rw [hu, ChannelRecord.sampleTaken_conducting]
    exact (ChannelRecord.shortFound_iff.1 hf).1
  have hcool := ChannelRecord.not_cooldown_of_conducting hc
  have hact : ((s.sampleTaken c v).chan c).cfg.actionFor .short = .latch
      ∨ ((s.sampleTaken c v).chan c).cfg.actionFor .short = .retry := by
    rw [hu, ChannelRecord.sampleTaken_cfg]
    exact hm
  have hhot : (((s.sampleTaken c v).handFault c .short).chan c).prot.hot = false := by
    rw [State.handFault_acted (k := .short) htouch.noQueue hcool hc, ChannelRecord.acted_hot]
    exact State.sampleTaken_hot hh
  obtain ⟨hq, hothers⟩ := htouch.handed (k := .short) p hcool hc
  have hslots := State.handFault_noSlot (k := .short) htouch.noQueue hcool hc hact
  refine ⟨_, congrArg (fun u : State => Host.Outcome.next u.settle) (State.sample_short hw hv hf hhot hx), ?_, ?_, ?_, hothers⟩
  · rw [hq, hu]
  · rw [hq]
    have hhalts := (ChannelRecord.halts_acted hact).followed
    rw [hu] at hhalts ⊢
    exact hhalts.of_sample
  · rw [(htouch.trans (State.touches_handFault htouch.noQueue)).settle p]
    exact hslots

/-- R114, R121: what a THERMAL leaves, where no channel waits for a slot. -/
theorem State.Plain.thermal (p : s.Plain) (hw : (s.chan c).awaits = false) (hv : (s.chan c).reading i = v)
    (hf : (s.chan c).shortFound v = false) (hh : (s.chan c).prot.hot = false) (hx : 170 ≤ x)
    (hs : (s.chan c).state = .slotwait ∨ (s.chan c).state = .starting ∨ (s.chan c).state = .on
      ∨ (s.chan c).state = .cycling) :
    Answers (exec (.currentSample c i x) s) fun t =>
      t.chan c = ((((s.chan c).sampleTaken v).readHot true).retryStop .thermal).followed
        ∧ (s.chan c).Halts .thermal (t.chan c)
        ∧ (t.sequencer.slot0 ≠ some c ∧ t.sequencer.slot1 ≠ some c) ∧ ∀ d, d ≠ c → t.chan d = (s.chan d).followed := by
  have htouch : State.Touches c s ((s.sampleTaken c v).modChan c (·.readHot true)) :=
    (State.touches_sampleTaken p.noQueue).trans (State.touches_modChan (by exact p.noQueue))
  have hu : ((s.sampleTaken c v).modChan c (·.readHot true)).chan c = ((s.chan c).sampleTaken v).readHot true := by
    rw [State.modChan_chan_self, State.sampleTaken_chan_self]
  have hstate : (((s.chan c).sampleTaken v).readHot true).state = (s.chan c).state := (s.chan c).sampleTaken_state v
  have htakes : (((s.chan c).sampleTaken v).readHot true).takesFault .thermal = true := by
    unfold ChannelRecord.takesFault
    simpa [hstate, or_assoc] using hs
  have hcool : (((s.chan c).sampleTaken v).readHot true).state ≠ .cooldown := by
    rw [hstate]
    rcases hs with h | h | h | h <;> rw [h] <;> exact ChannelState.noConfusion
  obtain ⟨hq, hothers⟩ := htouch.handed (k := .thermal) p (by rw [hu]; exact hcool) (by rw [hu]; exact htakes)
  have hslots := State.handFault_noSlot htouch.noQueue (k := .thermal) (by rw [hu]; exact hcool) (by rw [hu]; exact htakes)
    (.inr rfl)
  rw [hu, ChannelRecord.acted_retry rfl] at hq
  have hhalts := (ChannelRecord.halts_retryStop .thermal (((s.chan c).sampleTaken v).readHot true)).followed
  refine ⟨_, congrArg (fun u : State => Host.Outcome.next u.settle) (State.sample_onset hw hv hf hh hx), hq, ?_, ?_, hothers⟩
  · rw [hq]
    obtain ⟨h1, h2, h3, h4, h5, h6, h7, h8, h9, h10, h11, h12, h13⟩ := hhalts
    exact ChannelRecord.Halts.of_sample ⟨h1, h2, h3, h4, h5, h6, h7, h8, h9, h10, h11, h12, h13⟩
  · rw [(htouch.trans (State.touches_handFault htouch.noQueue)).settle p]
    exact hslots

/-! ### THERMAL in COOLDOWN (R127) -/

/-- R127: in COOLDOWN a THERMAL is recorded and reported, and nothing else. -/
theorem State.handFault_cooldown (hs : (s.chan c).state = .cooldown) :
    s.handFault c .thermal = (s.modChan c (·.recordFault .thermal)).requestStatus c := by
  simp [State.handFault, State.takeFault, hs]

/-! ### The two STATUS of a start that SHORT ends (R81, R165) -/

theorem State.requestStatus_joins (hn : ∀ y ∈ s.line.queue, y.frame ≠ .status c) (hr : s.replyRoom) :
    s.requestStatus c = s.withFrame (.status c) := by
  have hnone : (s.txQueue.any fun y => y.frame == .status c) = false :=
    List.any_eq_false.2 fun y hy => by simpa using hn y hy
  unfold State.requestStatus
  have hd : s.discards (.status c) = false := State.discards_of_kind (Nat.succ_ne_zero 4) rfl
  rw [hnone, if_neg Bool.false_ne_true, State.send, State.offer_of_room rfl hd (State.hasRoom_of_replyRoom hr _)]
  rfl

theorem State.requestStatus_queued {y : TxEntry} (hy : y ∈ s.line.queue) (hf : y.frame = .status c) :
    s.requestStatus c = s := by
  unfold State.requestStatus
  rw [if_pos]
  exact List.any_eq_true.2 ⟨y, hy, by simp [hf]⟩

/-- R165: an entry that changes the state of a channel whose STATUS does not wait queues it. -/
theorem State.enter_joins {f : ChannelRecord → ChannelRecord} (hne : (f (s.chan c)).state ≠ (s.chan c).state)
    (hn : ∀ y ∈ s.line.queue, y.frame ≠ .status c) (hr : s.replyRoom) :
    (s.enter c f).line.queue = s.line.queue ++ [⟨.status c, 0, none⟩] := by
  have hchan : ((s.modChan c f).dropClaims c).chan c = f (s.chan c) := State.modChan_chan_self s c f
  unfold State.enter
  dsimp only
  rw [hchan, if_neg (by simpa using hne), State.requestStatus_joins (s := (s.modChan c f).dropClaims c) hn hr]
  rfl

theorem State.replyRoom_of_short (h : s.line.queue.length ≤ 1) : s.replyRoom := by
  have hle : ∀ p : TxEntry → Bool, s.queued p ≤ 1 := fun p => (List.length_filter_le p _).trans h
  have h1 := hle fun e => e.frame.kind != 1
  have h2 := hle fun e => e.frame.kind == 4 || e.frame.kind == 5
  exact ⟨by omega, by omega⟩

/-- R81, R120: the STATUS of the channel that takes the slot, and then that of the channel that a fault has stopped. -/
theorem State.passed_latch_queue (hne : d ≠ c) (hd : (s.chan d).state = .slotwait) (hc : (s.chan c).state = .starting)
    (hl : s.line.queue = []) (ht : ((s.chan c).takesFault k) = true) (hm : (s.chan c).cfg.actionFor k = .latch) :
    ((s.passed c d rest).takeFault c k).line.queue = [⟨.status d, 0, none⟩, ⟨.status c, 0, none⟩] := by
  have hfirst : (s.passed c d rest).line.queue = [⟨.status d, 0, none⟩] := by
    have hjoin := State.enter_joins (s := { s with sequencer := s.sequencer.passed c d rest }) (c := d) (f := (·.toStarting))
      (by rw [show ({ s with sequencer := s.sequencer.passed c d rest } : State).chan d = s.chan d from rfl, hd]
          exact ChannelState.noConfusion)
      (by simp [hl]) (State.replyRoom_of_short (by simp [hl]))
    unfold State.passed
    rw [hjoin]
    simp [hl]
  have hchan : (s.passed c d rest).chan c = s.chan c := State.passed_chan_ne (Ne.symm hne)
  have hsecond : ((s.passed c d rest).enter c (·.latch k)).line.queue
      = [⟨.status d, 0, none⟩, ⟨.status c, 0, none⟩] := by
    rw [State.enter_joins, hfirst]
    · rfl
    · rw [hchan, hc]
      exact ChannelState.noConfusion
    · simp [hfirst, hne]
    · exact State.replyRoom_of_short (by simp [hfirst])
  unfold State.takeFault
  dsimp only
  rw [hchan, if_neg (by simp [hc]), if_pos ht, hm]
  dsimp only
  rw [State.requestStatus_queued (y := ⟨.status c, 0, none⟩) (by rw [hsecond]; simp) rfl, hsecond]

/-! ### A SHORT whose slot another channel takes -/

theorem State.sameSlots_sampleTaken (c : Channel) (v : Nat) (s : State) : s.SameSlots (s.sampleTaken c v) :=
  (State.sameSlots_modChan (f := fun r => (r.takeSample v).startSample v) (ChannelRecord.startSample_state _ v)
    (ChannelRecord.Keeps.startSample v).cfg_eq).trans (State.sameSlots_keeps (.shortSample v))

theorem State.sampleTaken_chan_ne (hd : d ≠ c) (v : Nat) (s : State) : (s.sampleTaken c v).chan d = s.chan d :=
  (State.modChan_chan_ne _ hd _).trans (State.modChan_chan_ne _ hd _)

/-- R81, R97, R120: a SHORT of a start hands its slot on first. -/
theorem State.SlotsSound.short (h : s.SlotsSound) (hq : s.sequencer.queue = d :: rest)
    (hc : s.sequencer.slot0 = some c ∨ s.sequencer.slot1 = some c) (hh : (s.chan d).prot.hot = false)
    (hb : ∀ b ∈ s.bind.bindings, b.source.toNat < 232) (hw : (s.chan c).awaits = false) (hv : (s.chan c).reading i = v)
    (hf : (s.chan c).shortFound v = true) (hn : (s.chan c).prot.hot = false) (hx : x < 170)
    (hm : (s.chan c).cfg.shortMode = .latch) (hl : s.line.queue = []) :
    Answers (exec (.currentSample c i x) s) fun t =>
      t.chan c = (((s.chan c).sampleTaken v).latch .short).followed ∧ t.chan d = (s.chan d).toStarting.followed
        ∧ t.sequencer = s.sequencer.passed c d rest ∧ t.Unslotted c
        ∧ t.line.queue = [⟨.status d, 0, none⟩, ⟨.status c, 0, none⟩] := by
  have hu := (State.sameSlots_sampleTaken c v s).sound h
  obtain ⟨hdc, hdr, -⟩ := h.passed hq hc
  have hself : (s.sampleTaken c v).chan c = (s.chan c).sampleTaken v := State.sampleTaken_chan_self c v s
  have hother : (s.sampleTaken c v).chan d = s.chan d := State.sampleTaken_chan_ne hdc v s
  have hstart : ((s.chan c).sampleTaken v).state = .starting :=
    ((s.chan c).sampleTaken_state v).trans (hc.elim (h.slot0 c) (h.slot1 c))
  have hcond : ((s.chan c).sampleTaken v).conducting = true := ChannelRecord.conducting_of_starting hstart
  have hmode : ((s.chan c).sampleTaken v).cfg.actionFor .short = .latch := by
    rw [ChannelRecord.sampleTaken_cfg]
    exact hm
  obtain ⟨hfree, hun⟩ := hu.freeSlot hq hc (by rw [hother]; exact hh)
  have hfault : (s.sampleTaken c v).handFault c .short = ((s.sampleTaken c v).passed c d rest).takeFault c .short := by
    have htest : (((s.sampleTaken c v).chan c).state == .starting && ((s.sampleTaken c v).chan c).takesFault .short) = true := by
      rw [hself, Bool.and_eq_true, beq_iff_eq]
      exact ⟨hstart, hcond⟩
    rw [State.handFault, if_pos htest, hfree]
  have hpassed : ((s.sampleTaken c v).passed c d rest).chan c = (s.chan c).sampleTaken v :=
    (State.passed_chan_ne (Ne.symm hdc)).trans hself
  have hstays := hun.takeFault (k := .short)
  have hchan : (((s.sampleTaken c v).passed c d rest).takeFault c .short).chan c = ((s.chan c).sampleTaken v).latch .short := by
    rw [State.takeFault_acted, hpassed, ChannelRecord.acted_latch hmode]
    · rw [hpassed, hstart]
      exact ChannelState.noConfusion
    · rw [hpassed]
      exact hcond
  have hsettle : (((s.sampleTaken c v).passed c d rest).takeFault c .short).settle
      = (((s.sampleTaken c v).passed c d rest).takeFault c .short).echoed := by
    refine (hstays.unslotted hun).settle fun b hm => hb b ?_
    rw [hstays.bind, State.passed_bind] at hm
    exact hm
  have hhot : (((s.sampleTaken c v).handFault c .short).chan c).prot.hot = false := by
    obtain ⟨p, y, n, e, hp⟩ := (s.chan c).sampleTaken_cases v
    rw [hfault, hchan, e]
    exact hp.trans hn
  refine ⟨_, congrArg (fun u : State => Host.Outcome.next u.settle) (State.sample_short hw hv hf hhot hx), ?_⟩
  dsimp only
  rw [hfault, hsettle, State.echoed_chan, State.echoed_chan, State.echoed_sequencer, State.echoed_line, hchan,
    hstays.others d hdc, State.passed_chan_self, hother, hstays.sequencer, State.passed_sequencer hdr]
  refine ⟨rfl, rfl, rfl, (hstays.unslotted hun).of_sequencer rfl, ?_⟩
  refine State.passed_latch_queue hdc ?_ (by rw [hself]; exact hstart) hl (by rw [hself]; exact hcond)
    (by rw [hself]; exact hmode)
  rw [hother]
  exact (h.waiting d).1 (by rw [hq]; exact List.mem_cons_self)

/-- R127: what a THERMAL in COOLDOWN leaves of the record. -/
theorem ChannelRecord.recordFault_thermal (r : ChannelRecord) : r.recordFault .thermal
    = { r with faults := r.faults.add .thermal, events := { r.events with fault := true } } := by
  unfold ChannelRecord.recordFault
  rw [show (FaultKind.thermal == .openLoad) = false from rfl, Bool.or_false]

/-- R101, R127: a reading of 170 °C in COOLDOWN. -/
theorem State.Plain.thermal_cooldown (p : s.Plain) (hs : (s.chan c).state = .cooldown)
    (hl : (s.chan c).prot.lastTen.length = 10) (hh : (s.chan c).prot.hot = false) (hx : 170 ≤ x) :
    Answers (exec (.currentSample c i x) s) fun t =>
      t.chan c = { s.chan c with
        prot := { (s.chan c).prot with lastTen := (s.chan c).prot.lastTen.tail ++ [0], sampled := true, hot := true }
        faults := (s.chan c).faults.add .thermal, events := { (s.chan c).events with fault := true } }.followed
      ∧ (s.replyRoom → ∃ y ∈ t.line.queue, y.frame = .status c) ∧ ∀ d, d ≠ c → t.chan d = (s.chan d).followed := by
  have hopen := ChannelRecord.conducting_cooldown hs
  have hw := ChannelRecord.awaits_cooldown hs
  have hv : (s.chan c).reading i = 0 := by
    rw [ChannelRecord.reading_now hw, if_pos (.inl hopen)]
  have htouch : State.Touches c s ((s.sampleTaken c 0).modChan c (·.readHot true)) :=
    (State.touches_sampleTaken p.noQueue).trans (State.touches_modChan (by exact p.noQueue))
  have hu : ((s.sampleTaken c 0).modChan c (·.readHot true)).chan c = ((s.chan c).sampleTaken 0).readHot true := by
    rw [State.modChan_chan_self, State.sampleTaken_chan_self]
  have hend := htouch.trans (State.touches_handFault (k := .thermal) htouch.noQueue)
  have hfault : ((s.sampleTaken c 0).modChan c (·.readHot true)).handFault c .thermal
      = (((s.sampleTaken c 0).modChan c (·.readHot true)).modChan c (·.recordFault .thermal)).requestStatus c :=
    State.handFault_cooldown (by
      rw [hu]
      exact ((s.chan c).sampleTaken_state 0).trans hs)
  refine ⟨_, congrArg (fun u : State => Host.Outcome.next u.settle)
    (State.sample_onset hw hv (ChannelRecord.shortFound_open hopen) hh hx), ?_⟩
  dsimp only
  rw [hend.settle p]
  refine ⟨?_, fun hr => ?_, fun d hd => hend.echoed_others hd⟩
  · rw [State.echoed_chan, hfault, State.requestStatus_chan, State.modChan_chan_self, hu,
      ChannelRecord.sampleTaken_open hopen hl, ChannelRecord.recordFault_thermal]
    rfl
  · rw [State.echoed_line, hfault]
    exact State.requestStatus_waits (s := ((s.sampleTaken c 0).modChan c (·.readHot true)).modChan c _) hr c

end Sys2Proof.Machine

/-- Settles O37. -/
theorem shortAndThermalStopTheChannel : Obligations.ShortAndThermalStopTheChannel := by
  open Sys2Proof.Machine in
  intro c d i degrees rest s hh hend r conducts v short off latched retries alone
  have hw : r.awaits = false := ChannelRecord.awaits_of_not_ending hend
  have hread : r.conducting = true → r.reading i = v := fun h => ChannelRecord.reading_conducting hw h i
  have hfound : short → r.reading i = v ∧ r.shortFound v = true := fun ⟨hc, hv, hm⟩ =>
    ⟨hread (ChannelRecord.conducting_of hc), ChannelRecord.shortFound_iff.2 ⟨ChannelRecord.conducting_of hc, hv, hm⟩⟩
  have hnone : ¬short → r.shortFound (r.reading i) = false := fun hn => Bool.eq_false_iff.2 fun hf => by
    obtain ⟨hc, hv, hm⟩ := ChannelRecord.shortFound_iff.1 hf
    exact hn ⟨ChannelRecord.of_conducting hc, hread hc ▸ hv, hm⟩
  have hoff : ∀ {k : FaultKind} {t : State}, k ≠ .openLoad → r.Halts k (t.chan c) →
      t.sequencer.slot0 ≠ some c ∧ t.sequencer.slot1 ≠ some c → off t := fun hk h hs =>
    ⟨h.booking, h.span, h.throttled, h.cleanRun, h.start, h.phase, h.idClass, 
      h.idDue.trans (by rw [beq_false_of_ne hk, Bool.or_false]), hs.1, hs.2,
      h.fault, h.eff, h.duty⟩
  have hretries : ∀ {k : FaultKind} {t : State} {q : ChannelRecord}, k ≠ .openLoad → q.cfg = r.cfg →
      q.retryCount = r.retryCount → t.chan c = (q.retryStop k).followed → r.Halts k (t.chan c) →
      t.sequencer.slot0 ≠ some c ∧ t.sequencer.slot1 ≠ some c → retries k t := fun {k t q} hk hcfg hn hq h hs => by
    refine ⟨fun hpast => ?_, fun hin => ?_⟩
    · rw [ChannelRecord.retryStop_past (by rw [hcfg, hn]; exact Nat.lt_succ_iff.1 hpast)] at hq
      refine ⟨hoff hk h hs, by rw [hq]; rfl, h.active, h.faults, ?_⟩
      rw [hq]
      exact congrArg (· + 1) hn
    · rw [ChannelRecord.retryStop_within (by rw [hcfg, hn]; exact hin)] at hq
      refine ⟨hoff hk h hs, by rw [hq]; rfl, h.active, h.faults, ?_, ?_⟩
      · rw [hq]
        exact congrArg (· + 1) hn
      · rw [hq]
        exact congrArg (fun k : ChannelConfig => some (k.retryTime * 100)) hcfg
  refine ⟨fun p hs hx hm => ?_, fun p hs hx hm => ?_, fun p hs hx hst => ?_,
    fun p hs hl hx => State.Plain.thermal_cooldown p hs hl hh hx, fun hb hsound hq hd hc hl hs hx hm => ?_⟩
  · obtain ⟨hv, hf⟩ := hfound hs
    obtain ⟨t, he, hq, hhalts, hslots, hothers⟩ := p.short hw hv hf hh hx (.inl hm)
    rw [ChannelRecord.acted_latch (by rw [ChannelRecord.sampleTaken_cfg]; exact hm)] at hq
    refine ⟨t, he, ⟨hoff FaultKind.noConfusion hhalts hslots, ?_, hhalts.active, hhalts.faults, ?_⟩, hothers⟩
    · rw [hq]
      rfl
    · rw [hq]
      exact ChannelRecord.sampleTaken_retryCount v r
  · obtain ⟨hv, hf⟩ := hfound hs
    obtain ⟨t, he, hq, hhalts, hslots, hothers⟩ := p.short hw hv hf hh hx (.inr hm)
    rw [ChannelRecord.acted_retry (by rw [ChannelRecord.sampleTaken_cfg]; exact hm)] at hq
    exact ⟨t, he, hretries FaultKind.noConfusion (ChannelRecord.sampleTaken_cfg v r) (ChannelRecord.sampleTaken_retryCount v r)
      hq hhalts hslots, hothers⟩
  · obtain ⟨t, he, hq, hhalts, hslots, hothers⟩ := p.thermal hw rfl (hnone hs) hh hx hst
    refine ⟨t, he, hretries FaultKind.noConfusion ?_ ?_ hq hhalts hslots, ?_, hothers⟩
    · exact ChannelRecord.sampleTaken_cfg _ r
    · exact ChannelRecord.sampleTaken_retryCount _ r
    · have hhot := ChannelRecord.acted_hot .thermal ((r.sampleTaken (r.reading i)).readHot true)
      rw [ChannelRecord.acted_retry rfl] at hhot
      rw [hq]
      exact hhot
  · obtain ⟨hv, hf⟩ := hfound hs
    obtain ⟨t, he, hq, hqd, hseq, hun, hline⟩ := hsound.short hq hc hd hb hw hv hf hh hx hm hl
    have hhalts : r.Halts .short (t.chan c) := by
      rw [hq]
      exact ((r.sampleTaken v).halts_latch .short).followed.of_sample
    refine ⟨t, he, ⟨hoff FaultKind.noConfusion hhalts ⟨hun.not0, hun.not1⟩, ?_, hhalts.active, hhalts.faults, ?_⟩, ?_, hseq, ?_⟩
    · rw [hq]
      rfl
    · rw [hq]
      exact ChannelRecord.sampleTaken_retryCount v r
    · rw [hqd]
      rfl
    · rw [hline]
      rfl
end

-- ==== Proofs: windows ====
section
/-! PROOFS. The window end (R81, R90 to R98, R120, R121): O35. -/

/-! As in the model's tests, elaboration is synchronous: the many small proofs otherwise start more threads than the memory
limit of the check allows. -/

set_option Elab.async false

namespace Sys2Proof.Machine

variable {s t : State} {c d : Channel} {r q : ChannelRecord} {k : FaultKind} {u : StartRecord} {i v : Nat} {x : Int}
  {rest : List Channel} {m : LoadClass}

/-! ### The record that a window end leaves (R90) -/

/-- R90 step 4: a start that has not been stopped runs on. -/
def ChannelRecord.startEnded (r : ChannelRecord) : ChannelRecord :=
  if r.state != .starting then r else if r.throttled then r.toCyclingFromStart else r.toOnFromStart

/-- R94, R95: the record once the class `m` has been stored and judged. -/
def ChannelRecord.classJudged (m : LoadClass) (r : ChannelRecord) : ChannelRecord :=
  let q := { r with idClass := m }
  if m = .openLoad then q.acted .openLoad
  else if r.idDue && !r.cfg.accepted.accepts m then q.acted .mismatch
  else { q with idDue := false }

/-- R90: the record once its slot has been freed, after the other three steps. -/
def ChannelRecord.windowEnded (u : StartRecord) (r : ChannelRecord) : ChannelRecord :=
  if u.failed then r.acted .startfail else (r.classJudged (r.identified u)).startEnded

theorem State.judgeClass_chan (hu : s.Unslotted c) (hs : (s.chan c).state = .starting) (m : LoadClass) :
    State.StaysAt c s ((s.modChan c fun r => { r with idClass := m }).judgeClass c m)
      ∧ ((s.modChan c fun r => { r with idClass := m }).judgeClass c m).chan c = (s.chan c).classJudged m := by
  have hstays : State.StaysAt c s (s.modChan c fun r => { r with idClass := m }) := s.staysAt_modChan
  have hw := hstays.unslotted hu
  have hchan : (s.modChan c fun r => { r with idClass := m }).chan c = { s.chan c with idClass := m } :=
    State.modChan_chan_self s c _
  generalize s.modChan c (fun r => { r with idClass := m }) = w at hstays hw hchan
  have hstarting : (w.chan c).state = .starting := by
    rw [hchan]
    exact hs
  have hfault : ∀ k, (w.chan c).takesFault k = true →
      State.StaysAt c s (w.handFault c k) ∧ (w.handFault c k).chan c = ({ s.chan c with idClass := m } : ChannelRecord).acted k := by
    intro k ht
    refine ⟨hstays.trans hw.handFault, ?_⟩
    rw [hw.handFault_eq, State.takeFault_acted (by rw [hstarting]; exact ChannelState.noConfusion) ht, hchan]
  unfold State.judgeClass ChannelRecord.classJudged
  dsimp only
  rw [hchan]
  split
  · exact hfault .openLoad (by simp [ChannelRecord.takesFault, hstarting])
  · split
    · exact hfault .mismatch (by simp [ChannelRecord.takesFault, hstarting])
    · refine ⟨hstays.trans w.staysAt_modChan, ?_⟩
      rw [State.modChan_chan_self, hchan]

theorem State.endStart_chan (hu : s.Unslotted c) :
    State.StaysAt c s (s.endStart c) ∧ (s.endStart c).chan c = (s.chan c).startEnded := by
  unfold State.endStart ChannelRecord.startEnded
  dsimp only
  split
  · exact ⟨.refl s, rfl⟩
  · split
    · exact ⟨hu.enter, State.enter_chan_self c _ s⟩
    · exact ⟨hu.enter, State.enter_chan_self c _ s⟩

/-- R90: a window end after its first step. -/
theorem State.windowEnd_chan (hu : (s.freeSlot c).Unslotted c) (hc : (s.freeSlot c).chan c = s.chan c)
    (hs : (s.chan c).state = .starting) :
    State.StaysAt c (s.freeSlot c) (s.windowEnd c u) ∧ (s.windowEnd c u).chan c = (s.chan c).windowEnded u := by
  have hstarting : ((s.freeSlot c).chan c).state = .starting := by
    rw [hc]
    exact hs
  unfold State.windowEnd ChannelRecord.windowEnded
  dsimp only
  split
  · refine ⟨hu.handFault, ?_⟩
    rw [hu.handFault_eq, State.takeFault_acted, hc]
    · rw [hstarting]
      exact ChannelState.noConfusion
    · simp [ChannelRecord.takesFault, hstarting]
  · obtain ⟨hstays, hjudged⟩ := State.judgeClass_chan hu hstarting (((s.freeSlot c).chan c).identified u)
    obtain ⟨hstays', hended⟩ := State.endStart_chan (hstays.unslotted hu)
    refine ⟨hstays.trans hstays', ?_⟩
    rw [hended, hjudged, hc]

/-- R97: with no channel waiting a freed slot stays free. -/
theorem State.freeSlot_unslotted (h : s.sequencer.queue = []) (c : Channel) : (s.freeSlot c).Unslotted c := by
  have hfreed : s.freeSlot c = s.freed c := State.handSlots_of_noQueue (s := s.freed c) h
  have hslot : ∀ {y : Option Channel}, (if y = some c then none else y) ≠ some c := fun {y} => by
    split
    · exact nofun
    · assumption
  rw [hfreed]
  exact ⟨fun hn => absurd h hn, hslot, hslot, by rw [show (s.freed c).sequencer.queue = [] from h]; exact List.not_mem_nil⟩

/-! ### What it leaves, case by case (R91 to R96) -/

theorem ChannelRecord.windowEnded_failed (h : u.failed = true) : r.windowEnded u = r.acted .startfail := if_pos h

theorem ChannelRecord.windowEnded_judged (h : ¬u.failed = true) :
    r.windowEnded u = (r.classJudged (r.identified u)).startEnded := if_neg h

theorem ChannelRecord.classJudged_accepted (hm : m ≠ .openLoad) (h : r.cfg.accepted.accepts m = true ∨ r.idDue = false) :
    r.classJudged m = { r with idClass := m, idDue := false } := by
  unfold ChannelRecord.classJudged
  dsimp only
  rw [if_neg hm, if_neg]
  rcases h with h | h <;> simp [h]

/-- R94: a class that the channel does not accept. -/
theorem ChannelRecord.classJudged_mismatch (hm : m ≠ .openLoad) (h : ¬r.cfg.accepted.accepts m = true) (hd : r.idDue = true) :
    r.classJudged m = ({ r with idClass := m } : ChannelRecord).latch .mismatch := by
  unfold ChannelRecord.classJudged
  dsimp only
  rw [if_neg hm, if_pos (by simp [h, hd]), ChannelRecord.acted_latch rfl]

theorem ChannelRecord.startEnded_of_stopped (h : r.state ≠ .starting) : r.startEnded = r := if_pos (by simpa using h)

/-- R90 step 4, R17, R145, R147: `q` is the record `r` of a start that runs on. -/
structure ChannelRecord.RunsOn (r q : ChannelRecord) : Prop where
  state : q.state = if r.throttled then .cycling else .on
  booking : q.booking = r.booking
  cleanRun : q.cleanRun = some 0
  start : q.start = none
  idClass : q.idClass = r.idClass
  span : q.span = if r.throttled then 255 else if r.cfg.dutyMode = .pwm then r.duty.toNat else 255
  idDue : q.idDue = r.idDue
  faults : q.faults = r.faults

theorem ChannelRecord.startEnded_runsOn (hs : r.state = .starting) : r.RunsOn r.startEnded := by
  unfold ChannelRecord.startEnded
  rw [if_neg (by simp [hs])]
  cases hth : r.throttled with
  | true => exact ⟨by rw [hth]; rfl, rfl, rfl, rfl, rfl, by rw [hth]; rfl, rfl, rfl⟩
  | false => exact ⟨by rw [hth]; rfl, rfl, rfl, rfl, rfl, by rw [hth]; exact r.onSpan_eq, rfl, rfl⟩

/-- R94, R95, R120: `q` is the record `r` of a start whose class `m` has latched the channel. -/
structure ChannelRecord.Latches (k : FaultKind) (m : LoadClass) (r q : ChannelRecord) : Prop where
  halts : ChannelRecord.Halts k { r with idClass := m } q
  state : q.state = .latched
  count : q.retryCount = r.retryCount

theorem ChannelRecord.acted_idClass (k : FaultKind) (r : ChannelRecord) : (r.acted k).idClass = r.idClass := by
  unfold ChannelRecord.acted ChannelRecord.retryStop
  dsimp only
  split
  · rfl
  · split <;> rfl
  · rfl
  · rfl

theorem ChannelRecord.acted_idDue (hk : k ≠ .openLoad) (r : ChannelRecord) : (r.acted k).idDue = r.idDue := by
  have hrecord : (r.recordFault k).idDue = r.idDue := by
    unfold ChannelRecord.recordFault
    rw [beq_false_of_ne hk, Bool.or_false]
  unfold ChannelRecord.acted ChannelRecord.retryStop
  dsimp only
  split
  · exact hrecord
  · split <;> exact hrecord
  · exact hrecord
  · rfl

theorem ChannelRecord.classJudged_idClass (m : LoadClass) (r : ChannelRecord) : (r.classJudged m).idClass = m := by
  unfold ChannelRecord.classJudged
  dsimp only
  split
  · exact ChannelRecord.acted_idClass _ _
  · split
    · exact ChannelRecord.acted_idClass _ _
    · rfl

theorem ChannelRecord.startEnded_idClass (r : ChannelRecord) : r.startEnded.idClass = r.idClass := by
  unfold ChannelRecord.startEnded
  split
  · rfl
  · split <;> rfl

/-- R91 to R96: `q` is the record `r` of a channel in STARTING once its window end has been taken. -/
structure ChannelRecord.WindowJudged (u : StartRecord) (r q : ChannelRecord) : Prop where
  unjudged : u.failed = true → q.idClass = r.idClass ∧ q.idDue = r.idDue
  latched : u.failed = true → r.cfg.startfailMode = .latch →
    r.Halts .startfail q ∧ q.state = .latched ∧ q.retryCount = r.retryCount
  past : u.failed = true → r.cfg.startfailMode = .retry → r.cfg.retryLimit ≤ r.retryCount →
    r.Halts .startfail q ∧ q.state = .latched ∧ q.retryCount = r.retryCount + 1
  within : u.failed = true → r.cfg.startfailMode = .retry → r.retryCount < r.cfg.retryLimit →
    r.Halts .startfail q ∧ q.state = .cooldown ∧ q.retryCount = r.retryCount + 1 ∧ q.retry = some (r.cfg.retryTime * 100)
  stored : ¬u.failed = true → q.idClass = r.identified u
  accepted : ¬u.failed = true → r.identified u ≠ .openLoad →
    r.cfg.accepted.accepts (r.identified u) = true ∨ r.idDue = false →
    ChannelRecord.RunsOn { r with idClass := r.identified u, idDue := false } q
  mismatch : ¬u.failed = true → r.identified u ≠ .openLoad → ¬r.cfg.accepted.accepts (r.identified u) = true →
    r.idDue = true → r.Latches .mismatch (r.identified u) q
  openLatched : ¬u.failed = true → r.identified u = .openLoad → r.cfg.openMode = .latch →
    r.Latches .openLoad .openLoad q
  openReported : ¬u.failed = true → r.identified u = .openLoad → r.cfg.openMode = .report →
    (ChannelRecord.recordFault .openLoad { r with idClass := .openLoad }).RunsOn q
  openIgnored : ¬u.failed = true → r.identified u = .openLoad → r.cfg.openMode = .ignore →
    ChannelRecord.RunsOn { r with idClass := .openLoad } q

theorem ChannelRecord.windowJudged (hs : r.state = .starting) (u : StartRecord) : r.WindowJudged u (r.windowEnded u) := by
  have hopen : r.identified u = .openLoad → ¬u.failed = true →
      r.windowEnded u = (ChannelRecord.acted .openLoad { r with idClass := .openLoad }).startEnded := fun h hf => by
    rw [ChannelRecord.windowEnded_judged hf, h]
    rfl
  have hstop : ∀ {k : FaultKind} {q : ChannelRecord}, (q.latch k).startEnded = q.latch k :=
    ChannelRecord.startEnded_of_stopped ChannelState.noConfusion
  refine ⟨fun hf => ?_, fun hf hm => ?_, fun hf hm hn => ?_, fun hf hm hn => ?_, fun hf => ?_, fun hf hk ha => ?_,
    fun hf hk ha hd => ?_, fun hf hk hm => ?_, fun hf hk hm => ?_, fun hf hk hm => ?_⟩
  · rw [ChannelRecord.windowEnded_failed hf]
    exact ⟨ChannelRecord.acted_idClass _ r, ChannelRecord.acted_idDue FaultKind.noConfusion r⟩
  · rw [ChannelRecord.windowEnded_failed hf, ChannelRecord.acted_latch (by exact hm)]
    exact ⟨ChannelRecord.halts_latch _ r, rfl, rfl⟩
  · have hhalts := ChannelRecord.halts_retryStop .startfail r
    rw [ChannelRecord.windowEnded_failed hf, ChannelRecord.acted_retry (by exact hm)]
    rw [ChannelRecord.retryStop_past hn] at hhalts ⊢
    exact ⟨hhalts, rfl, rfl⟩
  · have hhalts := ChannelRecord.halts_retryStop .startfail r
    rw [ChannelRecord.windowEnded_failed hf, ChannelRecord.acted_retry (by exact hm)]
    rw [ChannelRecord.retryStop_within hn] at hhalts ⊢
    exact ⟨hhalts, rfl, rfl, rfl⟩
  · rw [ChannelRecord.windowEnded_judged hf, ChannelRecord.startEnded_idClass, ChannelRecord.classJudged_idClass]
  · rw [ChannelRecord.windowEnded_judged hf, ChannelRecord.classJudged_accepted hk ha]
    exact ChannelRecord.startEnded_runsOn hs
  · rw [ChannelRecord.windowEnded_judged hf, ChannelRecord.classJudged_mismatch hk ha hd, hstop]
    exact ⟨ChannelRecord.halts_latch _ _, rfl, rfl⟩
  · rw [hopen hk hf, ChannelRecord.acted_latch (by exact hm), hstop]
    exact ⟨ChannelRecord.halts_latch _ _, rfl, rfl⟩
  · rw [hopen hk hf, ChannelRecord.acted_report (by exact hm)]
    exact ChannelRecord.startEnded_runsOn hs
  · rw [hopen hk hf, ChannelRecord.acted_ignore (by exact hm)]
    exact ChannelRecord.startEnded_runsOn hs

theorem ChannelRecord.Halts.stopped {n : Nat} (h : r.Halts k q) (hs : q.state = .latched) (hn : q.retryCount = n) :
    q.state = .latched ∧ q.active = some k ∧ q.booking = 0 ∧ q.span = 0 ∧ q.faults = r.faults.add k
      ∧ q.events.fault = true ∧ q.retryCount = n :=
  ⟨hs, h.active, h.booking, h.span, h.faults, h.fault, hn⟩

theorem ChannelRecord.RunsOn.runs (h : r.RunsOn q) (hm : r.idClass = m) :
    q.state = (if r.throttled then .cycling else .on) ∧ q.booking = r.booking ∧ q.cleanRun = some 0 ∧ q.start = none
      ∧ q.idClass = m ∧ q.span = if r.throttled then 255 else if r.cfg.dutyMode = .pwm then r.duty.toNat else 255 :=
  ⟨h.state, h.booking, h.cleanRun, h.start, h.idClass.trans hm, h.span⟩

theorem LoadSet.accepts_iff (a : LoadSet) (m : LoadClass) : ((m = .filament ∧ a.filament = true)
    ∨ (m = .motor ∧ a.motor = true) ∨ (m = .resistive ∧ a.resistive = true)) ↔ a.accepts m = true := by
  cases m <;> simp [LoadSet.accepts]

theorem StartRecord.failed_iff (u : StartRecord) :
    4 ≤ (u.limited.filter fun p => 2 * u.window ≤ p + 8).length ↔ u.failed = true := decide_eq_true_iff.symm

/-! ### The judgement does not read the protection part, the start record and the span -/

theorem ChannelRecord.Halts.beside {p p' : Protection} {y : Option StartRecord} {n : Nat}
    (h : ChannelRecord.Halts k { r with prot := p, start := y, span := n } q) :
    r.Halts k (ChannelRecord.followed { q with prot := p' }) := by
  obtain ⟨h1, h2, h3, h4, h5, h6, h7, h8, h9, h10, h11, h12, h13⟩ := h
  exact ⟨h1, h2, h3, h4, h5, h6, h7, h8, h9, h10, h11, h12, h13⟩

theorem ChannelRecord.RunsOn.beside {p p' : Protection} {y : Option StartRecord} {n : Nat}
    (h : ChannelRecord.RunsOn { r with prot := p, start := y, span := n } q) :
    r.RunsOn (ChannelRecord.followed { q with prot := p' }) := by
  obtain ⟨h1, h2, h3, h4, h5, h6, h7, h8⟩ := h
  exact ⟨h1, h2, h3, h4, h5, h6, h7, h8⟩

theorem ChannelRecord.Latches.beside {p p' : Protection} {y : Option StartRecord} {n : Nat}
    (h : ChannelRecord.Latches k m { r with prot := p, start := y, span := n } q) :
    r.Latches k m (ChannelRecord.followed { q with prot := p' }) :=
  ⟨ChannelRecord.Halts.beside (r := { r with idClass := m }) h.halts, h.state, h.count⟩

theorem ChannelRecord.WindowJudged.beside {p p' : Protection} {y : Option StartRecord} {n : Nat}
    (h : ChannelRecord.WindowJudged u { r with prot := p, start := y, span := n } q) :
    r.WindowJudged u (ChannelRecord.followed { q with prot := p' }) where
  unjudged := h.unjudged
  latched hf hm := (h.latched hf hm).imp_left ChannelRecord.Halts.beside
  past hf hm hn := (h.past hf hm hn).imp_left ChannelRecord.Halts.beside
  within hf hm hn := (h.within hf hm hn).imp_left ChannelRecord.Halts.beside
  stored := h.stored
  accepted hf hk ha := ChannelRecord.RunsOn.beside (r := { r with idClass := _, idDue := _ }) (h.accepted hf hk ha)
  mismatch hf hk ha hd := (h.mismatch hf hk ha hd).beside
  openLatched hf hk hm := (h.openLatched hf hk hm).beside
  openReported hf hk hm := ChannelRecord.RunsOn.beside (r := ChannelRecord.recordFault .openLoad { r with idClass := _ })
    (h.openReported hf hk hm)
  openIgnored hf hk hm := ChannelRecord.RunsOn.beside (r := { r with idClass := _ }) (h.openIgnored hf hk hm)

/-! ### What it keeps of the protection part -/

/-- The static fields and the switch reading stand, and a clear short mark stays clear. -/
structure ChannelRecord.SameSwitch (r q : ChannelRecord) : Prop where
  cfg : q.cfg = r.cfg
  hot : q.prot.hot = r.prot.hot
  mark : r.prot.shortMark = false → q.prot.shortMark = false

theorem ChannelRecord.SameSwitch.trans {p : ChannelRecord} (h : r.SameSwitch q) (k : q.SameSwitch p) : r.SameSwitch p :=
  ⟨k.cfg.trans h.cfg, k.hot.trans h.hot, fun hm => k.mark (h.mark hm)⟩

theorem ChannelRecord.sameSwitch_acted (k : FaultKind) (r : ChannelRecord) : r.SameSwitch (r.acted k) := by
  unfold ChannelRecord.acted ChannelRecord.retryStop
  dsimp only
  split
  · exact ⟨rfl, rfl, fun _ => rfl⟩
  · split <;> exact ⟨rfl, rfl, fun _ => rfl⟩
  · exact ⟨rfl, rfl, id⟩
  · exact ⟨rfl, rfl, id⟩

theorem ChannelRecord.sameSwitch_windowEnded (u : StartRecord) (r : ChannelRecord) : r.SameSwitch (r.windowEnded u) := by
  have hclass : ∀ m, r.SameSwitch { r with idClass := m } := fun _ => ⟨rfl, rfl, id⟩
  have hjudged : ∀ m, r.SameSwitch (r.classJudged m) := fun m => by
    unfold ChannelRecord.classJudged
    dsimp only
    split
    · exact (hclass m).trans (ChannelRecord.sameSwitch_acted _ _)
    · split
      · exact (hclass m).trans (ChannelRecord.sameSwitch_acted _ _)
      · exact ⟨rfl, rfl, id⟩
  have hended : ∀ q : ChannelRecord, q.SameSwitch q.startEnded := fun q => by
    unfold ChannelRecord.startEnded
    split
    · exact ⟨rfl, rfl, id⟩
    · split <;> exact ⟨rfl, rfl, id⟩
  unfold ChannelRecord.windowEnded
  split
  · exact r.sameSwitch_acted _
  · exact (hjudged _).trans (hended _)

/-! ### WINDOW_END -/

theorem exec_windowEnd (hs : (s.chan c).state = .starting) (hu : (s.chan c).start = some u) : exec (.windowEnd c) s
    = if u.left ≠ 0 then .next s
      else if u.lacksLast && !u.ending then .next (s.modChan c fun r => { r with start := some { u with ending := true } })
      else .next (s.windowEnd c u).settle := by
  show execWindowEnd c s = _
  unfold execWindowEnd
  rw [hs, hu]

theorem StartRecord.lacksLast_iff (u : StartRecord) : u.lacksLast = true ↔ u.samples + 1 = u.window * 10 := by
  simp [StartRecord.lacksLast]

/-- R90: a window end that is taken. -/
theorem exec_windowEnd_taken (hs : (s.chan c).state = .starting) (hu : (s.chan c).start = some u) (hl : u.left = 0)
    (h : u.samples + 1 ≠ u.window * 10 ∨ u.ending = true) : exec (.windowEnd c) s = .next (s.windowEnd c u).settle := by
  rw [exec_windowEnd hs hu, if_neg (not_not.2 hl), if_neg]
  rw [Bool.and_eq_true, StartRecord.lacksLast_iff, Bool.not_eq_true']
  rintro ⟨hn, he⟩
  exact h.elim (absurd hn) fun h => Bool.noConfusion (he.symm.trans h)

/-- R90: a window end where no channel waits for a slot. -/
theorem State.Plain.windowEnd (p : s.Plain) (hs : (s.chan c).state = .starting) (u : StartRecord) :
    (s.windowEnd c u).chan c = (s.chan c).windowEnded u ∧ (s.windowEnd c u).Unslotted c
      ∧ (s.windowEnd c u).bind = s.bind ∧ ∀ d, d ≠ c → (s.windowEnd c u).chan d = s.chan d := by
  have hun := State.freeSlot_unslotted p.noQueue c
  obtain ⟨hstays, hchan⟩ := State.windowEnd_chan (u := u) hun (State.freeSlot_chan p.noQueue c c) hs
  refine ⟨hchan, hstays.unslotted hun, hstays.bind.trans (State.touches_freeSlot p.noQueue).bind, fun d hd => ?_⟩
  rw [hstays.others d hd, State.freeSlot_chan p.noQueue]

/-- R81, R90: a window end that hands its slot on. -/
theorem State.SlotsSound.windowEnd (h : s.SlotsSound) (hq : s.sequencer.queue = d :: rest)
    (hc : s.sequencer.slot0 = some c ∨ s.sequencer.slot1 = some c) (hh : (s.chan d).prot.hot = false)
    (hb : ∀ b ∈ s.bind.bindings, b.source.toNat < 232) (hs : (s.chan c).state = .starting) (u : StartRecord) :
    (s.windowEnd c u).settle.sequencer = s.sequencer.passed c d rest
      ∧ (s.windowEnd c u).settle.chan d = (s.chan d).toStarting.followed := by
  obtain ⟨hdc, hdr, -⟩ := h.passed hq hc
  obtain ⟨hfree, hun⟩ := h.freeSlot hq hc hh
  have hchan : (s.freeSlot c).chan c = s.chan c := by
    rw [hfree, State.passed_chan_ne (Ne.symm hdc)]
  rw [← hfree] at hun
  obtain ⟨hstays, -⟩ := State.windowEnd_chan (u := u) hun hchan hs
  have hsettle : (s.windowEnd c u).settle = (s.windowEnd c u).echoed := (hstays.unslotted hun).settle fun b hm => hb b (by
    rw [hstays.bind, hfree, State.passed_bind] at hm
    exact hm)
  rw [hsettle, State.echoed_sequencer, State.echoed_chan, hstays.sequencer, hstays.others d hdc, hfree,
    State.passed_sequencer hdr, State.passed_chan_self]
  exact ⟨rfl, rfl⟩

/-! ### The sample that a window end waits for (R98, log 41) -/

/-- R108: a sample that is no SHORT changes the short mark at most. -/
theorem ChannelRecord.shortSample_quiet (h : r.shortFound v = false) :
    ∃ p, r.shortSample v = { r with prot := p } ∧ p.hot = r.prot.hot := by
  cases hc : r.conducting with
  | true => exact ⟨_, ChannelRecord.shortSample_judged hc h, rfl⟩
  | false => exact ⟨r.prot, ChannelRecord.shortSample_open hc v, rfl⟩

theorem ChannelRecord.SameSwitch.shortFound (h : r.SameSwitch q) (hv : v < r.cfg.shortThreshold ∨ r.prot.shortMark = false) :
    q.shortFound v = false :=
  ChannelRecord.shortFound_of_none (hv.imp (fun hv => h.cfg ▸ hv) h.mark)

theorem ChannelRecord.awaits_of_ending (hs : r.state = .starting) (hu : r.start = some u) (he : u.ending = true) :
    r.awaits = true := by
  rw [ChannelRecord.awaits, hu, hs]
  exact he

/-- R101: the sample that a window end waits for belongs to the millisecond before. -/
theorem ChannelRecord.reading_awaited (hs : r.state = .starting) (hu : r.start = some u) (he : u.ending = true) (i : Nat) :
    r.reading i = if r.span * 5 ≤ (r.pwmPos - 1) * 255 then 0 else min i 1023 := by
  rw [ChannelRecord.reading_eq, ChannelRecord.samplePos, ChannelRecord.awaits_of_ending hs hu he,
    ChannelRecord.conducting_of_starting hs]
  simp

/-- R98: the sample that a window end waits for, at a channel that the window end leaves with its switch NORMAL. -/
theorem State.sample_awaited {y : StartRecord} (hv : (s.chan c).reading i = v)
    (hy : ((s.modChan c fun r => (r.takeSample v).startSample v).chan c).start = some y)
    (hw : ((s.modChan c fun r => (r.takeSample v).startSample v).chan c).awaits = true)
    (hf : (((s.modChan c fun r => (r.takeSample v).startSample v).windowEnd c y).chan c).shortFound v = false)
    (hh : (((s.modChan c fun r => (r.takeSample v).startSample v).windowEnd c y).chan c).prot.hot = false) (hx : x < 170) :
    s.sample c i x
      = ((s.modChan c fun r => (r.takeSample v).startSample v).windowEnd c y).modChan c (·.shortSample v) := by
  have hdef : s.sample c i x
      = (((s.modChan c fun r => (r.takeSample v).startSample v).endWaiting c).detectShort c v).readSwitch c x := by
    rw [← hv]
    rfl
  rw [hdef]
  generalize s.modChan c (fun r => (r.takeSample v).startSample v) = t at hy hw hf hh
  have hwait : t.endWaiting c = t.windowEnd c y := by
    unfold State.endWaiting
    rw [hy, hw]
    rfl
  obtain ⟨p, hshort, hhot⟩ := ChannelRecord.shortSample_quiet hf
  rw [hwait, State.detectShort, hf, if_neg Bool.false_ne_true]
  refine State.readSwitch_normal ?_ hx
  rw [State.modChan_chan_self, hshort]
  exact hhot.trans hh

/-- R98: the window's last sample, and then the window end. -/
theorem State.Plain.awaitedSample (p : s.Plain) (hs : (s.chan c).state = .starting) {y : StartRecord} {n : Nat}
    {pr : Protection}
    {r1 : ChannelRecord} (hr1 : r1 = { s.chan c with prot := pr, start := some y, span := n })
    (hpr : pr.hot = (s.chan c).prot.hot ∧ pr.shortMark = (s.chan c).prot.shortMark)
    (hy : ((s.chan c).takeSample v).startSample v = r1)
    (hend : y.ending = true) (hv : (s.chan c).reading i = v)
    (hf : v < (s.chan c).cfg.shortThreshold ∨ (s.chan c).prot.shortMark = false)
    (hh : (s.chan c).prot.hot = false) (hx : x < 170) :
    Answers (exec (.currentSample c i x) s) fun t =>
      (∃ p, t.chan c = ({ r1.windowEnded y with prot := p } : ChannelRecord).followed)
        ∧ t.Unslotted c ∧ ∀ d, d ≠ c → t.chan d = (s.chan d).followed := by
  have hsample := State.sample_awaited (s := s) (c := c) (i := i) (v := v) (x := x) (y := y) hv
  have hothers : ∀ d, d ≠ c → (s.modChan c fun r => (r.takeSample v).startSample v).chan d = s.chan d := fun d hd =>
    State.modChan_chan_ne _ hd _
  have hplain : (s.modChan c fun r => (r.takeSample v).startSample v).Plain := ⟨p.noFollower, p.noQueue⟩
  have hchan : (s.modChan c fun r => (r.takeSample v).startSample v).chan c = r1 := (State.modChan_chan_self s c _).trans hy
  generalize s.modChan c (fun r => (r.takeSample v).startSample v) = w at hsample hothers hplain hchan
  have hstarting : r1.state = .starting := by
    rw [hr1]
    exact hs
  have hstart : r1.start = some y := by rw [hr1]
  have hwaits : r1.awaits = true := ChannelRecord.awaits_of_ending hstarting hstart hend
  obtain ⟨hended, hun, hbind, hrest⟩ := hplain.windowEnd (by rw [hchan]; exact hstarting) y
  rw [hchan] at hended
  have hsame : (s.chan c).SameSwitch (r1.windowEnded y) :=
    ChannelRecord.SameSwitch.trans (by rw [hr1]; exact ⟨rfl, hpr.1, hpr.2.trans⟩) (ChannelRecord.sameSwitch_windowEnded y r1)
  have hfound := hsame.shortFound hf
  obtain ⟨p', hshort, -⟩ := ChannelRecord.shortSample_quiet hfound
  replace hsample := hsample (by rw [hchan]; exact hstart) (by rw [hchan]; exact hwaits) (by rw [hended]; exact hfound)
    (by rw [hended]; exact hsame.hot.trans hh) hx
  have hsettle : (s.sample c i x).settle = ((w.windowEnd c y).modChan c (·.shortSample v)).echoed := by
    rw [hsample]
    refine State.Unslotted.settle (s := (w.windowEnd c y).modChan c (·.shortSample v)) (hun.of_sequencer rfl) fun b hm =>
      hplain.noFollower b ?_
    rw [← hbind]
    exact hm
  refine ⟨_, congrArg Host.Outcome.next hsettle, ⟨p', ?_⟩, hun.of_sequencer rfl, fun d hd => ?_⟩
  · rw [State.echoed_chan, State.modChan_chan_self, hended, hshort]
  · rw [State.echoed_chan, State.modChan_chan_ne _ hd, hrest d hd, hothers d hd]

end Sys2Proof.Machine

/-- Settles O35. -/
theorem windowEndIdentifies : Obligations.WindowEndIdentifies := by
  open Sys2Proof.Machine in
  intro c d i degrees rest u s hs hu r judged full v limit last
  have hjudged : ∀ (u : StartRecord) (t : State), r.WindowJudged u (t.chan c) → t.Unslotted c →
      (∀ e, e ≠ c → t.chan e = (s.chan e).followed) → judged u t := by
    intro u t h hun hothers
    have hidDue : ∀ b : Bool, b = true → (r.idDue || b) = true := fun b hb => by rw [hb, Bool.or_true]
    dsimp only [judged]
    rw [u.failed_iff]
    refine ⟨hun.not0, hun.not1, fun hf => ⟨(h.unjudged hf).1, (h.unjudged hf).2, fun hm => ?_, fun hm hn => ?_, fun hm hn => ?_⟩,
      h.stored, fun hf hk ha => ?_, fun hf hk ha hd => ?_, fun hf hk hm => ?_, fun hf hk hm => ?_, fun hf hk hm => ?_, hothers⟩
    · obtain ⟨hhalts, hstate, hcount⟩ := h.latched hf hm
      exact hhalts.stopped hstate hcount
    · obtain ⟨hhalts, hstate, hcount⟩ := h.past hf hm hn
      exact hhalts.stopped hstate hcount
    · obtain ⟨hhalts, hstate, hcount, hretry⟩ := h.within hf hm hn
      exact ⟨hstate, hhalts.active, hhalts.faults, hcount, hretry⟩
    · have hruns := h.accepted hf hk (ha.imp_left (r.cfg.accepted.accepts_iff _).1)
      exact ⟨hruns.runs rfl, hruns.idDue⟩
    · have hstop := h.mismatch hf hk (mt (r.cfg.accepted.accepts_iff _).2 ha) hd
      exact ⟨hstop.halts.stopped hstop.state hstop.count, hstop.halts.idDue.trans (by rw [hd]; rfl)⟩
    · have hstop := h.openLatched hf hk hm
      exact ⟨hstop.halts.stopped hstop.state hstop.count, hstop.halts.idDue.trans (hidDue _ rfl)⟩
    · have hruns := h.openReported hf hk hm
      exact ⟨hruns.runs hk.symm, hruns.idDue.trans (hidDue _ rfl), hruns.faults⟩
    · have hruns := h.openIgnored hf hk hm
      exact ⟨hruns.runs hk.symm, hruns.idDue, hruns.faults⟩
  refine ⟨fun hl => ?_, fun hl hn he => ?_, fun hl h p => ?_, fun he hn hf hh hx p => ?_, fun hl h hb hsound hq hh hc => ?_⟩
  · exact (exec_windowEnd hs hu).trans (if_pos hl)
  · rw [exec_windowEnd hs hu, if_neg (not_not.2 hl), if_pos]
    · rfl
    · rw [(u.lacksLast_iff).2 hn, he]
      rfl
  · obtain ⟨hchan, hun, hbind, hothers⟩ := p.windowEnd hs u
    have hsettle : (s.windowEnd c u).settle = (s.windowEnd c u).echoed := hun.settle fun b hm => p.noFollower b (hbind ▸ hm)
    refine ⟨_, (exec_windowEnd_taken hs hu hl h).trans (congrArg _ hsettle), ?_⟩
    refine hjudged u _ ?_ (hun.of_sequencer rfl) fun e he => ?_
    · rw [State.echoed_chan, hchan]
      exact ChannelRecord.WindowJudged.beside (p := r.prot) (y := r.start) (n := r.span) (ChannelRecord.windowJudged hs u)
    · rw [State.echoed_chan, hothers e he]
  · have hread : r.reading i = v := ChannelRecord.reading_awaited hs hu he i
    have hlast : u.takeSample v r.cfg.currentLimit = last := by
      rw [StartRecord.takeSample_within (by omega), hn]
      rfl
    have htaken := ChannelRecord.startSample_starting (r := r.takeSample v) hs hu v
    rw [show (r.takeSample v).cfg = r.cfg from rfl, hlast] at htaken
    obtain ⟨t, hexec, ⟨p', hq⟩, hun, hothers⟩ := p.awaitedSample (y := last) (pr := (r.takeSample v).prot) hs rfl ⟨rfl, rfl⟩
      htaken he hread hf hh hx
    refine ⟨t, hexec, hjudged last t ?_ hun hothers⟩
    have hlastJudged := ChannelRecord.windowJudged (r := { r with
      prot := (r.takeSample v).prot, start := some last
      span := if u.opens v r.cfg.currentLimit then 0 else (r.takeSample v).span }) hs last
    rw [hq]
    exact hlastJudged.beside
  · obtain ⟨hseq, hchan⟩ := hsound.windowEnd hq hc hh hb hs u
    refine ⟨_, exec_windowEnd_taken hs hu hl h, hseq, ?_⟩
    rw [hchan]
    exact ⟨rfl, rfl, _, rfl⟩
end
